-- ==== Sys2Proof/Word.lean ====
section
/-! DEFINITION. Words of the SX44: bytes, lines of bytes, port and channel numbers, and the four-place
table `Quad` that holds one thing per port or per channel (00_scope.md, Section 4.2). -/

namespace Sys2Proof

/-- One byte of a message, a management frame or a line of pool memory. -/
abbrev Byte := BitVec 8

/-- Ports are numbered 0 to 3 (00_scope.md, Section 4.2). -/
abbrev PortId := Fin 4

/-- DRAM channels are numbered 0 to 3, of which 0 to C - 1 are populated (R130). -/
abbrev ChannelId := Fin 4

/-- One value for each of the four ports, or for each of the four channels. -/
structure Quad (α : Type) where
  v0 : α
  v1 : α
  v2 : α
  v3 : α
  deriving DecidableEq, Repr

/-- The same value at all four places. -/
def Quad.all {α : Type} (x : α) : Quad α := ⟨x, x, x, x⟩

/-- The value at place `i`. -/
def Quad.get {α : Type} (q : Quad α) (i : Fin 4) : α :=
  match i.val with
  | 0 => q.v0
  | 1 => q.v1
  | 2 => q.v2
  | _ => q.v3

/-- The table with place `i` replaced. -/
def Quad.set {α : Type} (q : Quad α) (i : Fin 4) (x : α) : Quad α :=
  match i.val with
  | 0 => { q with v0 := x }
  | 1 => { q with v1 := x }
  | 2 => { q with v2 := x }
  | _ => { q with v3 := x }

/-- The four places in number order. -/
def ports : List PortId := [0, 1, 2, 3]

end Sys2Proof
end

