-- ==== Sys2Proof/Config.lean ====
section
/-! DEFINITION. What the part fixes (capacities and sizes of 00_scope.md and of the limits table of
11_formats_signals_and_limits.md, Section 11.4) and the FREE VALUES: choices the manual leaves open,
as opaque constants of which nothing can be proved. -/

namespace Sys2Proof

/-- Lines of one frame (R1). -/
def Config.linesPerFrame : Nat := 32768
/-- Bytes of one line (R1). -/
def Config.lineBytes : Nat := 64
/-- Frames a channel has at most (R130, R194). -/
def Config.maxChannelFrames : Nat := 8192
/-- Host pages of one port's window, and entries of one port map (R26). -/
def Config.hpnCount : Nat := 8192
/-- Lines of frame 0, one map entry each (R26, R46). -/
def Config.mapLines : Nat := 32768
/-- Places of a Request Queue (R108), and the request credits granted at ATTACH (R164). -/
def Config.requestQueueSize : Nat := 32
/-- Places of a Command Queue (R162), and the command credits granted at ATTACH (R164). -/
def Config.commandQueueSize : Nat := 4
/-- Places of a Notice Queue (R170). -/
def Config.noticeQueueSize : Nat := 32
/-- The most completion or notice credits a port can hold (R166, R168). -/
def Config.maxHostCredits : Nat := 255
/-- Places of the Map Write Queue (R28). -/
def Config.mapWriteQueueSize : Nat := 16
/-- Places of the Walk Queue (R36). -/
def Config.walkQueueSize : Nat := 8
/-- Entries of one Translation Cache (R40). -/
def Config.cacheSize : Nat := 24
/-- Records of the Recall Table (R87). -/
def Config.recallTableSize : Nat := 64
/-- Offers of the Offer Table (R71). -/
def Config.offerTableSize : Nat := 16
/-- Claims of the Claim Queue (R58). -/
def Config.claimQueueSize : Nat := 8
/-- Frames one CLAIM may ask for (R55). -/
def Config.maxClaim : Nat := 16
/-- Lines one READ or WRITE may name (R110). -/
def Config.maxLines : Nat := 4
/-- Accesses of one Channel Queue (R132). -/
def Config.channelQueueSize : Nat := 16
/-- Accesses the Scrub Engine keeps outstanding (R150). -/
def Config.scrubOutstanding : Nat := 8
/-- Records of the Fault Log (R189). -/
def Config.faultLogSize : Nat := 32
/-- Grant ids, recall ids and fault sequence numbers run from 0 to 65,535 and wrap (R72, R89, R189). -/
def Config.idSpan : Nat := 65536

/-- FREE VALUE. Whether a write access that a reset discards from a Channel Queue had already been
stored: R148 leaves its line "holding either its content before the access or the content the access
would have stored". Applied to `State.freeCount`, which each use advances. -/
opaque Config.discardedWriteStored : Nat → Bool

/-- FREE VALUE. R93 lets the Recall Unit and the Allocation Engine reach a freed Notice Queue place "in
either order". Where one event both frees a place and appends a WITHDRAWN notice to the same queue, this
says whether the Recall Unit reaches the place first. Applied to `State.freeCount`. -/
opaque Config.recallUnitFirst : Nat → Bool

/-- FREE VALUE. Byte 3 of QUERY-FRAME's data, "tag of the RELEASE", where the leave reason is absent or is not RELEASE:
R193 gives no value there (assumption log, 36). Applied to the data's other bytes. -/
opaque Config.absentReleaseTag : List Byte → Byte

end Sys2Proof
end

