-- ==== Sys2Proof/Syntax.lean ====
section
/-! DEFINITION. The commands of the block: one constructor of `Instr` for each row of
spec/opcode_table.json (the part's steps, each whole and indivisible: 95_what_each_step_holds.md), and
the message and request types they carry. -/

namespace Sys2Proof

/-- The class of a memory request (R109); codes 0 and 1 (R192). -/
inductive ReqClass where
  | normal
  | urgent
  deriving DecidableEq, Repr

/-- The access a mapping grants (R4, R26); codes 0 and 1 (R192). -/
inductive Access where
  | read
  | readWrite
  deriving DecidableEq, Repr

/-- A memory request by kind, with the fields set at its arrival (R109). `data` and the mask of enables
have one entry per byte; `compare` and `new` are 8 bytes each. -/
inductive ReqKind where
  | read (cls : ReqClass) (hpn line count : Nat)
  | write (cls : ReqClass) (hpn line count : Nat) (mask : Option (List Bool)) (data : List Byte)
  | cswap (cls : ReqClass) (hpn line granule : Nat) (compare new : List Byte)
  | fence
  | flush
  | detach
  deriving DecidableEq, Repr

/-- A pool command (Chapters 3 and 4). A target is a number as sent: 0 to 3 name a port (R73). -/
inductive PoolCmd where
  | claim (hpn count : Nat)
  | release (hpn : Nat)
  | drop (hpn : Nat)
  | grant (hpn target : Nat) (access : Access)
  | accept (grantId hpn : Nat)
  | decline (grantId : Nat)
  | revoke (hpn target : Nat)
  deriving DecidableEq, Repr

/-- A message a host can send (R163, Table 11-1). -/
inductive HostMsg where
  | attach
  | credit (completions notices : Nat)
  | recallAck (recallId : Nat)
  | resetPort
  | request (tag : Nat) (kind : ReqKind)
  | command (tag : Nat) (cmd : PoolCmd)
  deriving DecidableEq, Repr

/-- A management request (R180, Table 11-5) with its arguments as received. `malformed` is a request of
an unlisted kind or with a wrong number of argument bytes, kept as received (R178). -/
inductive MgmtReq where
  | getPoolStatus
  | getPortStatus (port : Nat)
  | queryFrame (frame : Nat)
  | evict (frame : Nat)
  | quarantine (frame : Nat)
  | returnFrame (frame : Nat)
  | setQuota (port quota : Nat)
  | setWeight (port weight : Nat)
  | setTimeout (kind ms : Nat)
  | setThreshold (threshold : Nat)
  | portDisable (port : Nat)
  | portEnable (port : Nat)
  | portReset (port : Nat)
  | logRead
  | chipReset
  | malformed (bytes : List Byte)
  deriving DecidableEq, Repr

/-- What the memory does to one read of a line: Section 7.3, "Which reads meet errors is decided by the
memory, not by the part". -/
inductive EccCondition where
  | clean
  | correctable
  | uncorrectable
  deriving DecidableEq, Repr

/-- The commands: every row of spec/opcode_table.json, in the table's order. -/
inductive Instr where
  /-- POWER_ON (R158): supply becomes valid with the POP2..POP0 pins at `pop` (R194). -/
  | powerOn (pop : BitVec 3)
  /-- RESET_N_ASSERT (R158): RESET_N goes low with the POP2..POP0 pins at `pop`. -/
  | resetNAssert (pop : BitVec 3)
  /-- RESET_N_RELEASE (R158). -/
  | resetNRelease
  /-- FAR_END_DETECTED (R161) on the link of port `p`. -/
  | farEndDetected (p : PortId)
  /-- TRAINING_COMPLETES (R161). -/
  | trainingCompletes (p : PortId)
  /-- TRAINING_FAILS (R161). -/
  | trainingFails (p : PortId)
  /-- LINK_DOWN (R173). -/
  | linkDown (p : PortId)
  /-- ATTACH (R164) arrives at port `p`. -/
  | attach (p : PortId)
  /-- CREDIT (R168) arrives, with its two amounts. -/
  | credit (p : PortId) (completions notices : Nat)
  /-- RECALL_ACK (R95) arrives. -/
  | recallAck (p : PortId) (recallId : Nat)
  /-- RESET_PORT (R173) arrives. -/
  | resetPort (p : PortId)
  /-- MALFORMED_MESSAGE (R192): a message arrives whose bytes, header first, are `bytes`. -/
  | malformedMessage (p : PortId) (bytes : List Byte)
  /-- READ (R110) arrives. -/
  | read (p : PortId) (tag : Nat) (cls : ReqClass) (hpn line count : Nat)
  /-- WRITE (R110) arrives, with or without byte mask. -/
  | write (p : PortId) (tag : Nat) (cls : ReqClass) (hpn line count : Nat) (mask : Option (List Bool))
      (data : List Byte)
  /-- CSWAP (R114) arrives. -/
  | cswap (p : PortId) (tag : Nat) (cls : ReqClass) (hpn line granule : Nat) (compare new : List Byte)
  /-- FENCE (R118) arrives. -/
  | fence (p : PortId) (tag : Nat)
  /-- FLUSH (R119) arrives. -/
  | flush (p : PortId) (tag : Nat)
  /-- DETACH (R120) arrives. -/
  | detach (p : PortId) (tag : Nat)
  /-- COMMAND_ARRIVAL (R163): a pool command arrives. -/
  | commandArrival (p : PortId) (tag : Nat) (cmd : PoolCmd)
  /-- CLAIM (R56): the Allocation Engine serves port `p`, whose queue head is a CLAIM. -/
  | claim (p : PortId)
  /-- RELEASE (R64). -/
  | release (p : PortId)
  /-- DROP (R68). -/
  | drop (p : PortId)
  /-- GRANT (R73). -/
  | grant (p : PortId)
  /-- ACCEPT (R76). -/
  | accept (p : PortId)
  /-- DECLINE (R78). -/
  | decline (p : PortId)
  /-- REVOKE (R82). -/
  | revoke (p : PortId)
  /-- ENGINE_TAKES_TEARDOWN (R63) of port `p`. -/
  | engineTakesTeardown (p : PortId)
  /-- TEARDOWN_SCAN (R52): one turn of the scan of port `p`. -/
  | teardownScan (p : PortId)
  /-- CLAIM_DEADLINE (R61) of the parked claim of port `p` with `tag`. -/
  | claimDeadline (p : PortId) (tag : Nat)
  /-- OFFER_DEADLINE (R79). -/
  | offerDeadline (grantId : Nat)
  /-- RECALL_DEADLINE (R97). -/
  | recallDeadline (recallId : Nat)
  /-- RECALL_COMPLETION_REPORT (R104): the engine takes the completion of the record `recallId`. -/
  | recallCompletionReport (recallId : Nat)
  /-- SCRUB_END_REPORT (R154). -/
  | scrubEndReport
  /-- CORRECTABLE_REPORT (R18): the engine takes the report naming this frame and line. -/
  | correctableReport (frame line : Nat)
  /-- UNCORRECTABLE_REPORT (R19). -/
  | uncorrectableReport (frame line : Nat)
  /-- REPAIR_SEARCH_STEP (R33). -/
  | repairSearchStep
  /-- MAP_ACCESS_GRANT (R29): the channel 0 arbiter grants the Map Unit. -/
  | mapAccessGrant
  /-- MAP_CLEAR_WRITE (R46). -/
  | mapClearWrite
  /-- PORT_ACCESS_GRANT (R121): the arbiter of channel `c` grants port `p`. -/
  | portAccessGrant (c : ChannelId) (p : PortId)
  /-- SCRUB_ACCESS_GRANT (R151): the arbiter of channel `c` grants the Scrub Engine. -/
  | scrubAccessGrant (c : ChannelId)
  /-- CHANNEL_READ (R135): channel `c` carries out the access at place `i` of its queue; the memory meets
  the read with `ecc`. -/
  | channelRead (c : ChannelId) (i : Nat) (ecc : EccCondition)
  /-- CHANNEL_FULL_WRITE (R136). -/
  | channelFullWrite (c : ChannelId) (i : Nat)
  /-- CHANNEL_PARTIAL_WRITE (R137). -/
  | channelPartialWrite (c : ChannelId) (i : Nat) (ecc : EccCondition)
  /-- CHANNEL_CSWAP (R138). -/
  | channelCswap (c : ChannelId) (i : Nat) (ecc : EccCondition)
  /-- MAP_READ_RESULT (R31): the Map Unit takes the result of the read of (`p`, `hpn`). -/
  | mapReadResult (p : PortId) (hpn : Nat)
  /-- LINE_RESULT (R113): the Request Unit of `p` takes the result of `line` of the request `tag`. -/
  | lineResult (p : PortId) (tag line : Nat)
  /-- SCRUB_RESULT (R152): the Scrub Engine takes the `i`-th result handed to it. -/
  | scrubResult (i : Nat)
  /-- COMPLETION_SEND (R169). -/
  | completionSend (p : PortId)
  /-- NOTICE_SEND (R171). -/
  | noticeSend (p : PortId)
  /-- FAULT_RECORD_APPEND (R189): the Management Interface takes the `i`-th record handed to it. -/
  | faultRecordAppend (i : Nat)
  /-- MGMT_REQUEST_TRANSACTION (R178): a transaction ends whose bytes in were `bytes` (R193). -/
  | mgmtRequestTransaction (bytes : List Byte)
  /-- RESULT_TRANSACTION (R179): a result transaction of `length` bytes ends. -/
  | resultTransaction (length : Nat)
  /-- GET_POOL_STATUS (R183): the engine takes it from the management slot. -/
  | getPoolStatus
  /-- GET_PORT_STATUS (R184). -/
  | getPortStatus
  /-- QUERY_FRAME (R185). -/
  | queryFrame
  /-- EVICT (R186). -/
  | evict
  /-- QUARANTINE (R14). -/
  | quarantine
  /-- RETURN (R15). -/
  | returnFrame
  /-- SET_QUOTA (R181): a request transaction carrying SET-QUOTA with request id `id` ends. -/
  | setQuota (id port quota : Nat)
  /-- SET_WEIGHT (R181). -/
  | setWeight (id port weight : Nat)
  /-- SET_TIMEOUT (R181); `kind` 0 RECALL, 1 OFFER, 2 CLAIM. -/
  | setTimeout (id kind ms : Nat)
  /-- SET_THRESHOLD (R181). -/
  | setThreshold (id threshold : Nat)
  /-- PORT_RESET (R174): the Link Port takes the request handed to it. -/
  | portReset
  /-- PORT_DISABLE (R174). -/
  | portDisable
  /-- PORT_ENABLE (R174). -/
  | portEnable
  /-- LOG_READ (R190): a request transaction carrying LOG-READ ends. -/
  | logRead (id : Nat)
  /-- CHIP_RESET (R188): a request transaction carrying CHIP-RESET ends. -/
  | chipReset (id : Nat)
  /-- SUPPLY_FAIL (R178). -/
  | supplyFail
  deriving DecidableEq, Repr

end Sys2Proof
end

