-- ==== Sys2Proof/Decode.lean ====
section
/-! DEFINITION. Reading what arrives as bytes: the pool link messages of a host (R192, Tables 11-1 and
11-2) and the management transactions (R193, Table 11-5). The block's command table gives no row a bit
pattern, so `decodeTableWord` reads no command from a word. -/

namespace Sys2Proof

/-- The two-byte number at offset `i`, least significant byte first (R192, R193). -/
def le16At (bytes : List Byte) (i : Nat) : Nat :=
  (bytes.getD i 0).toNat + 256 * (bytes.getD (i + 1) 0).toNat

/-- The one-byte number at offset `i`. -/
def byteAt (bytes : List Byte) (i : Nat) : Nat := (bytes.getD i 0).toNat

/-- The bytes from offset `i`, `n` of them. -/
def slice (bytes : List Byte) (i n : Nat) : List Byte := (bytes.drop i).take n

/-- "bit b of mask byte j enables data byte 8j + b of the same request" (Section 11.1.1). -/
def maskEnables (maskBytes : List Byte) : List Bool :=
  maskBytes.flatMap fun m => (List.range 8).map fun b => m.toNat.testBit b

/-- A class by its code: NORMAL 0, URGENT 1 (R109, R192). -/
def classOfCode : Nat → Option ReqClass
  | 0 => some .normal
  | 1 => some .urgent
  | _ => none

/-- An access by its code: READ 0, READ_WRITE 1 (R4, R192). -/
def accessOfCode : Nat → Option Access
  | 0 => some .read
  | 1 => some .readWrite
  | _ => none

/-- READ (Table 11-2). -/
def parseRead (tag : Nat) (body : List Byte) : Option HostMsg :=
  if body.length = 6 then
    (classOfCode (byteAt body 0)).map fun cls =>
      .request tag (.read cls (le16At body 2) (le16At body 4) (byteAt body 1))
  else none

/-- WRITE: the body is 8 + 64 × count bytes, plus 8 × count when the mask flag is set (R192). DESIGN CHOICE (assumption
log, 33): flag bits 1 to 7, for which Table 11-2 gives no meaning, are ignored. -/
def parseWrite (tag : Nat) (body : List Byte) : Option HostMsg :=
  let count := byteAt body 1
  let masked := (byteAt body 6).testBit 0
  let maskLen := if masked then 8 * count else 0
  if 8 ≤ body.length ∧ body.length = 8 + maskLen + 64 * count then
    (classOfCode (byteAt body 0)).map fun cls =>
      .request tag (.write cls (le16At body 2) (le16At body 4) count
        (if masked then some (maskEnables (slice body 8 maskLen)) else none)
        (slice body (8 + maskLen) (64 * count)))
  else none

/-- CSWAP: a granule above 7 is outside the encoding (R192). -/
def parseCswap (tag : Nat) (body : List Byte) : Option HostMsg :=
  if body.length = 24 ∧ byteAt body 1 ≤ 7 then
    (classOfCode (byteAt body 0)).map fun cls =>
      .request tag (.cswap cls (le16At body 2) (le16At body 4) (byteAt body 1) (slice body 8 8) (slice body 16 8))
  else none

/-- A message whose body has a fixed length `n`. -/
def parseFixed (n : Nat) (body : List Byte) (m : HostMsg) : Option HostMsg :=
  if body.length = n then some m else none

/-- GRANT: an access code outside the list is outside the encoding (R73, R192). -/
def parseGrant (tag : Nat) (body : List Byte) : Option HostMsg :=
  if body.length = 4 then
    (accessOfCode (byteAt body 3)).map fun a => .command tag (.grant (le16At body 0) (byteAt body 2) a)
  else none

/-- The body of the message kind `code` (Tables 11-1 and 11-2). DESIGN CHOICE (assumption log, 34): from a host, a kind
code that Table 11-1 lists for the part's own messages is out of the encoding, as an unlisted one is. -/
def parseBody (code tag : Nat) (body : List Byte) : Option HostMsg :=
  match code with
  | 0x01 => parseRead tag body
  | 0x02 => parseWrite tag body
  | 0x03 => parseCswap tag body
  | 0x04 => parseFixed 0 body (.request tag .fence)
  | 0x05 => parseFixed 0 body (.request tag .flush)
  | 0x06 => parseFixed 0 body (.request tag .detach)
  | 0x10 => parseFixed 4 body (.command tag (.claim (le16At body 0) (byteAt body 2)))
  | 0x11 => parseFixed 2 body (.command tag (.release (le16At body 0)))
  | 0x12 => parseFixed 2 body (.command tag (.drop (le16At body 0)))
  | 0x13 => parseGrant tag body
  | 0x14 => parseFixed 4 body (.command tag (.accept (le16At body 0) (le16At body 2)))
  | 0x15 => parseFixed 2 body (.command tag (.decline (le16At body 0)))
  | 0x16 => parseFixed 4 body (.command tag (.revoke (le16At body 0) (byteAt body 2)))
  | 0x20 => parseFixed 0 body .attach
  | 0x21 => parseFixed 2 body (.credit (byteAt body 0) (byteAt body 1))
  | 0x22 => parseFixed 2 body (.recallAck (le16At body 0))
  | 0x23 => parseFixed 0 body .resetPort
  | _ => none

/-- The message that `bytes`, a 4-byte header and a body, spell; `none` where they are out of their encoding (R192).
DESIGN CHOICE (assumption log, 35): so are fewer bytes than a header, and a length field that differs from the number of
bytes that follow. -/
def parseHostMsg (bytes : List Byte) : Option HostMsg :=
  let body := bytes.drop 4
  if 4 ≤ bytes.length ∧ le16At bytes 2 = body.length then parseBody (byteAt bytes 0) (byteAt bytes 1) body
  else none

/-- A management request by its kind byte and argument bytes (Table 11-5). -/
def parseMgmtReq (kind : Nat) (args : List Byte) : MgmtReq :=
  match kind, args.length with
  | 0x01, 0 => .getPoolStatus
  | 0x02, 1 => .getPortStatus (byteAt args 0)
  | 0x03, 2 => .queryFrame (le16At args 0)
  | 0x04, 2 => .evict (le16At args 0)
  | 0x05, 2 => .quarantine (le16At args 0)
  | 0x06, 2 => .returnFrame (le16At args 0)
  | 0x07, 3 => .setQuota (byteAt args 0) (le16At args 1)
  | 0x08, 2 => .setWeight (byteAt args 0) (byteAt args 1)
  | 0x09, 3 => .setTimeout (byteAt args 0) (le16At args 1)
  | 0x0A, 1 => .setThreshold (byteAt args 0)
  | 0x0B, 1 => .portDisable (byteAt args 0)
  | 0x0C, 1 => .portEnable (byteAt args 0)
  | 0x0D, 1 => .portReset (byteAt args 0)
  | 0x0E, 0 => .logRead
  | 0x0F, 0 => .chipReset
  | _, _ => .malformed (BitVec.ofNat 8 kind :: args)

/-- A management transaction by its bytes (R193): none with no complete byte, a result transaction when
the first byte is 0x00, else a request with its id (0 when the transaction has one byte). -/
inductive MgmtTransaction where
  | empty
  | result (length : Nat)
  | request (id : Nat) (req : MgmtReq)
  deriving DecidableEq, Repr

/-- What a management transaction of these bytes is (R193). -/
def parseMgmtTransaction (bytes : List Byte) : MgmtTransaction :=
  match bytes with
  | [] => .empty
  | k :: rest =>
    if k = 0 then .result bytes.length
    else .request (byteAt rest 0) (parseMgmtReq k.toNat (rest.drop 1))

/-- The command that a word spells by the opcode table's bits. No row of spec/opcode_table.json gives
bits (every "fields" list is empty and no row has "fixed"), so no word spells a command. -/
def decodeTableWord (_nbits _w : Nat) : Option Instr := none

end Sys2Proof
end

