-- ==== Sys2Proof/Machine/State.lean ====
section
/-! DEFINITION. The state of the SX44 as plain data: everything the manual gives the part (the blocks of
00_scope.md, Section 2), the items in flight between blocks, the queue of commands that wait, and the
values after reset. -/

namespace Sys2Proof.Machine

/-- Why the machine stops. -/
inductive Fault where
  /-- Raised by the Channel Controller operations of Machine/Channels.lean for a line access that names a
  frame the populated pool does not have: "numbered 0 to F-1" (R1). No reachable queue holds such an
  access. SAFE: the model stops where no address exists. -/
  | noSuchFrame (frame : Nat)
  deriving DecidableEq, Repr

/-- Why a command has no meaning. -/
inductive Refusal where
  /-- Raised by an arm of `exec` for a command that has no meaning yet. SAFE: the model stops. No arm
  raises it in this model. -/
  | notModelled (mnemonic : String)
  deriving DecidableEq, Repr

/-! ### The Frame Directory (Chapter 1) -/

/-- Frame states, in the order of R3. -/
inductive FrameState where
  | reserved
  | free
  | scrubbing
  | held
  | shared
  | recalling
  | quarantined
  deriving DecidableEq, Repr

/-- The role of a mapping item (R4). -/
inductive Role where
  | holder
  | reader
  deriving DecidableEq, Repr

/-- The phase of a mapping item (R4, R5). -/
inductive ItemPhase where
  | active
  | leaving
  deriving DecidableEq, Repr

/-- A mapping item (R4). -/
structure MapItem where
  port : PortId
  hpn : Nat
  access : Access
  role : Role
  phase : ItemPhase
  deriving DecidableEq, Repr

/-- Why a frame is RECALLING (R3). -/
inductive LeaveReason where
  | release (tag : Nat)
  | evict
  | teardown
  deriving DecidableEq, Repr

/-- A Frame Directory record (R3). -/
structure FrameRecord where
  state : FrameState
  holder : Option PortId
  items : List MapItem
  leave : Option LeaveReason
  quarantineOnExit : Bool
  damaged : Bool
  count : Nat
  deriving DecidableEq, Repr

/-- The record that a reset writes for frame `f` (R23, R24): what a frame the directory does not list
reads as. -/
def FrameRecord.afterReset (f : Nat) : FrameRecord :=
  { state := if f = 0 then .reserved else .scrubbing, holder := none, items := [], leave := none,
    quarantineOnExit := false, damaged := false, count := 0 }

/-! ### Port maps, Map Unit and Walker (Chapter 2) -/

/-- The value of a map entry (R26). -/
inductive MapValue where
  | invalid
  | valid (frame : Nat) (access : Access)
  deriving DecidableEq, Repr

/-- Who asked for a map write (R28), with what its report needs: the claim in progress, the two
completions of an ACCEPT (R77), or the recall record. -/
inductive MapProducer where
  | claim (port : PortId) (tag : Nat)
  | accept (port : PortId) (tag : Nat) (holder : PortId) (grantTag grantId : Nat)
  | unmap (recallId : Nat)
  | repair
  deriving DecidableEq, Repr

/-- A map write (R28). -/
structure MapWrite where
  port : PortId
  hpn : Nat
  value : MapValue
  producer : MapProducer
  deriving DecidableEq, Repr

/-- A map write in the Map Write Queue, with its place in the order of arrival (R29). -/
structure QueuedWrite where
  write : MapWrite
  arrival : Nat
  deriving DecidableEq, Repr

/-- An outstanding map read (R31), with its place in the order of arrival (R29). -/
structure MapRead where
  port : PortId
  hpn : Nat
  issued : Bool
  arrival : Nat
  deriving DecidableEq, Repr

/-- Where a map repair stands (R33 to R35): waiting for its turn, searching with the next frame to read,
its write asked for or queued, or giving way to the ordinary write of that arrival number. -/
inductive RepairPhase where
  | queued
  | searching (next : Nat)
  | writing (value : MapValue)
  | superseded (arrival : Nat)
  deriving DecidableEq, Repr

/-- A repair in progress (R33). -/
structure Repair where
  port : PortId
  hpn : Nat
  phase : RepairPhase
  deriving DecidableEq, Repr

/-- A walk (R36). -/
structure Walk where
  port : PortId
  hpn : Nat
  stale : Bool
  deriving DecidableEq, Repr

/-- The Map Unit: the Map Write Queue, the writes that wait for a place in it, the outstanding map reads,
the repairs in progress, the next line of MAP_CLEAR while that phase runs, and the arrival counter. -/
structure MapUnit where
  queue : List QueuedWrite
  waiting : List MapWrite
  reads : List MapRead
  repairs : List Repair
  clearNext : Option Nat
  arrivals : Nat
  deriving DecidableEq, Repr

/-- The Walker: the Walk Queue and the retry list of requests, by port and tag (R36, R38). -/
structure Walker where
  walks : List Walk
  retry : List (PortId × Nat)
  deriving DecidableEq, Repr

/-- A Translation Cache entry (R40); a cache is kept most recently used first. -/
structure CacheEntry where
  hpn : Nat
  frame : Nat
  access : Access
  deriving DecidableEq, Repr

/-! ### Statuses, completions, notices and messages out (Chapters 6, 9 and 11) -/

/-- Statuses, in the order of Table 11-4. -/
inductive Status where
  | ok
  | bounds
  | unmapped
  | protection
  | poisoned
  | conflict
  | quota
  | noFrames
  | busy
  | notMapped
  | role
  | leaving
  | badPort
  | targetGone
  | duplicate
  | staleGrant
  | declined
  | expired
  | withdrawn
  | starting
  | disabled
  deriving DecidableEq, Repr

/-- What a completion carries besides tag and status (R125, R74, Table 11-3): one of the result forms 0
to 5. -/
inductive Payload where
  | none
  | readData (bytes : List Byte)
  | failedLines (lines : List Nat)
  | readDataFailed (bytes : List Byte) (lines : List Nat)
  | swap (old : List Byte) (swapped : Bool)
  | grantId (id : Nat)
  deriving DecidableEq, Repr

/-- What a completion answers: a memory request other than DETACH, a DETACH, or a pool command. -/
inductive CompletionOf where
  | request
  | detach
  | command
  deriving DecidableEq, Repr

/-- A completion (R50, R125). -/
structure Completion where
  tag : Nat
  status : Status
  payload : Payload
  answers : CompletionOf
  deriving DecidableEq, Repr

/-- Recall reasons, in the order of R88. -/
inductive RecallReason where
  | release
  | drop
  | revoke
  | evict
  | holderGone
  | portGone
  deriving DecidableEq, Repr

/-- The cause of a WITHDRAWN notice (R81). -/
inductive WithdrawnCause where
  | expiry
  | withdrawal
  deriving DecidableEq, Repr

/-- A notice (R170). -/
inductive Notice where
  | recallNotice (recallId hpn : Nat) (reason : RecallReason)
  | offer (grantId : Nat) (fromPort : PortId) (fromHpn : Nat) (access : Access)
  | withdrawn (grantId : Nat) (cause : WithdrawnCause)
  deriving DecidableEq, Repr

/-- Teardown causes, in the order of R162. -/
inductive TeardownCause where
  | detach
  | resetPort
  | protocol
  | linkLost
  | portReset
  | portDisable
  deriving DecidableEq, Repr

/-- A message the part sends on a pool link (Table 11-1). -/
inductive OutMsg where
  | completion (c : Completion)
  | attachAck (port : PortId) (session frames quota : Nat)
  | attachRefused (port : PortId) (status : Status)
  | creditReturn (requests commands : Nat)
  | sessionEnd (session : Nat) (cause : TeardownCause)
  | notice (n : Notice)
  deriving DecidableEq, Repr

/-! ### Link Ports (Chapter 9) -/

/-- Link states (R161). -/
inductive LinkState where
  | down
  | training
  | up
  deriving DecidableEq, Repr

/-- Port states (R162). -/
inductive PortState where
  | offline
  | idle
  | attached
  | detaching
  | disabled
  deriving DecidableEq, Repr

/-- A Link Port (R162), its three end-of-teardown reports (R176) and, as the model's own field, the
messages it has sent, oldest first. `tags` has no repeats. -/
structure LinkPort where
  link : LinkState
  state : PortState
  session : Nat
  disablePending : Bool
  cause : Option TeardownCause
  requestCredits : Nat
  requestReturns : Nat
  commandCredits : Nat
  commandReturns : Nat
  completionCredits : Nat
  noticeCredits : Nat
  tags : List Nat
  commands : List (Nat × PoolCmd)
  outbound : List Completion
  notices : List Notice
  queueEmptyReport : Bool
  engineReport : Bool
  recallReport : Bool
  sent : List OutMsg
  deriving DecidableEq, Repr

/-- A Link Port after a reset (R162). What was sent before stays sent. -/
def LinkPort.afterReset (sent : List OutMsg) : LinkPort :=
  { link := .down, state := .offline, session := 0, disablePending := false, cause := none,
    requestCredits := 0, requestReturns := 0, commandCredits := 0, commandReturns := 0,
    completionCredits := 0, noticeCredits := 0, tags := [], commands := [], outbound := [], notices := [],
    queueEmptyReport := false, engineReport := false, recallReport := false, sent := sent }

/-! ### Request Units (Chapter 6) -/

/-- What the results of an entry's lines have brought so far (R109, R113, R114): the failed lines, the
64 bytes of each line read, and the outcome of a compare-swap. -/
structure Gathered where
  failed : List Nat
  lines : List (List Byte)
  swap : Option (List Byte × Bool)
  deriving DecidableEq, Repr

/-- The state of a Request Queue entry, with the fields present in it (R109). -/
inductive ReqState where
  | waiting
  | walking
  | bound (frame : Nat)
  | issued (frame granted results : Nat) (got : Gathered)
  | done (status : Status) (got : Gathered)
  deriving DecidableEq, Repr

/-- A Request Queue entry (R109). -/
structure ReqEntry where
  tag : Nat
  kind : ReqKind
  state : ReqState
  deriving DecidableEq, Repr

/-! ### The Allocation Engine (Chapters 1, 3 and 4) -/

/-- A parked claim (R58). -/
structure ParkedClaim where
  port : PortId
  tag : Nat
  hpn : Nat
  count : Nat
  deadline : Nat
  deriving DecidableEq, Repr

/-- A granted claim whose map writes are not all performed: how many are left (R57). -/
structure GrantedClaim where
  port : PortId
  tag : Nat
  left : Nat
  deriving DecidableEq, Repr

/-- An offer (R71). -/
structure Offer where
  grantId : Nat
  frame : Nat
  fromPort : PortId
  tag : Nat
  fromHpn : Nat
  toPort : PortId
  access : Access
  deadline : Nat
  sent : Bool
  deriving DecidableEq, Repr

/-- Where the engine stands with the teardown of a port (R52, R63, R175): none, handed over and not yet
taken, scanning from a frame on and perhaps waiting for free records, or past frame F - 1. -/
inductive ScanState where
  | idle
  | handed
  | scanning (next : Nat) (waiting : Bool)
  | finished
  deriving DecidableEq, Repr

/-- The Allocation Engine. `pointer` is the source served last: a port, or 4 for the management slot
(R48). `directory` lists the records that differ from `FrameRecord.afterReset`. -/
structure Engine where
  directory : List (Nat × FrameRecord)
  freeList : List Nat
  claims : List ParkedClaim
  granted : List GrantedClaim
  offers : List Offer
  grantCounter : Nat
  held : Quad Nat
  pointer : Fin 5
  headWaiting : Quad Bool
  teardown : Quad ScanState
  slot : Option MgmtReq
  deriving DecidableEq, Repr

/-! ### The Recall Unit (Chapter 5) -/

/-- Phases of a recall record (R88). -/
inductive RecallPhase where
  | notifyPending
  | notified
  | unmapping
  | draining
  deriving DecidableEq, Repr

/-- A recall record (R88). -/
structure RecallRecord where
  recallId : Nat
  frame : Nat
  port : PortId
  hpn : Nat
  role : Role
  reason : RecallReason
  notify : Bool
  phase : RecallPhase
  noticeSent : Option Bool
  deadline : Option Nat
  origin : Option (PortId × Nat)
  drained : Option Bool
  deriving DecidableEq, Repr

/-- The Recall Unit: the Recall Table, the pending list of each port (R93), the id counter (R89), and the
records reported complete whose report the Allocation Engine has not taken (R104), by id. -/
structure RecallUnit where
  table : List RecallRecord
  pendingLists : Quad (List Nat)
  counter : Nat
  reported : List Nat
  deriving DecidableEq, Repr

/-! ### Channels and arbiters (Chapter 7) -/

/-- The requester of an access with its reference (R132). A scrub access carries the number of the scrub
it belongs to and whether it is a VERIFY read. -/
inductive AccessOf where
  | mapRead (port : PortId) (hpn : Nat)
  | mapWrite
  | port (port : PortId) (tag : Nat)
  | scrub (number : Nat) (verify : Bool)
  deriving DecidableEq, Repr

/-- The kind of an access with its data (R132). A map write is a FULL WRITE of the line that encodes the
entry; that encoding "is internal to the part and is not published" (R26), so the value stands for it. -/
inductive AccessKind where
  | read
  | fullWrite (data : List Byte)
  | mapWrite (value : MapValue)
  | partialWrite (data : List Byte) (mask : List Bool)
  | cswap (granule : Nat) (compare new : List Byte)
  deriving DecidableEq, Repr

/-- An access in a Channel Queue (R132). -/
structure Access64 where
  owner : AccessOf
  frame : Nat
  line : Nat
  kind : AccessKind
  deriving DecidableEq, Repr

/-- The arbiter's round state (R145, R146). `begun` is false from a reset to the first grant that R145
decides, when the first round begins (R148). -/
structure Round where
  begun : Bool
  start : PortId
  allowance : Quad Nat
  used : Quad Nat
  scrubUsed : Bool
  deriving DecidableEq, Repr

/-- A Channel Controller's queue and its arbiter's round. -/
structure Channel where
  queue : List Access64
  round : Round
  deriving DecidableEq, Repr

/-- The outcome of an access (R135 to R138). -/
inductive AccessOutcome where
  | clean (bytes : List Byte)
  | corrected (bytes : List Byte)
  | written
  | swap (old : List Byte) (swapped : Bool)
  | uncorrectable
  deriving DecidableEq, Repr

/-! ### The Scrub Engine (Chapter 8) -/

/-- Phases of the Scrub Engine (R150). -/
inductive ScrubPhase where
  | idle
  | zero
  | verify
  deriving DecidableEq, Repr

/-- The Scrub Engine (R149, R150). `number` counts the scrubs begun, so that the results of an aborted
scrub are told from those of the current one (R155); `ended` says that the scrub-end report has been
handed over and not yet taken (R154). -/
structure Scrub where
  queue : List Nat
  phase : ScrubPhase
  current : Option Nat
  nextLine : Nat
  verified : Nat
  uncorrectableSeen : Bool
  outstanding : Nat
  number : Nat
  ended : Bool
  deriving DecidableEq, Repr

/-! ### The Management Interface (Chapter 10) -/

/-- The settings (R181). -/
structure Settings where
  quota : Quad Nat
  weight : Quad Nat
  recallMs : Nat
  offerMs : Nat
  claimMs : Nat
  threshold : Nat
  deriving DecidableEq, Repr

/-- The defaults (R181). -/
def Settings.default : Settings :=
  { quota := .all 8192, weight := .all 4, recallMs := 20, offerMs := 100, claimMs := 50, threshold := 16 }

/-- Management result statuses (R178), in the order of R193. -/
inductive MgmtStatus where
  | ok
  | busy
  | badArgument
  | wrongState
  deriving DecidableEq, Repr

/-- The request buffer (R178). -/
inductive Buffer where
  | empty
  | running (id : Nat) (req : MgmtReq)
  | ready (id : Nat) (req : MgmtReq) (status : MgmtStatus) (data : List Byte)
  deriving DecidableEq, Repr

/-- The cause of a QUARANTINED fault record (R22), in the order of Section 10.7. -/
inductive QuarantineCause where
  | scrub
  | damage
  | management
  deriving DecidableEq, Repr

/-- Kinds of protocol violation, in the order of R166. -/
inductive Violation where
  | badEncoding
  | attachInSession
  | noCredit
  | tagInUse
  | creditOverflow
  deriving DecidableEq, Repr

/-- The source of an UNCORRECTABLE fault record (R140). -/
inductive FaultSource where
  | port (p : PortId)
  | scrub
  | map
  deriving DecidableEq, Repr

/-- The detail of a MAP_REPAIRED fault record (R34, R35). -/
inductive RepairDetail where
  | valid (frame : Nat)
  | invalid
  | superseded
  deriving DecidableEq, Repr

/-- A fault record before it takes its sequence number (Section 10.7), in the order of the table. -/
inductive FaultInfo where
  | forcedRecall (port : PortId) (frame hpn : Nat) (notified : Bool) (reason : RecallReason)
  | uncorrectable (source : FaultSource) (frame line : Nat)
  | damaged (frame count : Nat)
  | quarantined (frame : Nat) (cause : QuarantineCause)
  | mapRepaired (port : PortId) (hpn : Nat) (detail : RepairDetail)
  | protocol (port : PortId) (session : Nat) (kind : Violation)
  | linkLost (port : PortId) (session : Nat)
  | chipReset
  deriving DecidableEq, Repr

/-- A record of the Fault Log (R189). -/
structure FaultRecord where
  sequence : Nat
  info : FaultInfo
  deriving DecidableEq, Repr

/-- A port request and the port it names, handed to a Link Port and not yet taken (R180). -/
inductive PortRequest where
  | reset (p : PortId)
  | disable (p : PortId)
  | enable (p : PortId)
  deriving DecidableEq, Repr

/-- The Management Interface: request buffer and refused id (R178), the port request in a Link Port's
hands, the settings, the Fault Log with its sequence counter, the ALERT_N pin (true when asserted, R191)
and the bytes shifted out on MISO in the last transaction (R193). -/
structure Mgmt where
  buffer : Buffer
  refused : Option Nat
  portSlot : Option PortRequest
  settings : Settings
  log : List FaultRecord
  sequence : Nat
  alert : Bool
  miso : List Byte
  deriving DecidableEq, Repr

/-! ### Memory -/

/-- Pool memory by byte address, as (address, byte) pairs in one canonical form: addresses strictly
rising, no entry equal to what an unlisted address reads as. -/
abbrev Memory := List Host.Cell

/-- DRAM as the channels see it: the bytes of the lines of frames 1 to F - 1, the entries of frame 0's
lines by line number (R26), and the lines that read uncorrectable until a FULL WRITE replaces them
(R140), by line address. -/
structure Dram where
  mem : Memory
  maps : List (Nat × MapValue)
  bad : List (Nat × Bool)
  deriving DecidableEq, Repr

/-! ### In flight between blocks (R142) -/

/-- The result of a line access on its way to a Request Unit (R113). The frame and the line are those of the
access, by which the order of R134 is kept. -/
structure LineResult where
  tag : Nat
  frame : Nat
  line : Nat
  outcome : AccessOutcome
  deriving DecidableEq, Repr

/-- The result of a map read on its way to the Map Unit (R31): `none` when uncorrectable. -/
structure MapResult where
  port : PortId
  hpn : Nat
  value : Option MapValue
  deriving DecidableEq, Repr

/-- The result of a scrub access on its way to the Scrub Engine (R151, R152), with the access's frame and line, by
which the order of R134 is kept. -/
structure ScrubResult where
  number : Nat
  verify : Bool
  frame : Nat
  line : Nat
  uncorrectable : Bool
  deriving DecidableEq, Repr

/-- What one block has handed over and another has not yet taken as an event of its own (R142): results,
ECC reports as (frame, line) pairs, and fault records. -/
structure InFlight where
  lineResults : Quad (List LineResult)
  mapResults : List MapResult
  scrubResults : List ScrubResult
  correctable : List (Nat × Nat)
  uncorrectable : List (Nat × Nat)
  faults : List FaultInfo
  deriving DecidableEq, Repr

/-! ### The whole part -/

/-- The device state (R157). -/
inductive DeviceState where
  | starting
  | run
  deriving DecidableEq, Repr

/-- The latched channel population (R130): C and the frames of each populated channel. -/
structure Population where
  channels : Nat
  channelSize : Nat
  deriving DecidableEq, Repr

/-- The state of the SX44. `supplyValid` and `resetAsserted` are the supply and the RESET_N pin; `now` is
the model's clock in milliseconds (Section 4.3); `freeCount` numbers the free values used; `pending` is
the queue of commands that wait, first in first out. -/
structure State where
  supplyValid : Bool
  resetAsserted : Bool
  pop : Population
  device : DeviceState
  links : Quad LinkPort
  requests : Quad (List ReqEntry)
  caches : Quad (List CacheEntry)
  walker : Walker
  mapUnit : MapUnit
  engine : Engine
  recalls : RecallUnit
  channels : Quad Channel
  scrub : Scrub
  mgmt : Mgmt
  flight : InFlight
  dram : Dram
  now : Nat
  freeCount : Nat
  pending : List Instr
  deriving DecidableEq, Repr

/-- F, the sum of the frame counts of the populated channels (R1, R130). -/
def Population.frames (p : Population) : Nat := p.channels * p.channelSize

/-- The population that the pins give: "POP1–POP0 read as a number from 0 to 3 give C − 1. POP2 gives the
channel size: low for 4,096 frames and high for 8,192 frames" (R194). Bit 2 of `pins` is POP2. -/
def Population.ofPins (pins : BitVec 3) : Population :=
  { channels := pins.toNat % 4 + 1, channelSize := if pins.toNat < 4 then 4096 else 8192 }

/-- The arbiter's round state after a reset (R148): the first round will start at Port 0. -/
def Round.afterReset (weight : Quad Nat) : Round :=
  { begun := false, start := 0, allowance := weight, used := .all 0, scrubUsed := false }

/-- A channel after a reset (R148). -/
def Channel.afterReset (weight : Quad Nat) : Channel := { queue := [], round := Round.afterReset weight }

/-- The Allocation Engine after a reset (R23, R24, R48, R53, R58, R71, R72). -/
def Engine.afterReset : Engine :=
  { directory := [], freeList := [], claims := [], granted := [], offers := [], grantCounter := 0,
    held := .all 0, pointer := 4, headWaiting := .all false, teardown := .all .idle, slot := none }

/-- The Recall Unit after a reset (R107). -/
def RecallUnit.afterReset : RecallUnit :=
  { table := [], pendingLists := .all [], counter := 0, reported := [] }

/-- The Scrub Engine after a reset of a pool of `frames` frames (R156): frames 1 to F - 1 in the queue in
ascending order. -/
def Scrub.afterReset (frames : Nat) : Scrub :=
  { queue := List.range' 1 (frames - 1), phase := .idle, current := none, nextLine := 0, verified := 0,
    uncorrectableSeen := false, outstanding := 0, number := 0, ended := false }

/-- The Map Unit after a reset (R47), with MAP_CLEAR at line 0 when start-up has begun (R46, R158). -/
def MapUnit.afterReset (startUp : Bool) : MapUnit :=
  { queue := [], waiting := [], reads := [], repairs := [], clearNext := if startUp then some 0 else none,
    arrivals := 0 }

/-- The Walker after a reset (R47). -/
def Walker.afterReset : Walker := { walks := [], retry := [] }

/-- Nothing in flight (R148). -/
def InFlight.none : InFlight :=
  { lineResults := .all [], mapResults := [], scrubResults := [], correctable := [], uncorrectable := [],
    faults := [] }

/-- The Management Interface after power-on and RESET_N (R178, R181, R189, R191). -/
def Mgmt.afterReset : Mgmt :=
  { buffer := .empty, refused := Option.none, portSlot := Option.none, settings := Settings.default, log := [],
    sequence := 0, alert := false, miso := [] }

/-- DRAM at power-on. Its content is undefined (R148); the model lists nothing (assumption log, 4). -/
def Dram.atPowerOn : Dram := { mem := [], maps := [], bad := [] }

/-- The part right after power-on with the POP pins all low and RESET_N high (R158): STARTING, every link
DOWN, MAP_CLEAR at line 0, nothing in any queue but the frames to be swept. The pins' level is the
board's; 000 stands for them here (assumption log, 2). -/
def State.reset : State :=
  { supplyValid := true, resetAsserted := false, pop := Population.ofPins 0, device := .starting,
    links := .all (LinkPort.afterReset []), requests := .all [], caches := .all [],
    walker := Walker.afterReset, mapUnit := MapUnit.afterReset true, engine := Engine.afterReset,
    recalls := RecallUnit.afterReset, channels := .all (Channel.afterReset Settings.default.weight),
    scrub := Scrub.afterReset (Population.ofPins 0).frames, mgmt := Mgmt.afterReset,
    flight := InFlight.none, dram := Dram.atPowerOn, now := 0, freeCount := 0, pending := [] }

end Sys2Proof.Machine
end

