-- ==== Sys2Proof/Machine/Memory.lean ====
section
/-! DEFINITION. The sparse tables of the model (a list of key and value pairs with rising keys, no entry
equal to what an unlisted key reads as), pool memory by byte, and the lines of DRAM. -/

namespace Sys2Proof.Machine

/-- The value at key `k`; `dflt k` where `k` is not listed. -/
def sparseGet {α : Type} (dflt : Nat → α) : List (Nat × α) → Nat → α
  | [], k => dflt k
  | e :: t, k => if e.1 = k then e.2 else sparseGet dflt t k

/-- The table with `v` at key `k`, kept in canonical form. -/
def sparsePut {α : Type} [DecidableEq α] (dflt : Nat → α) : List (Nat × α) → Nat → α → List (Nat × α)
  | [], k, v => if v = dflt k then [] else [(k, v)]
  | e :: t, k, v =>
    if k < e.1 then (if v = dflt k then e :: t else (k, v) :: e :: t)
    else if k = e.1 then (if v = dflt k then t else (k, v) :: t)
    else e :: sparsePut dflt t k v

/-- The canonical form: keys strictly rising, no entry equal to the default. -/
def sparseWf {α : Type} [DecidableEq α] (dflt : Nat → α) : List (Nat × α) → Bool
  | [] => true
  | e :: t => decide (e.2 ≠ dflt e.1) && t.all (fun e' => decide (e.1 < e'.1)) && sparseWf dflt t

/-! ### Pool memory by byte -/

/-- What an unlisted address of pool memory reads as: a byte of zeros (assumption log, 4). -/
def Memory.unlisted (_a : Nat) : Byte := 0

/-- One byte of pool memory. -/
def Memory.read (m : Memory) (a : Nat) : Byte := sparseGet Memory.unlisted m a

/-- Pool memory with one byte written. -/
def Memory.write (m : Memory) (a : Nat) (b : Byte) : Memory := sparsePut Memory.unlisted m a b

/-- The canonical form of pool memory. -/
def Memory.wf (m : Memory) : Bool := sparseWf Memory.unlisted m

/-- The `n` bytes from address `a` on. -/
def Memory.readBytes (m : Memory) (a n : Nat) : List Byte := (List.range n).map fun j => Memory.read m (a + j)

/-- Pool memory with the bytes written from address `a` on. -/
def Memory.writeBytes (m : Memory) (a : Nat) : List Byte → Memory
  | [] => m
  | b :: bs => Memory.writeBytes (Memory.write m a b) (a + 1) bs

/-! ### Lines of DRAM -/

/-- The line of its channel that line `line` of frame `frame` is: `(f div C) × 32,768 + l` (R131). -/
def channelLine (pop : Population) (frame line : Nat) : Nat :=
  frame / pop.channels * Config.linesPerFrame + line

/-- The number of a line of DRAM: its channel `f mod C` (R131), then its line on the channel, with room for the
lines of the largest channel, so that a line of DRAM keeps its number whatever population is latched. -/
def lineAddr (pop : Population) (frame line : Nat) : Nat :=
  frame % pop.channels * (Config.maxChannelFrames * Config.linesPerFrame) + channelLine pop frame line

/-- The byte address of the first byte of line number `n`. -/
def byteAddr (n : Nat) : Nat := n * Config.lineBytes

/-- The line number that an access goes to, by the latched population (R130, R131). -/
def State.lineOf (s : State) (a : Access64) : Nat := lineAddr s.pop a.frame a.line

/-- Frame `frame` lies on channel `frame mod C` (R131). -/
def channelOf (s : State) (frame : Nat) : Nat := frame % s.pop.channels

/-- What an unlisted map line holds. -/
def mapUnlisted (_line : Nat) : MapValue := .invalid

/-- No line is bad unless listed. -/
def badUnlisted (_line : Nat) : Bool := false

/-- The 64 bytes of line number `n`. -/
def Dram.readLine (d : Dram) (n : Nat) : List Byte := Memory.readBytes d.mem (byteAddr n) Config.lineBytes

/-- A line stored with fresh ECC, so that it reads clean afterwards (Section 7.3). -/
def Dram.storeLine (d : Dram) (n : Nat) (bytes : List Byte) : Dram :=
  { d with mem := Memory.writeBytes d.mem (byteAddr n) (bytes.take Config.lineBytes),
           bad := sparsePut badUnlisted d.bad n false }

/-- The map entry held by a line of frame 0: on every population the same lines of channel 0 (R131). -/
def Dram.readMap (d : Dram) (line : Nat) : MapValue := sparseGet mapUnlisted d.maps line

/-- A map entry stored in a line of frame 0 with fresh ECC. -/
def Dram.storeMap (d : Dram) (line : Nat) (v : MapValue) : Dram :=
  { d with maps := sparsePut mapUnlisted d.maps line v, bad := sparsePut badUnlisted d.bad line false }

/-- Whether line number `n` reads uncorrectable until a FULL WRITE replaces it (R140). -/
def Dram.isBad (d : Dram) (n : Nat) : Bool := sparseGet badUnlisted d.bad n

/-- The line becomes uncorrectable and stays so (R140). -/
def Dram.markBad (d : Dram) (n : Nat) : Dram := { d with bad := sparsePut badUnlisted d.bad n true }

/-- The condition a read of the line meets (Section 7.3): a line that read uncorrectable does so again
(R140), any other meets what the memory does now. -/
def Dram.condition (d : Dram) (n : Nat) (now : EccCondition) : EccCondition :=
  if d.isBad n then .uncorrectable else now

/-- The canonical form of all three tables. -/
def Dram.wf (d : Dram) : Bool :=
  Memory.wf d.mem && sparseWf mapUnlisted d.maps && sparseWf badUnlisted d.bad

/-- The bytes with the enabled ones replaced (R137): "merges the enabled bytes of its data into it". -/
def mergeBytes : List Byte → List Byte → List Bool → List Byte
  | o :: os, d :: ds, e :: es => (if e then d else o) :: mergeBytes os ds es
  | os, _, _ => os

/-- The 8 bytes of a granule of a line (00_scope.md, Section 4.2). -/
def granuleOf (line : List Byte) (g : Nat) : List Byte := slice line (8 * g) 8

/-- The line with the bytes of a granule replaced (R138). -/
def withGranule (line : List Byte) (g : Nat) (new : List Byte) : List Byte :=
  line.take (8 * g) ++ new.take 8 ++ line.drop (8 * g + 8)

/-- 64 bytes of zero (R113, R151). -/
def zeroLine : List Byte := List.replicate Config.lineBytes 0

end Sys2Proof.Machine
end

