-- ==== Sys2Proof/Machine/Formats.lean ====
section
/-! DEFINITION. The byte layouts of what the part sends: pool link messages (R192, Table 11-3), management
results (R193) and fault records (Table 11-6), and the codes of enumerated values. -/

namespace Sys2Proof.Machine

/-- A two-byte number, least significant byte first (R192, R193). -/
def le16 (n : Nat) : List Byte := [BitVec.ofNat 8 n, BitVec.ofNat 8 (n / 256)]

/-- A one-byte number. -/
def byte (n : Nat) : Byte := BitVec.ofNat 8 n

/-- "A yes or no field is coded 1 for yes and 0 for no" (R193). -/
def yesNo (b : Bool) : Nat := if b then 1 else 0

/-- Table 11-4. -/
def Status.code : Status → Nat
  | .ok => 0
  | .bounds => 1
  | .unmapped => 2
  | .protection => 3
  | .poisoned => 4
  | .conflict => 5
  | .quota => 6
  | .noFrames => 7
  | .busy => 8
  | .notMapped => 9
  | .role => 10
  | .leaving => 11
  | .badPort => 12
  | .targetGone => 13
  | .duplicate => 14
  | .staleGrant => 15
  | .declined => 16
  | .expired => 17
  | .withdrawn => 18
  | .starting => 19
  | .disabled => 20

/-- By the order of R4. -/
def accessCode : Access → Nat
  | .read => 0
  | .readWrite => 1

/-- By the order of R88. -/
def RecallReason.code : RecallReason → Nat
  | .release => 0
  | .drop => 1
  | .revoke => 2
  | .evict => 3
  | .holderGone => 4
  | .portGone => 5

/-- By the order of R162. -/
def TeardownCause.code : TeardownCause → Nat
  | .detach => 0
  | .resetPort => 1
  | .protocol => 2
  | .linkLost => 3
  | .portReset => 4
  | .portDisable => 5

/-- EXPIRY or WITHDRAWAL (Table 11-3). -/
def WithdrawnCause.code : WithdrawnCause → Nat
  | .expiry => 0
  | .withdrawal => 1

/-- By the order of R161. -/
def LinkState.code : LinkState → Nat
  | .down => 0
  | .training => 1
  | .up => 2

/-- By the order of R162. -/
def PortState.code : PortState → Nat
  | .offline => 0
  | .idle => 1
  | .attached => 2
  | .detaching => 3
  | .disabled => 4

/-- By the order of R3. -/
def FrameState.code : FrameState → Nat
  | .reserved => 0
  | .free => 1
  | .scrubbing => 2
  | .held => 3
  | .shared => 4
  | .recalling => 5
  | .quarantined => 6

/-- STARTING or RUN (R157). -/
def DeviceState.code : DeviceState → Nat
  | .starting => 0
  | .run => 1

/-- By the order of R150. -/
def ScrubPhase.code : ScrubPhase → Nat
  | .idle => 0
  | .zero => 1
  | .verify => 2

/-- By R193's result frame. -/
def MgmtStatus.code : MgmtStatus → Nat
  | .ok => 0
  | .busy => 1
  | .badArgument => 2
  | .wrongState => 3

/-- By the order of Section 10.7. -/
def QuarantineCause.code : QuarantineCause → Nat
  | .scrub => 0
  | .damage => 1
  | .management => 2

/-- By the order of R166. -/
def Violation.code : Violation → Nat
  | .badEncoding => 0
  | .attachInSession => 1
  | .noCredit => 2
  | .tagInUse => 3
  | .creditOverflow => 4

/-- "n, then n line indexes of 2 bytes each, ascending" (form 2). -/
def failedLineBytes (lines : List Nat) : List Byte := byte lines.length :: lines.flatMap le16

/-- The result form and its payload (the table of result forms). -/
def Payload.bytes : Payload → List Byte
  | .none => [byte 0]
  | .readData d => byte 1 :: d
  | .failedLines ls => byte 2 :: failedLineBytes ls
  | .readDataFailed d ls => byte 3 :: (d ++ failedLineBytes ls)
  | .swap old sw => byte 4 :: (old ++ [byte (yesNo sw)])
  | .grantId g => byte 5 :: le16 g

/-- A message: kind code, tag, body length, body (R192). -/
def messageBytes (code tag : Nat) (body : List Byte) : List Byte :=
  [byte code, byte tag] ++ le16 body.length ++ body

/-- The bytes of a message the part sends (Tables 11-1 and 11-3). -/
def OutMsg.bytes : OutMsg → List Byte
  | .completion c => messageBytes 0x40 c.tag (byte c.status.code :: c.payload.bytes)
  | .attachAck port session frames quota =>
      messageBytes 0x41 0 ([byte Status.ok.code, byte port.val, byte session, byte 0] ++ le16 frames ++ le16 quota ++
        le16 Config.hpnCount ++ [byte Config.requestQueueSize, byte Config.commandQueueSize])
  | .attachRefused port status => messageBytes 0x41 0 [byte status.code, byte port.val]
  | .creditReturn r c => messageBytes 0x42 0 [byte r, byte c]
  | .sessionEnd session cause => messageBytes 0x43 0 [byte session, byte cause.code]
  | .notice (.recallNotice rid hpn reason) =>
      messageBytes 0x48 0 (le16 rid ++ le16 hpn ++ [byte reason.code, byte 0])
  | .notice (.offer gid port hpn access) =>
      messageBytes 0x49 0 (le16 gid ++ [byte port.val, byte (accessCode access)] ++ le16 hpn)
  | .notice (.withdrawn gid cause) => messageBytes 0x4A 0 (le16 gid ++ [byte cause.code, byte 0])

/-! ### Fault records (Table 11-6) -/

/-- The kind byte, by the order of Section 10.7. -/
def FaultInfo.kindCode : FaultInfo → Nat
  | .forcedRecall .. => 0
  | .uncorrectable .. => 1
  | .damaged .. => 2
  | .quarantined .. => 3
  | .mapRepaired .. => 4
  | .protocol .. => 5
  | .linkLost .. => 6
  | .chipReset => 7

/-- The port a record carries (Section 10.7). -/
def FaultInfo.port : FaultInfo → Option PortId
  | .forcedRecall p _ _ _ _ => some p
  | .uncorrectable (.port p) _ _ => some p
  | .uncorrectable .scrub _ _ => none
  | .uncorrectable .map _ _ => none
  | .damaged _ _ => none
  | .quarantined _ _ => none
  | .mapRepaired p _ _ => some p
  | .protocol p _ _ => some p
  | .linkLost p _ => some p
  | .chipReset => none

/-- The frame a record carries. -/
def FaultInfo.frame : FaultInfo → Option Nat
  | .forcedRecall _ f _ _ _ => some f
  | .uncorrectable _ f _ => some f
  | .damaged f _ => some f
  | .quarantined f _ => some f
  | .mapRepaired _ _ (.valid f) => some f
  | .mapRepaired _ _ .invalid => none
  | .mapRepaired _ _ .superseded => none
  | .protocol _ _ _ => none
  | .linkLost _ _ => none
  | .chipReset => none

/-- The HPN or line a record carries. -/
def FaultInfo.place : FaultInfo → Option Nat
  | .forcedRecall _ _ h _ _ => some h
  | .uncorrectable _ _ l => some l
  | .damaged _ _ => none
  | .quarantined _ _ => none
  | .mapRepaired _ h _ => some h
  | .protocol _ _ _ => none
  | .linkLost _ _ => none
  | .chipReset => none

/-- "notified; source; correctable count; cause; repair detail; session number". -/
def FaultInfo.detailA : FaultInfo → Nat
  | .forcedRecall _ _ _ n _ => yesNo n
  | .uncorrectable (.port _) _ _ => 0
  | .uncorrectable .scrub _ _ => 1
  | .uncorrectable .map _ _ => 2
  | .damaged _ n => n
  | .quarantined _ c => c.code
  | .mapRepaired _ _ (.valid _) => 0
  | .mapRepaired _ _ .invalid => 1
  | .mapRepaired _ _ .superseded => 2
  | .protocol _ n _ => n
  | .linkLost _ n => n
  | .chipReset => 0

/-- "reason (FORCED_RECALL); violation kind (PROTOCOL)". -/
def FaultInfo.detailB : FaultInfo → Nat
  | .forcedRecall _ _ _ _ r => r.code
  | .protocol _ _ k => k.code
  | .uncorrectable _ _ _ => 0
  | .damaged _ _ => 0
  | .quarantined _ _ => 0
  | .mapRepaired _ _ _ => 0
  | .linkLost _ _ => 0
  | .chipReset => 0

/-- The 12 bytes of a fault record (Table 11-6). -/
def FaultRecord.bytes (r : FaultRecord) : List Byte :=
  let i := r.info
  le16 r.sequence ++
    [byte i.kindCode, byte (yesNo i.port.isSome + 2 * yesNo i.frame.isSome + 4 * yesNo i.place.isSome),
     byte ((i.port.map Fin.val).getD 0), byte i.detailA, byte i.detailB, byte 0] ++
    le16 (i.frame.getD 0) ++ le16 (i.place.getD 0)

/-! ### Results of the management port -/

/-- A value of GET-POOL-STATUS or GET-PORT-STATUS list, "each … as a 2-byte number or code" (R193). -/
def statusBytes (values : List Nat) : List Byte := values.flatMap le16

/-- QUERY-FRAME's flags byte: "bit 0 access READ_WRITE, bit 1 role READER, bit 2 phase LEAVING". -/
def MapItem.flags (i : MapItem) : Nat :=
  accessCode i.access + (match i.role with | .holder => 0 | .reader => 2) + (match i.phase with | .active => 0 | .leaving => 4)

/-- A mapping item in QUERY-FRAME's result. -/
def MapItem.bytes (i : MapItem) : List Byte := [byte i.port.val, byte i.flags] ++ le16 i.hpn

/-- The leave reason's code, by the order of R3. -/
def LeaveReason.code : LeaveReason → Nat
  | .release _ => 0
  | .evict => 1
  | .teardown => 2

/-- The tag of the RELEASE, none for the other reasons. -/
def LeaveReason.tag : LeaveReason → Option Nat
  | .release t => some t
  | .evict => none
  | .teardown => none

/-- QUERY-FRAME's result data (R193). The tag of the RELEASE where there is none is a free value: R193 gives 0xFF for an
absent holder and leave reason and no value for it (DESIGN CHOICE; assumption log, 36). -/
def FrameRecord.bytes (r : FrameRecord) : List Byte :=
  let front := [byte r.state.code, byte ((r.holder.map Fin.val).getD 0xFF),
    byte ((r.leave.map LeaveReason.code).getD 0xFF)]
  let back := [byte (yesNo r.quarantineOnExit), byte (yesNo r.damaged), byte r.count, byte r.items.length] ++
    r.items.flatMap MapItem.bytes
  let tag := match r.leave.bind LeaveReason.tag with
    | some t => byte t
    | none => Config.absentReleaseTag (front ++ back)
  front ++ tag :: back

/-- The buffer state's code (R193). -/
def Buffer.code : Buffer → Nat
  | .empty => 0
  | .running _ _ => 1
  | .ready _ _ _ _ => 2

/-- The request id, when present (R178). -/
def Buffer.id : Buffer → Option Nat
  | .empty => none
  | .running i _ => some i
  | .ready i _ _ _ => some i

/-- The result status' code, 0 where absent (R193). -/
def Buffer.statusCode : Buffer → Nat
  | .empty => 0
  | .running _ _ => 0
  | .ready _ _ st _ => st.code

/-- The result data, none where absent. -/
def Buffer.data : Buffer → List Byte
  | .empty => []
  | .running _ _ => []
  | .ready _ _ _ d => d

/-- The result frame (R193). -/
def resultFrame (b : Buffer) (refused : Option Nat) : List Byte :=
  [byte b.code, byte (yesNo b.id.isSome + 2 * yesNo refused.isSome), byte (b.id.getD 0), byte (refused.getD 0),
   byte b.statusCode] ++ le16 b.data.length ++ b.data

/-- What a result transaction of `n` bytes shifts out: 0x00 in the first byte, then the result frame, then
0x00 after the frame's end (R193). -/
def resultShiftedOut (n : Nat) (frame : List Byte) : List Byte :=
  (0 :: frame ++ List.replicate n 0).take n

end Sys2Proof.Machine
end

