-- ==== Sys2Proof/Machine/Ops.lean ====
section
/-! DEFINITION. The named operations over State that every family uses: reading and replacing one block's
state, handing completions and fault records over, sending messages, credits, notices. -/

namespace Sys2Proof.Machine

/-! ### Reading and replacing one block -/

/-- The Link Port of `p`. -/
def State.link (s : State) (p : PortId) : LinkPort := s.links.get p

/-- `s` with the Link Port of `p` replaced. -/
def State.setLink (s : State) (p : PortId) (l : LinkPort) : State := { s with links := s.links.set p l }

/-- The Request Queue of `p`, in acceptance order (R108). -/
def State.queue (s : State) (p : PortId) : List ReqEntry := s.requests.get p

/-- `s` with the Request Queue of `p` replaced. -/
def State.setQueue (s : State) (p : PortId) (q : List ReqEntry) : State := { s with requests := s.requests.set p q }

/-- The Translation Cache of `p`, most recently used first (R40). -/
def State.cache (s : State) (p : PortId) : List CacheEntry := s.caches.get p

/-- `s` with the Translation Cache of `p` replaced. -/
def State.setCache (s : State) (p : PortId) (c : List CacheEntry) : State := { s with caches := s.caches.set p c }

/-- `s` with the Walker replaced. -/
def State.setWalker (s : State) (w : Walker) : State := { s with walker := w }

/-- `s` with the Map Unit replaced. -/
def State.setMapUnit (s : State) (m : MapUnit) : State := { s with mapUnit := m }

/-- `s` with the Allocation Engine replaced. -/
def State.setEngine (s : State) (e : Engine) : State := { s with engine := e }

/-- `s` with the Recall Unit replaced. -/
def State.setRecalls (s : State) (r : RecallUnit) : State := { s with recalls := r }

/-- Channel `c`. -/
def State.channel (s : State) (c : ChannelId) : Channel := s.channels.get c

/-- `s` with channel `c` replaced. -/
def State.setChannel (s : State) (c : ChannelId) (ch : Channel) : State :=
  { s with channels := s.channels.set c ch }

/-- `s` with the Scrub Engine replaced. -/
def State.setScrub (s : State) (x : Scrub) : State := { s with scrub := x }

/-- `s` with the Management Interface replaced. -/
def State.setMgmt (s : State) (m : Mgmt) : State := { s with mgmt := m }

/-- `s` with what is in flight between blocks replaced. -/
def State.setFlight (s : State) (f : InFlight) : State := { s with flight := f }

/-- `s` with DRAM replaced. -/
def State.setDram (s : State) (d : Dram) : State := { s with dram := d }

/-- `s` with the device state replaced (R157). -/
def State.setDevice (s : State) (d : DeviceState) : State := { s with device := d }

/-- `s` with one more free value used. -/
def State.useFree (s : State) : State := { s with freeCount := s.freeCount + 1 }

/-- F (R1). -/
def State.frames (s : State) : Nat := s.pop.frames

/-- "While RESET_N is asserted, and until supply is valid at power-on, the part takes no message from any
link and no request from the management port, and the links are held DOWN" (R158). -/
def State.operating (s : State) : Bool := s.supplyValid && !s.resetAsserted

/-- The outcome of a command that is no reset: the step that `f` makes while the part operates, no change
while it is held (R158). -/
def whenOperating (s : State) (f : State) : Host.Outcome State Fault Refusal :=
  .next (if s.operating then f else s)

/-- The block idles: no command waits, and the model's clock goes on by one millisecond (Section 4.3;
assumption log, 6). -/
def idle (s : State) : State := { s with now := s.now + 1 }

/-- The command that a word spells, put at the front of the queue. -/
def putInFront (c : Option Instr) (s : State) : State :=
  match c with
  | some i => { s with pending := i :: s.pending }
  | none => s

/-! ### The Frame Directory -/

/-- The directory record of a frame (R3). -/
def State.record (s : State) (f : Nat) : FrameRecord := sparseGet FrameRecord.afterReset s.engine.directory f

/-- `s` with the directory record of frame `f` replaced. -/
def State.setRecord (s : State) (f : Nat) (r : FrameRecord) : State :=
  s.setEngine { s.engine with directory := sparsePut FrameRecord.afterReset s.engine.directory f r }

/-- Frames 1 to F - 1. -/
def State.lendable (s : State) : List Nat := List.range' 1 (s.frames - 1)

/-- The mapping item of `p` in a record, if any; a record holds at most one per port (R4). -/
def FrameRecord.itemOf (r : FrameRecord) (p : PortId) : Option MapItem := r.items.find? fun i => i.port == p

/-- The ACTIVE items of a record. -/
def FrameRecord.activeItems (r : FrameRecord) : List MapItem := r.items.filter fun i => i.phase == .active

/-- The ACTIVE READER items of a record. -/
def FrameRecord.activeReaders (r : FrameRecord) : List MapItem :=
  r.items.filter fun i => i.phase == .active && i.role == .reader

/-- The mapping item of `p` at `hpn` in the whole directory, with its frame: no two items of one port name
the same HPN (R4). Unlisted records hold no item. -/
def State.itemAt (s : State) (p : PortId) (hpn : Nat) : Option (Nat × MapItem) :=
  s.engine.directory.findSome? fun e =>
    (e.2.items.find? fun i => i.port == p && i.hpn == hpn).map fun i => (e.1, i)

/-- Whether the directory holds a mapping item of `p`. -/
def State.hasItem (s : State) (p : PortId) : Bool :=
  s.engine.directory.any fun e => e.2.items.any fun i => i.port == p

/-- parked(P), "the sum of the counts of P's claims in the Claim Queue" (R54). -/
def State.parked (s : State) (p : PortId) : Nat :=
  ((s.engine.claims.filter fun c => c.port == p).map ParkedClaim.count).sum

/-- The HPN lies in the range of a parked claim of `p` (R55). -/
def State.reserved (s : State) (p : PortId) (hpn : Nat) : Bool :=
  s.engine.claims.any fun c => c.port == p && decide (c.hpn ≤ hpn) && decide (hpn < c.hpn + c.count)

/-- "An HPN is occupied when it is named by a mapping item of P in the directory, ACTIVE or LEAVING, or
when it lies in the range of a claim of P that is parked" (R55). -/
def State.occupied (s : State) (p : PortId) (hpn : Nat) : Bool :=
  (s.itemAt p hpn).isSome || s.reserved p hpn

/-! ### Handing over and sending -/

/-- A fault record is handed to the Management Interface (Section 10.7). -/
def handFault (i : FaultInfo) (s : State) : State := s.setFlight { s.flight with faults := s.flight.faults ++ [i] }

/-- A message is sent on the link of `p`. -/
def send (p : PortId) (m : OutMsg) (s : State) : State :=
  s.setLink p { s.link p with sent := (s.link p).sent ++ [m] }

/-- A completion is handed to the Link Port of `p`: it joins the outbound order of an ATTACHED port, and is
discarded otherwise (R169). -/
def handOver (p : PortId) (c : Completion) (s : State) : State :=
  if (s.link p).state = .attached then s.setLink p { s.link p with outbound := (s.link p).outbound ++ [c] } else s

/-- The completion of a pool command that carries tag and status only (R50). -/
def commandCompletion (tag : Nat) (status : Status) : Completion :=
  { tag := tag, status := status, payload := .none, answers := .command }

/-- A GRANT completion that carries a grant id (R74). -/
def grantCompletion (tag : Nat) (status : Status) (grantId : Nat) : Completion :=
  { tag := tag, status := status, payload := .grantId grantId, answers := .command }

/-- "At the end of each event in which a pending count has risen, if the port is still ATTACHED, the Link
Port sends one CREDIT-RETURN" and adds both pending counts to the credits held (R167). -/
def returnCredits (p : PortId) (s : State) : State :=
  let l := s.link p
  if l.state = .attached ∧ (l.requestReturns ≠ 0 ∨ l.commandReturns ≠ 0) then
    s.setLink p { l with
      requestCredits := l.requestCredits + l.requestReturns, requestReturns := 0,
      commandCredits := l.commandCredits + l.commandReturns, commandReturns := 0,
      sent := l.sent ++ [.creditReturn l.requestReturns l.commandReturns] }
  else s

/-! ### Recall records and notices -/

/-- The record with this id in the Recall Table. -/
def State.recordById (s : State) (rid : Nat) : Option RecallRecord :=
  s.recalls.table.find? fun r => r.recallId == rid

/-- `s` with the record of this id changed by `f`. -/
def updateRecall (rid : Nat) (f : RecallRecord → RecallRecord) (s : State) : State :=
  s.setRecalls { s.recalls with table := s.recalls.table.map fun r => if r.recallId = rid then f r else r }

/-- The number of free places of the Recall Table (R87). -/
def State.freeRecords (s : State) : Nat := Config.recallTableSize - s.recalls.table.length

/-- A producer may append a notice "only while the port is ATTACHED and the queue holds fewer than 32
notices" (R170). -/
def State.noticeRoom (s : State) (p : PortId) : Bool :=
  decide ((s.link p).state = .attached) && decide ((s.link p).notices.length < Config.noticeQueueSize)

/-- A notice joins the tail of the Notice Queue of `p`. -/
def appendNotice (p : PortId) (n : Notice) (s : State) : State :=
  s.setLink p { s.link p with notices := (s.link p).notices ++ [n] }

/-- The RECALL notice of a record (R92). -/
def RecallRecord.notice (r : RecallRecord) : Notice := .recallNotice r.recallId r.hpn r.reason

/-- A free Notice Queue place of `p` is filled by the record at the head of its pending list (R93). -/
def fillPending (p : PortId) (s : State) : State :=
  match s.recalls.pendingLists.get p with
  | [] => s
  | rid :: rest =>
    if s.noticeRoom p then
      let s := s.setRecalls { s.recalls with pendingLists := s.recalls.pendingLists.set p rest }
      match s.recordById rid with
      | none => s
      | some r => updateRecall rid (fun r => { r with phase := .notified }) (appendNotice p r.notice s)
    else s

/-- The pending list of `p` is served until the queue is full or the list empty: "Each further place that
frees serves the next record in the same way" (R93). -/
def fillPendingTimes (p : PortId) : Nat → State → State
  | 0, s => s
  | n + 1, s => fillPendingTimes p n (fillPending p s)

/-- The notice is the OFFER notice of the offer `gid` (R75). -/
def Notice.isOffer (gid : Nat) : Notice → Bool
  | .offer g _ _ _ => g == gid
  | .recallNotice _ _ _ => false
  | .withdrawn _ _ => false

/-- The notice is the RECALL notice of the record `rid` (R94). -/
def Notice.isRecall (rid : Nat) : Notice → Bool
  | .recallNotice r _ _ => r == rid
  | .offer _ _ _ _ => false
  | .withdrawn _ _ => false

/-- An obsolete notice leaves the Notice Queue of `p` from wherever it stands; the notices behind it keep
their order (R75, R94, R170). -/
def removeNotice (p : PortId) (isIt : Notice → Bool) (s : State) : State :=
  s.setLink p { s.link p with notices := (s.link p).notices.filter fun n => !isIt n }

/-- As `removeNotice`, and the place that frees is filled in the same event (R93, R170). -/
def removeNoticeAndFill (p : PortId) (isIt : Notice → Bool) (s : State) : State :=
  if (s.link p).notices.any isIt then fillPending p (removeNotice p isIt s) else s

end Sys2Proof.Machine
end

