-- ==== Sys2Proof/Machine/MapOps.lean ====
section
/-! DEFINITION. The Map Unit's queues (R28, R31, R33 to R35): how a map write arrives or waits, how it
supersedes a repair, and how the Walker asks for a read. -/

namespace Sys2Proof.Machine

/-- A repair's own write (R28). -/
def MapWrite.isRepairOf (w : MapWrite) (p : PortId) (hpn : Nat) : Bool :=
  decide (w.producer = .repair) && w.port == p && w.hpn == hpn

/-- The repair is still to give way to an ordinary write of (p, hpn): it is of that entry and not yet
superseded (R35). -/
def Repair.givesWay (r : Repair) (p : PortId) (hpn : Nat) : Bool :=
  r.port == p && r.hpn == hpn &&
    (match r.phase with
      | .superseded _ => false
      | .queued => true
      | .searching _ => true
      | .writing _ => true)

/-- The ordinary write that arrived as `arrival` stops the repair of its entry: the search stops or its
outcome is set aside, and the repair's write leaves the queue or the waiting writes (R35). -/
def supersedeRepair (p : PortId) (hpn arrival : Nat) (m : MapUnit) : MapUnit :=
  if m.repairs.any fun r => r.givesWay p hpn then
    { m with
      repairs := m.repairs.map fun r => if r.givesWay p hpn then { r with phase := .superseded arrival } else r,
      queue := m.queue.filter fun q => !q.write.isRepairOf p hpn,
      waiting := m.waiting.filter fun w => !w.isRepairOf p hpn }
  else m

/-- A map write joins the tail of the Map Write Queue (R28). -/
def arriveWrite (w : MapWrite) (m : MapUnit) : MapUnit :=
  let m' := { m with queue := m.queue ++ [{ write := w, arrival := m.arrivals }], arrivals := m.arrivals + 1 }
  if w.producer = .repair then m' else supersedeRepair w.port w.hpn m.arrivals m'

/-- "Writes that wait are appended in the order in which they were asked for, one as each place frees"
(R28). The first argument bounds the appends. -/
def drainWaiting : Nat → MapUnit → MapUnit
  | 0, m => m
  | n + 1, m =>
    match m.waiting with
    | [] => m
    | w :: ws =>
      if m.queue.length < Config.mapWriteQueueSize then drainWaiting n (arriveWrite w { m with waiting := ws })
      else m

/-- All the waiting writes that find a place. -/
def MapUnit.drained (m : MapUnit) : MapUnit := drainWaiting m.waiting.length m

/-- A producer asks for a map write: it arrives if there is a place, and waits otherwise (R28). -/
def askWrite (w : MapWrite) (s : State) : State :=
  let m := { s.mapUnit with waiting := s.mapUnit.waiting ++ [w] }
  s.setMapUnit m.drained

/-- The write was asked for by the Allocation Engine in answer to an event (R28). -/
def MapProducer.isEngine : MapProducer → Bool
  | .claim _ _ => true
  | .accept _ _ _ _ _ => true
  | .unmap _ => false
  | .repair => false

/-- "While writes asked for by the Allocation Engine in answer to one event are waiting, the Allocation
Engine takes no further event" (R28, R49). -/
def State.engineReady (s : State) : Bool := s.operating && !(s.mapUnit.waiting.any fun w => w.producer.isEngine)

/-- The Walker asks the Map Unit for a read of (p, hpn) (R31, R36). -/
def askRead (p : PortId) (hpn : Nat) (s : State) : State :=
  let m := s.mapUnit
  s.setMapUnit { m with
    reads := m.reads ++ [{ port := p, hpn := hpn, issued := false, arrival := m.arrivals }],
    arrivals := m.arrivals + 1 }

/-- The walk is of (p, hpn). -/
def Walk.isOf (w : Walk) (p : PortId) (hpn : Nat) : Bool := w.port == p && w.hpn == hpn

/-- A walk of (p, hpn) exists (R36). -/
def State.hasWalk (s : State) (p : PortId) (hpn : Nat) : Bool := s.walker.walks.any fun w => w.isOf p hpn

/-- The stale mark of the walk of (p, hpn) is set or cleared (R30, R38). -/
def setStale (p : PortId) (hpn : Nat) (stale : Bool) (s : State) : State :=
  s.setWalker { s.walker with walks := s.walker.walks.map fun w => if w.isOf p hpn then { w with stale := stale } else w }

/-- "The Walker clears its stale mark and asks the Map Unit for a new read of (P, H)" (R38). -/
def walkAgain (p : PortId) (hpn : Nat) (s : State) : State :=
  if s.hasWalk p hpn then askRead p hpn (setStale p hpn false s) else s

/-- The repair at the head of the list starts its search at frame 1 if it has not started (R33). -/
def startHeadRepair (s : State) : State :=
  match s.mapUnit.repairs with
  | [] => s
  | r :: rest =>
    match r.phase with
    | .queued => s.setMapUnit { s.mapUnit with repairs := { r with phase := .searching 1 } :: rest }
    | .searching _ => s
    | .writing _ => s
    | .superseded _ => s

/-- The repair of (p, hpn) ends: its MAP_REPAIRED record is handed over, it leaves the list, its walk reads
again and the next repair starts (R34, R35). -/
def endRepair (p : PortId) (hpn : Nat) (detail : RepairDetail) (s : State) : State :=
  let s := handFault (.mapRepaired p hpn detail) s
  let s := s.setMapUnit { s.mapUnit with repairs := s.mapUnit.repairs.filter fun r => !(r.port == p && r.hpn == hpn) }
  startHeadRepair (walkAgain p hpn s)

end Sys2Proof.Machine
end

