-- ==== Sys2Proof/Machine/RequestOps.lean ====
section
/-! DEFINITION. The Request Queue (Chapter 6) and translation (R36 to R45): entries and their states, the
access check, hits, misses and walks, the ordering conditions, and handing completions over. -/

namespace Sys2Proof.Machine

/-- Where a request reaches into the window: HPN, first line and number of lines; none for FENCE, FLUSH and
DETACH (R109, R110). -/
structure Place where
  hpn : Nat
  line : Nat
  count : Nat
  deriving DecidableEq, Repr

/-- The place of a READ, WRITE or CSWAP; "CSWAP covers one line" (R109). -/
def placeOf : ReqKind → Option Place
  | .read _ hpn line count => some ⟨hpn, line, count⟩
  | .write _ hpn line count _ _ => some ⟨hpn, line, count⟩
  | .cswap _ hpn line _ _ _ => some ⟨hpn, line, 1⟩
  | .fence => none
  | .flush => none
  | .detach => none

/-- The class of a READ, WRITE or CSWAP is URGENT. -/
def isUrgent : ReqKind → Bool
  | .read c _ _ _ => c == .urgent
  | .write c _ _ _ _ _ => c == .urgent
  | .cswap c _ _ _ _ _ => c == .urgent
  | .fence => false
  | .flush => false
  | .detach => false

/-- A WRITE or a CSWAP (R119). -/
def isWriting : ReqKind → Bool
  | .read _ _ _ _ => false
  | .write _ _ _ _ _ _ => true
  | .cswap _ _ _ _ _ _ => true
  | .fence => false
  | .flush => false
  | .detach => false

/-- A FENCE or DETACH, which become DONE when every earlier entry is DONE or retired and hold back what follows
(R118, R120). -/
def holdsBack : ReqKind → Bool
  | .read _ _ _ _ => false
  | .write _ _ _ _ _ _ => false
  | .cswap _ _ _ _ _ _ => false
  | .fence => true
  | .flush => false
  | .detach => true

/-- The bounds check of R110 fails. -/
def outOfBounds (kind : ReqKind) : Bool :=
  match kind with
  | .read _ hpn line count => bad hpn line || badCount line count
  | .write _ hpn line count _ _ => bad hpn line || badCount line count
  | .cswap _ hpn line _ _ _ => bad hpn line
  | .fence => false
  | .flush => false
  | .detach => false
where
  bad (hpn line : Nat) : Bool := decide (Config.hpnCount ≤ hpn) || decide (Config.linesPerFrame ≤ line)
  badCount (line count : Nat) : Bool :=
    decide (count = 0) || decide (Config.maxLines < count) || decide (Config.linesPerFrame < line + count)

/-- Nothing gathered (an entry that reached no channel). -/
def Gathered.nothing : Gathered := { failed := [], lines := [], swap := none }

/-- The entry is DONE. -/
def ReqEntry.isDone (e : ReqEntry) : Bool :=
  match e.state with
  | .done _ _ => true
  | .waiting => false
  | .walking => false
  | .bound _ => false
  | .issued _ _ _ _ => false

/-- The entry is ISSUED. -/
def ReqEntry.isIssued (e : ReqEntry) : Bool :=
  match e.state with
  | .issued _ _ _ _ => true
  | .waiting => false
  | .walking => false
  | .bound _ => false
  | .done _ _ => false

/-- The entry names the host page. -/
def ReqEntry.namesHpn (e : ReqEntry) (hpn : Nat) : Bool := (placeOf e.kind).any fun pl => pl.hpn == hpn

/-- The entry is ISSUED and names the frame (R101). -/
def ReqEntry.issuedTo (e : ReqEntry) (frame : Nat) : Bool :=
  match e.state with
  | .issued f _ _ _ => f == frame
  | .waiting => false
  | .walking => false
  | .bound _ => false
  | .done _ _ => false

/-- How many lines of the entry have been granted, all of them or none by its state (R112, R116): an entry
that is DONE holds nothing back. -/
def ReqEntry.granted (e : ReqEntry) : Nat :=
  match e.state with
  | .issued _ g _ _ => g
  | .waiting => 0
  | .walking => 0
  | .bound _ => 0
  | .done _ _ => 0

/-- The entry of `p` with this tag. -/
def State.entry (s : State) (p : PortId) (tag : Nat) : Option ReqEntry := (s.queue p).find? fun e => e.tag == tag

/-- The state of the entry of `p` with this tag is replaced. -/
def setEntryState (p : PortId) (tag : Nat) (st : ReqState) (s : State) : State :=
  s.setQueue p ((s.queue p).map fun e => if e.tag = tag then { e with state := st } else e)

/-! ### Completions of memory requests -/

/-- What the completion of a DONE entry carries (R125). -/
def donePayload (kind : ReqKind) (status : Status) (got : Gathered) : Payload :=
  match kind, status with
  | .read _ _ _ _, .ok => .readData got.lines.flatten
  | .read _ _ _ _, .poisoned => .readDataFailed got.lines.flatten got.failed
  | .write _ _ _ _ _ _, .poisoned => .failedLines got.failed
  | .cswap _ _ _ _ _ _, .ok =>
    (match got.swap with
      | some (old, sw) => .swap old sw
      | none => .none)
  | _, _ => .none

/-- What a completion of this kind of request answers. -/
def completionOf : ReqKind → CompletionOf
  | .detach => .detach
  | .read _ _ _ _ => .request
  | .write _ _ _ _ _ _ => .request
  | .cswap _ _ _ _ _ _ => .request
  | .fence => .request
  | .flush => .request

/-- The completion of a DONE entry. -/
def ReqEntry.completion (e : ReqEntry) : Option Completion :=
  match e.state with
  | .done st got => some { tag := e.tag, status := st, payload := donePayload e.kind st got, answers := completionOf e.kind }
  | .waiting => none
  | .walking => none
  | .bound _ => none
  | .issued _ _ _ _ => none

/-- FENCE, DETACH and FLUSH entries whose condition is met become DONE, in acceptance order: `all` says that
every earlier entry is DONE, `writes` that every earlier WRITE and CSWAP is (R118, R119, R120). -/
def sweepQueue (all writes : Bool) : List ReqEntry → List ReqEntry
  | [] => []
  | e :: t =>
    let met := decide (e.state = .waiting) && ((holdsBack e.kind && all) || (decide (e.kind = .flush) && writes))
    let e' := if met then { e with state := .done .ok Gathered.nothing } else e
    e' :: sweepQueue (all && e'.isDone) (writes && (e'.isDone || !isWriting e'.kind)) t

/-- The entries that are DONE now and were not before, in acceptance order. -/
def newlyDone (before now : List ReqEntry) : List ReqEntry :=
  now.filter fun e => e.isDone && !(before.any fun b => b.tag == e.tag && b.isDone)

/-- The completions are handed over in this order. -/
def handOverAll (p : PortId) (cs : List Completion) (s : State) : State := cs.foldl (fun s c => handOver p c s) s

/-- The end of an event that made entries of `p` DONE: FENCE, FLUSH and DETACH entries follow, and every
completion is handed over in acceptance order (R123). `before` is the queue before the event. -/
def settlePort (p : PortId) (before : List ReqEntry) (s : State) : State :=
  let q := sweepQueue true true (s.queue p)
  handOverAll p ((newlyDone before q).filterMap ReqEntry.completion) (s.setQueue p q)

/-- `settlePort` for the four ports; `s0` is the state before the event. -/
def settleAll (s0 s : State) : State := ports.foldl (fun s p => settlePort p (s0.queue p) s) s

/-! ### Translation -/

/-- The access check (R44): the state of an entry given a map value. -/
def accessCheck (kind : ReqKind) (frame : Nat) (access : Access) : ReqState :=
  match access with
  | .readWrite => .bound frame
  | .read => if isWriting kind then .done .protection Gathered.nothing else .bound frame

/-- The entry leaves the Walker's retry list (R38). -/
def leaveRetry (p : PortId) (tag : Nat) (s : State) : State :=
  s.setWalker { s.walker with retry := s.walker.retry.filter fun r => !(r.1 == p && r.2 == tag) }

/-- The entry is on the Walker's retry list once: it keeps its place if it has one, and is put on at the
end otherwise (R38). -/
def joinRetry (p : PortId) (tag : Nat) (s : State) : State :=
  if s.walker.retry.any fun r => r.1 == p && r.2 == tag then s
  else s.setWalker { s.walker with retry := s.walker.retry ++ [(p, tag)] }

/-- A walk of (p, hpn) is created and its read asked for (R36). -/
def createWalk (p : PortId) (hpn : Nat) (s : State) : State :=
  askRead p hpn (s.setWalker { s.walker with walks := s.walker.walks ++ [{ port := p, hpn := hpn, stale := false }] })

/-- The Translation Unit of `p` translates a WAITING entry (R43). -/
def translate (p : PortId) (tag : Nat) (s : State) : State :=
  match s.entry p tag with
  | none => s
  | some e =>
    match placeOf e.kind with
    | none => s
    | some pl =>
      match (s.cache p).find? fun c => c.hpn == pl.hpn with
      | some c =>
        let s := s.setCache p (c :: (s.cache p).filter fun c' => !(c'.hpn == pl.hpn))
        setEntryState p tag (accessCheck e.kind c.frame c.access) (leaveRetry p tag s)
      | none =>
        if s.hasWalk p pl.hpn then setEntryState p tag .walking (leaveRetry p tag s)
        else if s.walker.walks.length < Config.walkQueueSize then
          setEntryState p tag .walking (leaveRetry p tag (createWalk p pl.hpn s))
        else joinRetry p tag s

/-- The entry is translated again if it is WAITING; one that is no longer there or no longer WAITING leaves
the retry list (R38). -/
def retryOne (s : State) (r : PortId × Nat) : State :=
  match s.entry r.1 r.2 with
  | some e => if e.state = .waiting then translate r.1 r.2 s else leaveRetry r.1 r.2 s
  | none => leaveRetry r.1 r.2 s

/-- "When a walk leaves the queue, every entry on the list retries its translation (R43), oldest first"
(R38). -/
def retryAll (s : State) : State := s.walker.retry.foldl retryOne s

/-- An entry is installed as the most recent; one of the same HPN is replaced, and the least recently used
leaves a full cache (R41). -/
def install (c : CacheEntry) (cache : List CacheEntry) : List CacheEntry :=
  (c :: cache.filter fun c' => !(c'.hpn == c.hpn)).take Config.cacheSize

/-- An entry of `p` that is WALKING and names `hpn` is served by the walk of (p, hpn) (R36). -/
def ReqEntry.walkedBy (e : ReqEntry) (hpn : Nat) : Bool := decide (e.state = .walking) && e.namesHpn hpn

/-- A walk of (p, hpn) delivers a data result and leaves the queue (R37, R39): nothing is delivered while
`p` is DETACHING. -/
def deliverWalk (p : PortId) (hpn : Nat) (v : MapValue) (s : State) : State :=
  let s := s.setWalker { s.walker with walks := s.walker.walks.filter fun w => !w.isOf p hpn }
  let s :=
    if (s.link p).state = .detaching then s
    else
      match v with
      | .invalid =>
        s.setQueue p ((s.queue p).map fun e =>
          if e.walkedBy hpn then { e with state := .done .unmapped Gathered.nothing } else e)
      | .valid f a =>
        let s := s.setCache p (install { hpn := hpn, frame := f, access := a } (s.cache p))
        s.setQueue p ((s.queue p).map fun e =>
          if e.walkedBy hpn then { e with state := accessCheck e.kind f a } else e)
  retryAll s

/-- "It returns to WAITING every Request Queue entry of port P that is BOUND and names H (unbinding)", and
each translates again, in acceptance order (R30, R43, R45). -/
def unbind (p : PortId) (hpn : Nat) (s : State) : State :=
  let bound := (s.queue p).filter fun e =>
    e.namesHpn hpn &&
      (match e.state with
        | .bound _ => true
        | .waiting => false
        | .walking => false
        | .issued _ _ _ _ => false
        | .done _ _ => false)
  let s := bound.foldl (fun s e => setEntryState p e.tag .waiting s) s
  bound.foldl (fun s e => translate p e.tag s) s

/-! ### Ordering -/

/-- The entry's lines cover line `l` of host page `hpn`. -/
def ReqEntry.covers (e : ReqEntry) (hpn l : Nat) : Bool :=
  (placeOf e.kind).any fun pl => pl.hpn == hpn && decide (pl.line ≤ l) && decide (l < pl.line + pl.count)

/-- An earlier entry that does not hold line `l` back: it does not touch it, is DONE, or its access to it
has been granted (R116). -/
def ReqEntry.clears (e : ReqEntry) (hpn l : Nat) : Bool :=
  !e.covers hpn l || e.isDone || (placeOf e.kind).any fun pl => decide (l < pl.line + e.granted)

/-- The frame an entry's next access goes to and the line, when it is BOUND or ISSUED with a line not yet
granted (R115). -/
def ReqEntry.nextAccess (e : ReqEntry) : Option (Nat × Nat) :=
  match placeOf e.kind with
  | none => none
  | some pl =>
    match e.state with
    | .bound f => some (f, pl.line)
    | .issued f g _ _ => if g < pl.count then some (f, pl.line + g) else none
    | .waiting => none
    | .walking => none
    | .done _ _ => none

/-- The entry holds back every later one: a FENCE while it is WAITING (R118), a DETACH for as long as it is in the
queue, "held behind it" until its completion is sent (R120). DESIGN CHOICE (assumption log, 31): R115 speaks of a
DETACH "still WAITING", and the model follows R120. -/
def ReqEntry.holdsLater (e : ReqEntry) : Bool :=
  decide (e.kind = .detach) || (decide (e.kind = .fence) && decide (e.state = .waiting))

/-- The eligible entries of a queue for channel `c`, in acceptance order (R115); `earlier` are the entries
already passed. What a DETACH that is DONE and not yet sent holds back is settled in `ReqEntry.holdsLater`
(assumption log, 31). -/
def eligibleFrom (s : State) (c : ChannelId) (earlier : List ReqEntry) : List ReqEntry → List ReqEntry
  | [] => []
  | e :: t =>
    let rest := eligibleFrom s c (earlier ++ [e]) t
    match e.nextAccess, placeOf e.kind with
    | some (f, l), some pl =>
      if channelOf s f = c.val ∧ (earlier.all fun b => b.clears pl.hpn l) ∧
          !(earlier.any ReqEntry.holdsLater) then e :: rest
      else rest
    | _, _ => rest

/-- The eligible entries of port `p` for channel `c` (R115). -/
def eligible (s : State) (c : ChannelId) (p : PortId) : List ReqEntry := eligibleFrom s c [] (s.queue p)

/-- The entry whose next line is sent: the earliest URGENT one, else the earliest NORMAL one (R121). -/
def chosenEntry (s : State) (c : ChannelId) (p : PortId) : Option ReqEntry :=
  match (eligible s c p).find? fun e => isUrgent e.kind with
  | some e => some e
  | none => (eligible s c p).head?

/-- The access that is sent for line number `k` of the request (R112). -/
def lineAccess (kind : ReqKind) (k : Nat) : AccessKind :=
  match kind with
  | .read _ _ _ _ => .read
  | .write _ _ _ _ none data => .fullWrite (slice data (64 * k) 64)
  | .write _ _ _ _ (some mask) data =>
    let m := (mask.drop (64 * k)).take 64
    if m.all id then .fullWrite (slice data (64 * k) 64) else .partialWrite (slice data (64 * k) 64) m
  | .cswap _ _ _ g cmp new => .cswap g cmp new
  | .fence => .read
  | .flush => .read
  | .detach => .read

end Sys2Proof.Machine
end

