-- ==== Sys2Proof/Machine/RecallOps.lean ====
section
/-! DEFINITION. The Recall Unit's records (Chapter 5): creating them, notifying, forcing, unmapping,
draining and reporting them complete. -/

namespace Sys2Proof.Machine

/-- The pending list of `p` is replaced (R93). -/
def setPending (p : PortId) (l : List Nat) (s : State) : State :=
  s.setRecalls { s.recalls with pendingLists := s.recalls.pendingLists.set p l }

/-- The invalid write a record asks for (R100). -/
def RecallRecord.unmapWrite (r : RecallRecord) : MapWrite :=
  { port := r.port, hpn := r.hpn, value := .invalid, producer := .unmap r.recallId }

/-- A record enters UNMAPPING: its deadline is cancelled and its invalid write is asked for (R95, R97, R100,
R106). -/
def startUnmap (r : RecallRecord) (s : State) : State :=
  askWrite r.unmapWrite (updateRecall r.recallId (fun r => { r with phase := .unmapping, deadline := none }) s)

/-- The counter "goes on advancing until it reaches a value" that `used` does not hold (R72, R89). The first
argument bounds the search: a table holds fewer ids than it allows for. -/
def advanceId (used : Nat → Bool) : Nat → Nat → Nat
  | 0, c => c
  | n + 1, c => if used c then advanceId used n ((c + 1) % Config.idSpan) else c

/-- The next recall id after `c`, given the table (R89). -/
def nextRecallId (table : List RecallRecord) (c : Nat) : Nat :=
  advanceId (fun n => table.any fun r => r.recallId == n) table.length ((c + 1) % Config.idSpan)

/-- A recall record is created for the item (R88 to R92): it takes the counter's value as its id, and enters
UNMAPPING, NOTIFIED or NOTIFY_PENDING. -/
def createRecall (frame : Nat) (i : MapItem) (reason : RecallReason) (notify : Bool) (origin : Option (PortId × Nat))
    (s : State) : State :=
  let rid := s.recalls.counter
  let notifies := notify && decide ((s.link i.port).state = .attached)
  let room := s.noticeRoom i.port
  let r : RecallRecord :=
    { recallId := rid, frame := frame, port := i.port, hpn := i.hpn, role := i.role, reason := reason,
      notify := notify, phase := if !notifies then .unmapping else if room then .notified else .notifyPending,
      noticeSent := if notify then some false else none,
      deadline := if notifies then some (s.now + s.mgmt.settings.recallMs) else none,
      origin := origin, drained := none }
  let table := s.recalls.table ++ [r]
  let s := s.setRecalls { s.recalls with table := table, counter := nextRecallId table rid }
  if !notifies then askWrite r.unmapWrite s
  else if room then appendNotice i.port r.notice s
  else setPending i.port (s.recalls.pendingLists.get i.port ++ [rid]) s

/-- The record completes: its completion report goes to the Allocation Engine (R104), once. -/
def reportComplete (rid : Nat) (s : State) : State :=
  if s.recalls.reported.contains rid then s
  else s.setRecalls { s.recalls with reported := s.recalls.reported ++ [rid] }

/-- The frame holds a mapping item other than its HOLDER item (R103). -/
def FrameRecord.hasReader (r : FrameRecord) : Bool := r.items.any fun i => i.role == .reader

/-- The drain check of a DRAINING record (R101, R103): its condition is met when the port has no ISSUED
entry naming the frame. A READER record then completes; a HOLDER record completes if no other item is
left, and is marked drained otherwise. -/
def drainCheck (rid : Nat) (s : State) : State :=
  match s.recordById rid with
  | none => s
  | some r =>
    if r.phase ≠ .draining ∨ (s.queue r.port).any (fun e => e.issuedTo r.frame) then s
    else
      match r.role with
      | .reader => reportComplete rid s
      | .holder =>
        if (s.record r.frame).hasReader then updateRecall rid (fun r => { r with drained := some true }) s
        else reportComplete rid s

/-- The Request Unit of `p` reports that an entry naming `frame` has left ISSUED (R102). -/
def drainReport (p : PortId) (frame : Nat) (s : State) : State :=
  match s.recalls.table.find? fun r => r.port == p && r.frame == frame with
  | none => s
  | some r => drainCheck r.recallId s

/-- The record's invalid write has been performed (R100): it moves to DRAINING and makes its first check. -/
def unmapPerformed (rid : Nat) (s : State) : State :=
  drainCheck rid (updateRecall rid (fun r =>
    { r with phase := .draining, drained := match r.role with | .holder => some false | .reader => none }) s)

/-- The HOLDER record of a frame that now holds only its HOLDER item completes if it is DRAINING and drained
(R103). -/
def holderMayComplete (frame : Nat) (s : State) : State :=
  if (s.record frame).hasReader then s
  else
    match s.recalls.table.find? fun r => r.frame == frame && r.role == .holder with
    | none => s
    | some r => if r.phase = .draining ∧ r.drained = some true then reportComplete r.recallId s else s

/-- The record leaves its port's pending list (R97, R106). -/
def leavePending (r : RecallRecord) (s : State) : State :=
  setPending r.port ((s.recalls.pendingLists.get r.port).filter fun n => !(n == r.recallId)) s

/-- The teardown of `p` moves every record of `p` in NOTIFY_PENDING or NOTIFIED to UNMAPPING (R106), in the
table's order. -/
def recallsAtTeardown (p : PortId) (s : State) : State :=
  let moved := s.recalls.table.filter fun r =>
    r.port == p && (decide (r.phase = .notifyPending) || decide (r.phase = .notified))
  moved.foldl (fun s r => startUnmap r (leavePending r s)) s

end Sys2Proof.Machine
end

