-- ==== Sys2Proof/Machine/EngineOps.lean ====
section
/-! DEFINITION. What the Allocation Engine does in more than one event (Chapters 1, 3 and 4): the rotation,
taking a command, granting claims, offers and their ends, frames entering and leaving their states, and
the beginning and end of a port's teardown (R175 to R177). -/

namespace Sys2Proof.Machine

/-! ### Command service -/

/-- A port's place in the rotation is eligible (R48). -/
def State.portEligible (s : State) (p : PortId) : Bool :=
  if (s.link p).state = .detaching then
    (match s.engine.teardown.get p with
      | .scanning _ waiting => !waiting
      | .idle => false
      | .handed => false
      | .finished => false)
  else !(s.link p).commands.isEmpty && !s.engine.headWaiting.get p

/-- A source of the rotation is eligible; source 4 is the management slot (R48). -/
def State.sourceEligible (s : State) (i : Fin 5) : Bool :=
  if h : i.val < 4 then s.portEligible ⟨i.val, h⟩ else s.engine.slot.isSome

/-- The source the engine serves next: the first eligible one in rotation order after the pointer (R48);
none while it is not ready to take an event (R28, R49). -/
def State.nextSource (s : State) : Option (Fin 5) :=
  if s.engineReady then
    (([1, 2, 3, 4, 5] : List (Fin 5)).map fun k => s.engine.pointer + k).find? s.sourceEligible
  else none

/-- The place of port `p` in the rotation. -/
def sourceOf (p : PortId) : Fin 5 := p.castSucc

/-- The engine serves port `p` now. -/
def State.serves (s : State) (p : PortId) : Bool := s.nextSource == some (sourceOf p)

/-- The tag and command at the head of the Command Queue of `p`, when the engine serves it now. -/
def State.servedCommand (s : State) (p : PortId) : Option (Nat × PoolCmd) :=
  if s.serves p ∧ (s.link p).state ≠ .detaching then (s.link p).commands.head? else none

/-- The management request in the slot, when the engine serves it now. -/
def State.servedRequest (s : State) : Option MgmtReq :=
  if s.nextSource = some 4 then s.engine.slot else none

/-- The pointer moves to the source served (R48). -/
def movePointer (i : Fin 5) (s : State) : State := s.setEngine { s.engine with pointer := i }

/-- The head command of `p` is taken: it leaves the Command Queue, its waiting mark goes, and its credit is
to be returned (R49, R167). -/
def takeCommand (p : PortId) (s : State) : State :=
  let l := s.link p
  let s := s.setLink p { l with commands := l.commands.tail, commandReturns := l.commandReturns + 1 }
  s.setEngine { s.engine with headWaiting := s.engine.headWaiting.set p false }

/-- A command is refused: taken, with its completion handed over at once (R49). -/
def refuseCommand (p : PortId) (tag : Nat) (status : Status) (s : State) : State :=
  handOver p (commandCompletion tag status) (takeCommand p s)

/-- A command is deferred: its head is marked waiting and nothing else changes (R51). -/
def deferCommand (p : PortId) (s : State) : State :=
  s.setEngine { s.engine with headWaiting := s.engine.headWaiting.set p true }

/-- A record of the Recall Table has freed: "the engine clears the waiting mark of every deferred head and
of every waiting teardown scan" (R51). -/
def clearWaiting (s : State) : State :=
  let wake (t : ScanState) : ScanState :=
    match t with
    | .scanning n _ => .scanning n false
    | .idle => .idle
    | .handed => .handed
    | .finished => .finished
  s.setEngine { s.engine with
    headWaiting := .all false,
    teardown := ⟨wake s.engine.teardown.v0, wake s.engine.teardown.v1, wake s.engine.teardown.v2,
      wake s.engine.teardown.v3⟩ }

/-- The result of the running management request is placed, and the buffer becomes READY (R180). -/
def placeResult (status : MgmtStatus) (data : List Byte) (s : State) : State :=
  match s.mgmt.buffer with
  | .running id req => s.setMgmt { s.mgmt with buffer := .ready id req status data }
  | .empty => s
  | .ready _ _ _ _ => s

/-- The slot's request has been taken whole: the slot is empty again and the result goes back (R53). -/
def answerSlot (status : MgmtStatus) (data : List Byte) (s : State) : State :=
  placeResult status data (movePointer 4 (s.setEngine { s.engine with slot := none }))

/-! ### Scrubbing hand-overs -/

/-- The Scrub Engine takes the head of the Scrub Queue when it is IDLE, the device state is RUN and the
queue is not empty (R150). -/
def takeScrub (s : State) : State :=
  match s.scrub.queue with
  | [] => s
  | f :: rest =>
    if s.scrub.phase = .idle ∧ s.device = .run then
      s.setScrub { s.scrub with
        queue := rest, phase := .zero, current := some f, nextLine := 0, verified := 0,
        uncorrectableSeen := false, number := s.scrub.number + 1, ended := false }
    else s

/-- The frame joins the tail of the Scrub Queue (R149), which an IDLE Scrub Engine may take at once. -/
def joinScrub (f : Nat) (s : State) : State :=
  takeScrub (s.setScrub { s.scrub with queue := s.scrub.queue ++ [f] })

/-- The Scrub Engine has no current frame and is IDLE (R154, R155). -/
def scrubIdle (s : State) : State :=
  s.setScrub { s.scrub with
    phase := .idle, current := none, nextLine := 0, verified := 0,
    uncorrectableSeen := false, ended := false }

/-! ### Claims -/

/-- One frame goes to the claiming port (R7). -/
def lendFrame (p : PortId) (hpn f : Nat) (s : State) : State :=
  s.setRecord f { s.record f with
    state := .held, holder := some p,
    items := [{ port := p, hpn := hpn, access := .readWrite, role := .holder, phase := .active }],
    leave := none, quarantineOnExit := false }

/-- The claim of `p` is granted: the frames at the head of the Free List become HELD, held(P) rises, and one
valid map write per frame is asked for in ascending HPN order (R7, R57). -/
def grantClaim (p : PortId) (tag hpn count : Nat) (s : State) : State :=
  let fs := s.engine.freeList.take count
  let s := s.setEngine { s.engine with
    freeList := s.engine.freeList.drop count,
    held := s.engine.held.set p (s.engine.held.get p + count),
    granted := s.engine.granted ++ [{ port := p, tag := tag, left := count }] }
  let s := fs.zipIdx.foldl (fun s fk => lendFrame p (hpn + fk.2) fk.1 s) s
  fs.zipIdx.foldl (fun s fk =>
    askWrite { port := p, hpn := hpn + fk.2, value := .valid fk.1 .readWrite, producer := .claim p tag } s) s

/-- The head of the Claim Queue is examined, and each new head in turn (R59, R60): the burst stops at the
first head that the Free List cannot serve. -/
def examineClaims : List ParkedClaim → State → State
  | [], s => s.setEngine { s.engine with claims := [] }
  | c :: rest, s =>
    if s.engine.freeList.length < c.count then s.setEngine { s.engine with claims := c :: rest }
    else
      let s := s.setEngine { s.engine with claims := rest }
      if s.mgmt.settings.quota.get c.port < s.engine.held.get c.port + c.count then
        examineClaims rest (handOver c.port (commandCompletion c.tag .quota) s)
      else examineClaims rest (grantClaim c.port c.tag c.hpn c.count s)

/-- The head of the Claim Queue is examined as it stands (R59). -/
def examineHead (s : State) : State := examineClaims s.engine.claims s

/-- Parked claims leave the queue; if the head was among them the new head is examined (R59, R61, R63). -/
def removeClaims (gone : ParkedClaim → Bool) (s : State) : State :=
  let headGone := (s.engine.claims.head?).any gone
  let s := s.setEngine { s.engine with claims := s.engine.claims.filter fun c => !gone c }
  if headGone then examineHead s else s

/-! ### Offers -/

/-- The offer leaves the table and its GRANT completes with this status (R74). -/
def resolveOffer (o : Offer) (status : Status) (s : State) : State :=
  handOver o.fromPort (grantCompletion o.tag status o.grantId)
    (s.setEngine { s.engine with offers := s.engine.offers.filter fun o' => !(o'.grantId == o.grantId) })

/-- The target of an ended offer is informed (R79, R80, R81): an unsent OFFER notice is removed; otherwise a
WITHDRAWN notice is appended if the target's queue has room. `fill` says whether a place freed is filled
from the pending list before the engine goes on (R93). -/
def informTarget (fill : Bool) (o : Offer) (cause : WithdrawnCause) (s : State) : State :=
  if o.sent then
    if s.noticeRoom o.toPort then appendNotice o.toPort (.withdrawn o.grantId cause) s else s
  else if fill then removeNoticeAndFill o.toPort (Notice.isOffer o.grantId) s
  else removeNotice o.toPort (Notice.isOffer o.grantId) s

/-- An offer is withdrawn (R80). -/
def withdrawOffer (fill : Bool) (o : Offer) (s : State) : State :=
  informTarget fill o .withdrawal (resolveOffer o .withdrawn s)

/-- Every offer on the frame is withdrawn (R80), in the order in which they were made. -/
def withdrawFrameOffers (f : Nat) (s : State) : State :=
  (s.engine.offers.filter fun o => o.frame == f).foldl (fun s o => withdrawOffer true o s) s

/-- The offer of this id made to `p`, if the table holds one (R76, R78). -/
def State.offerTo (s : State) (p : PortId) (gid : Nat) : Option Offer :=
  s.engine.offers.find? fun o => o.grantId == gid && o.toPort == p

/-- The next grant id after `c`, given the table (R72). -/
def nextGrantId (table : List Offer) (c : Nat) : Nat :=
  advanceId (fun n => table.any fun o => o.grantId == n) table.length ((c + 1) % Config.idSpan)

/-! ### Frames entering and leaving RECALLING and QUARANTINED -/

/-- The item of `p` in the record turns LEAVING (R5). -/
def FrameRecord.turnLeaving (r : FrameRecord) (p : PortId) : FrameRecord :=
  { r with items := r.items.map fun i => if i.port = p then { i with phase := .leaving } else i }

/-- A frame in HELD or SHARED becomes RECALLING (R10): every ACTIVE item turns LEAVING and gets a record, in
ascending port order, with the reason and notify that `why` gives it, and every offer on the frame is
withdrawn. -/
def enterRecalling (f : Nat) (leave : LeaveReason) (quarantineOnExit : Bool) (why : MapItem → RecallReason × Bool)
    (s : State) : State :=
  let r := s.record f
  let s := s.setRecord f { r with
    state := .recalling, leave := some leave, quarantineOnExit := quarantineOnExit,
    items := r.items.map fun i => { i with phase := .leaving } }
  let s := r.activeItems.foldl (fun s i => createRecall f i (why i).1 (why i).2 none s) s
  withdrawFrameOffers f s

/-- The frame enters QUARANTINED, and a QUARANTINED fault record is handed over (R22). -/
def quarantineFrame (f : Nat) (cause : QuarantineCause) (s : State) : State :=
  handFault (.quarantined f cause) (s.setRecord f { s.record f with state := .quarantined })

/-- The damaged mark goes from "no" to "yes" (R19): a FREE frame leaves the Free List for QUARANTINED. -/
def markDamaged (f : Nat) (s : State) : State :=
  let r := s.record f
  let s := s.setRecord f { r with damaged := true }
  if r.state = .free then
    quarantineFrame f .damage (s.setEngine { s.engine with freeList := s.engine.freeList.filter fun g => !(g == f) })
  else s

/-- The last item of a RECALLING frame, its HOLDER item, is removed: the frame goes to QUARANTINED or to the
Scrub Queue tail, held(P) of its holder falls by one, and an accepted RELEASE completes (R12, R22). -/
def exitRecalling (f : Nat) (s : State) : State :=
  let r := s.record f
  let s := s.setRecord f { r with
    state := .scrubbing, holder := none, items := [], leave := none, quarantineOnExit := false }
  let s :=
    match r.holder with
    | none => s
    | some p =>
      let s := s.setEngine { s.engine with held := s.engine.held.set p (s.engine.held.get p - 1) }
      match r.leave with
      | some (.release tag) => handOver p (commandCompletion tag .ok) s
      | some .evict => s
      | some .teardown => s
      | none => s
  if r.damaged then quarantineFrame f .damage s
  else if r.quarantineOnExit then quarantineFrame f .management s
  else joinScrub f s

/-! ### Teardown -/

/-- Teardown of `p` ends when the Link Port holds all three reports (R176, R177). -/
def checkTeardownEnd (p : PortId) (s : State) : State :=
  let l := s.link p
  if l.state = .detaching ∧ l.queueEmptyReport ∧ l.engineReport ∧ l.recallReport then
    let s := s.setLink p { l with
      state := if l.disablePending then .disabled else if l.link = .up then .idle else .offline,
      disablePending := false, cause := none, queueEmptyReport := false, engineReport := false,
      recallReport := false }
    s.setEngine { s.engine with teardown := s.engine.teardown.set p .idle }
  else s

/-- The Allocation Engine's report of R176: made when it has taken the teardown of `p`, its scan has passed
frame F - 1 and the directory holds no item of `p` (R52, R104). -/
def engineTeardownReport (p : PortId) (s : State) : State :=
  if (s.link p).state = .detaching ∧ s.engine.teardown.get p = .finished ∧ !s.hasItem p then
    checkTeardownEnd p (s.setLink p { s.link p with engineReport := true })
  else s

/-- The Recall Unit's report that no record of `p` is left in the table (R106, R176). -/
def recallTeardownReport (p : PortId) (s : State) : State :=
  if (s.link p).state = .detaching ∧ !(s.recalls.table.any fun r => r.port == p) then
    checkTeardownEnd p (s.setLink p { s.link p with recallReport := true })
  else s

/-- The Request Unit's report that the Request Queue of `p` is empty (R128). -/
def queueTeardownReport (p : PortId) (s : State) : State :=
  if (s.link p).state = .detaching ∧ (s.queue p).isEmpty then
    checkTeardownEnd p (s.setLink p { s.link p with queueEmptyReport := true })
  else s

/-- The Link Port's own part of the beginning of teardown (R175, steps 1 to 6). -/
def LinkPort.detached (l : LinkPort) (cause : TeardownCause) : LinkPort :=
  { l with
    state := .detaching, cause := some cause, requestCredits := 0, requestReturns := 0, commandCredits := 0,
    commandReturns := 0, completionCredits := 0, noticeCredits := 0, tags := [], commands := [], outbound := [],
    notices := [], queueEmptyReport := false, engineReport := false, recallReport := false,
    sent := if l.link = .up ∧ cause ≠ .linkLost then l.sent ++ [.sessionEnd l.session cause] else l.sent }

/-- The Request Unit discards every entry of `p` that is not ISSUED; entries on the retry list leave it
(R127). -/
def discardRequests (p : PortId) (s : State) : State :=
  let s := s.setQueue p ((s.queue p).filter ReqEntry.isIssued)
  s.setWalker { s.walker with retry := s.walker.retry.filter fun r => !(r.1 == p) }

/-- Teardown of port `p` begins (R175): the Link Port detaches, and hands the teardown to the Request Unit
(R127, R128), the Recall Unit (R106) and the Allocation Engine. -/
def beginTeardown (p : PortId) (cause : TeardownCause) (s : State) : State :=
  let s := s.setLink p ((s.link p).detached cause)
  let s := s.setEngine { s.engine with
    headWaiting := s.engine.headWaiting.set p false, teardown := s.engine.teardown.set p .handed }
  let s := recallsAtTeardown p (discardRequests p s)
  recallTeardownReport p (queueTeardownReport p s)

/-- A protocol violation of `p` is found: a PROTOCOL fault record, then teardown (R166). -/
def violation (p : PortId) (kind : Violation) (s : State) : State :=
  beginTeardown p .protocol (handFault (.protocol p (s.link p).session kind) s)

end Sys2Proof.Machine
end

