-- ==== Sys2Proof/Machine/Arbiter.lean ====
section
/-! DEFINITION. The channel arbiters (Section 7.5): which requester has an access, whom a free place goes to,
and how an access enters a Channel Queue. -/

namespace Sys2Proof.Machine

/-- Whom the arbiter grants (R143). -/
inductive Grantee where
  | map
  | port (p : PortId)
  | scrub
  deriving DecidableEq, Repr

/-- The oldest map read not yet sent: the earliest to arrive of those not issued (R29). -/
def MapUnit.unsentRead (m : MapUnit) : Option MapRead := m.reads.find? fun r => !r.issued

/-- The Map Unit has an access for channel 0: a map write at the head of its queue or an unsent map read, or
during MAP_CLEAR a clear write not yet sent (R143). -/
def State.mapHasAccess (s : State) : Bool :=
  s.mapUnit.clearNext.isSome || !s.mapUnit.queue.isEmpty || s.mapUnit.unsentRead.isSome

/-- A port has an eligible access for the channel (R115, R143). -/
def State.portHasAccess (s : State) (c : ChannelId) (p : PortId) : Bool := !(eligible s c p).isEmpty

/-- The Scrub Engine has an access for the channel: its current frame lies on it, its phase has a line to
send and fewer than 8 accesses are outstanding (R143, R151, R152). -/
def State.scrubHasAccess (s : State) (c : ChannelId) : Bool :=
  match s.scrub.current with
  | none => false
  | some f =>
    decide (s.scrub.phase ≠ .idle) && decide (channelOf s f = c.val) &&
      decide (s.scrub.nextLine < Config.linesPerFrame) && decide (s.scrub.outstanding < Config.scrubOutstanding)

/-- The ports in round order: the start port, then the following ones, wrapping (R145). -/
def Round.order (r : Round) : List PortId := [r.start, r.start + 1, r.start + 2, r.start + 3]

/-- "the first requester that has an access and has not used its allowance", the Scrub Engine last and once
a round; its grants used rise by one (R145). -/
def Round.pick (r : Round) (portHas : PortId → Bool) (scrubHas : Bool) : Option (Grantee × Round) :=
  match r.order.find? fun p => portHas p && decide (r.used.get p < r.allowance.get p) with
  | some p => some (.port p, { r with used := r.used.set p (r.used.get p + 1) })
  | none => if scrubHas && !r.scrubUsed then some (.scrub, { r with scrubUsed := true }) else none

/-- The round that R145 decides in: the first one begins at the first such grant after a reset, with the
weights in force (R148). -/
def Round.current (r : Round) (weight : Quad Nat) : Round :=
  if r.begun then r
  else { r with begun := true, allowance := weight, used := .all 0, scrubUsed := false }

/-- The next round: it starts at the port after the previous start port, with the weights in force now
(R146). -/
def Round.next (r : Round) (weight : Quad Nat) : Round :=
  { begun := true, start := r.start + 1, allowance := weight, used := .all 0, scrubUsed := false }

/-- The arbiter's decision on channel `c`, with the round state it leaves: none when the channel is not
populated, has no free place, or no requester has an access (R143 to R147). -/
def State.arbiter (s : State) (c : ChannelId) : Option (Grantee × Round) :=
  let round := (s.channel c).round
  if !s.operating || decide (s.pop.channels ≤ c.val) || decide (Config.channelQueueSize ≤ (s.channel c).queue.length) then
    none
  else if c = 0 ∧ s.mapHasAccess then some (.map, round)
  else if ports.any (s.portHasAccess c) then
    let r := round.current s.mgmt.settings.weight
    match r.pick (s.portHasAccess c) (s.scrubHasAccess c) with
    | some g => some g
    | none => (r.next s.mgmt.settings.weight).pick (s.portHasAccess c) (s.scrubHasAccess c)
  else if s.scrubHasAccess c then some (.scrub, round)
  else none

/-- The round state that the arbiter's decision leaves, when it grants `g`. -/
def State.granted (s : State) (c : ChannelId) (g : Grantee) : Option Round :=
  match s.arbiter c with
  | some (g', r) => if g' = g then some r else none
  | none => none

/-- An access enters the Channel Queue of `c` at its end, in the event of the grant (R132, R143). -/
def enqueue (c : ChannelId) (r : Round) (a : Access64) (s : State) : State :=
  s.setChannel c { queue := (s.channel c).queue ++ [a], round := r }

end Sys2Proof.Machine
end

