-- ==== Sys2Proof/Machine/MapAccess.lean ====
section
/-! DEFINITION. Map accesses: MAP_ACCESS_GRANT, MAP_CLEAR_WRITE, MAP_READ_RESULT and REPAIR_SEARCH_STEP
(R29 to R39, R46). -/

namespace Sys2Proof.Machine

/-- The line of frame 0 that the entry of port `p` for `hpn` occupies (R26). -/
def mapLine (p : PortId) (hpn : Nat) : Nat := p.val * Config.hpnCount + hpn

/-- The last write of a claim grant has been reported: the claim is no longer in progress and its
completion OK is handed over; an earlier one counts down (R57). -/
def claimWritePerformed (p : PortId) (tag : Nat) (s : State) : State :=
  match s.engine.granted.find? fun g => g.port == p && g.tag == tag with
  | none => s
  | some g =>
    if g.left ≤ 1 then
      handOver p (commandCompletion tag .ok)
        (s.setEngine { s.engine with granted := s.engine.granted.filter fun g => !(g.port == p && g.tag == tag) })
    else
      s.setEngine { s.engine with
        granted := s.engine.granted.map fun g => if g.port = p ∧ g.tag = tag then { g with left := g.left - 1 } else g }

/-- The detail of the MAP_REPAIRED record for the value a repair wrote (R34). -/
def repairDetail : MapValue → RepairDetail
  | .invalid => .invalid
  | .valid f _ => .valid f

/-- A performed write is reported to its producer (R30, step 4). -/
def reportPerformed (w : MapWrite) (s : State) : State :=
  match w.producer with
  | .claim p tag => claimWritePerformed p tag s
  | .accept q tag holder grantTag gid =>
    handOver holder (grantCompletion grantTag .ok gid) (handOver q (commandCompletion tag .ok) s)
  | .unmap rid => unmapPerformed rid s
  | .repair => endRepair w.port w.hpn (repairDetail w.value) s

/-- The repair that gave way to the write of this arrival number ends with it (R35). -/
def endSuperseded (w : QueuedWrite) (s : State) : State :=
  if s.mapUnit.repairs.any fun r =>
      r.port == w.write.port && r.hpn == w.write.hpn && decide (r.phase = .superseded w.arrival) then
    endRepair w.write.port w.write.hpn .superseded s
  else s

/-- "It marks stale the map read of (P, H) that was issued earlier and has not yet returned" (R30). -/
def markStale (p : PortId) (hpn : Nat) (s : State) : State :=
  if s.mapUnit.reads.any fun r => r.port == p && r.hpn == hpn && r.issued then setStale p hpn true s else s

/-- A map write is performed: the four effects of R30 in their order, then the repair it superseded ends. -/
def performWrite (w : QueuedWrite) (s : State) : State :=
  let p := w.write.port
  let hpn := w.write.hpn
  let s := s.setCache p ((s.cache p).filter fun c => !(c.hpn == hpn))
  let s := markStale p hpn (unbind p hpn s)
  endSuperseded w (reportPerformed w.write s)

/-- The write at the head of the Map Write Queue is sent and performed; its place goes to a waiting write
(R28, R29, R30). DESIGN CHOICE (assumption log, 30): a map read asked for in the same event, by an unbinding or at
a repair's end, arrives before the waiting write that the freed place takes. -/
def sendMapWrite (round : Round) (w : QueuedWrite) (s : State) : State :=
  let s := enqueue 0 round
    { owner := .mapWrite, frame := 0, line := mapLine w.write.port w.write.hpn, kind := .mapWrite w.write.value } s
  let s := performWrite w (s.setMapUnit { s.mapUnit with queue := s.mapUnit.queue.tail })
  s.setMapUnit s.mapUnit.drained

/-- The oldest unsent map read is sent and so issued (R29). -/
def sendMapRead (round : Round) (r : MapRead) (s : State) : State :=
  let s := enqueue 0 round
    { owner := .mapRead r.port r.hpn, frame := 0, line := mapLine r.port r.hpn, kind := .read } s
  s.setMapUnit { s.mapUnit with
    reads := s.mapUnit.reads.map fun r' => if r'.port = r.port ∧ r'.hpn = r.hpn then { r' with issued := true } else r' }

/-- The earlier to arrive of the head map write and the oldest unsent map read is sent (R29). -/
def sendMapAccess (round : Round) (s : State) : State :=
  match s.mapUnit.queue.head?, s.mapUnit.unsentRead with
  | some w, some r => if w.arrival < r.arrival then sendMapWrite round w s else sendMapRead round r s
  | some w, none => sendMapWrite round w s
  | none, some r => sendMapRead round r s
  | none, none => s

/-- MAP_ACCESS_GRANT (R29, R30): the channel 0 arbiter grants the Map Unit, outside MAP_CLEAR. One event may
make entries DONE and frees places; their completions follow in acceptance order. -/
def execMapAccessGrant (s : State) : Host.Outcome State Fault Refusal :=
  whenOperating s <|
    match s.granted 0 .map, s.mapUnit.clearNext with
    | some round, none => settleAll s (sendMapAccess round s)
    | some _, some _ => s
    | none, _ => s

/-- The end of MAP_CLEAR: the device state becomes RUN and the Scrub Engine takes the head of its queue
(R46, R157, R159). -/
def endMapClear (s : State) : State :=
  takeScrub ((s.setMapUnit { s.mapUnit with clearNext := none }).setDevice .run)

/-- MAP_CLEAR_WRITE (R46): the next clear write is sent; the last one, for Port 3 HPN 8,191, ends the
clear. -/
def execMapClearWrite (s : State) : Host.Outcome State Fault Refusal :=
  whenOperating s <|
    match s.granted 0 .map, s.mapUnit.clearNext with
    | some round, some n =>
      let s := enqueue 0 round { owner := .mapWrite, frame := 0, line := n, kind := .mapWrite .invalid } s
      if n + 1 < Config.mapLines then s.setMapUnit { s.mapUnit with clearNext := some (n + 1) } else endMapClear s
    | some _, none => s
    | none, _ => s

/-- A map read of (p, hpn) has returned uncorrectable: its repair joins the list, and starts its search if
it is the first (R33). -/
def startRepair (p : PortId) (hpn : Nat) (s : State) : State :=
  startHeadRepair (s.setMapUnit { s.mapUnit with
    repairs := s.mapUnit.repairs ++ [{ port := p, hpn := hpn, phase := .queued }] })

/-- The walk of (p, hpn) carries the stale mark. -/
def State.isStale (s : State) (p : PortId) (hpn : Nat) : Bool :=
  s.walker.walks.any fun w => w.isOf p hpn && w.stale

/-- The result of the read of (p, hpn) is taken: stale, the walk reads again; uncorrectable, a repair
starts; data, the walk delivers (R31, R33, R37, R38). -/
def takeMapResult (p : PortId) (hpn : Nat) (v : Option MapValue) (s : State) : State :=
  if s.isStale p hpn then walkAgain p hpn s
  else
    match v with
    | none => startRepair p hpn s
    | some v => deliverWalk p hpn v s

/-- MAP_READ_RESULT (R31): the Map Unit takes the result of the map read of (p, hpn). -/
def execMapReadResult (p : PortId) (hpn : Nat) (s : State) : Host.Outcome State Fault Refusal :=
  whenOperating s <|
    match s.flight.mapResults.find? fun r => r.port == p && r.hpn == hpn with
    | none => s
    | some r =>
      let s1 := s.setFlight { s.flight with
        mapResults := s.flight.mapResults.filter fun r' => !(r'.port == p && r'.hpn == hpn) }
      let s1 := s1.setMapUnit { s1.mapUnit with
        reads := s1.mapUnit.reads.filter fun r' => !(r'.port == p && r'.hpn == hpn) }
      settleAll s (takeMapResult p hpn r.value s1)

/-- What the search finds in one record (R33). -/
def searchOutcome (f : Nat) (i : MapItem) : MapValue :=
  match i.phase with
  | .active => .valid f i.access
  | .leaving => .invalid

/-- The search of the head repair ends with this value, and its write is asked for (R33, R34). -/
def finishSearch (r : Repair) (rest : List Repair) (v : MapValue) (s : State) : State :=
  askWrite { port := r.port, hpn := r.hpn, value := v, producer := .repair }
    (s.setMapUnit { s.mapUnit with repairs := { r with phase := .writing v } :: rest })

/-- REPAIR_SEARCH_STEP (R33): the Allocation Engine reads the next directory record for the head repair. The
search ends at the first item found, or at frame F - 1 with none found. -/
def execRepairSearchStep (s : State) : Host.Outcome State Fault Refusal :=
  whenOperating s <|
    match s.engineReady, s.mapUnit.repairs with
    | true, r :: rest =>
      (match r.phase with
        | .searching n =>
          (match (s.record n).items.find? fun i => i.port == r.port && i.hpn == r.hpn with
            | some i => finishSearch r rest (searchOutcome n i) s
            | none =>
              if n + 1 < s.frames then
                s.setMapUnit { s.mapUnit with repairs := { r with phase := .searching (n + 1) } :: rest }
              else finishSearch r rest .invalid s)
        | .queued => s
        | .writing _ => s
        | .superseded _ => s)
    | true, [] => s
    | false, _ => s

end Sys2Proof.Machine
end

