-- ==== Sys2Proof/Machine/Resets.lean ====
section
/-! DEFINITION. POWER_ON, RESET_N_ASSERT, RESET_N_RELEASE and SUPPLY_FAIL (R158, R178), and the values that
every block takes at a reset (R23, R24, R47, R107, R129, R148, R156, R162). -/

namespace Sys2Proof.Machine

/-- What a write access to line number `n` would store (R136 to R138), when the line can be read: `none` when it
would store nothing. -/
def storedBy (a : Access64) (n : Nat) (d : Dram) : Option Dram :=
  match a.kind with
  | .read => none
  | .fullWrite data => some (d.storeLine n data)
  | .mapWrite v => some (d.storeMap a.line v)
  | .partialWrite data mask =>
    if d.isBad n then none
    else some (d.storeLine n (mergeBytes (d.readLine n) data mask))
  | .cswap g cmp new =>
    if d.isBad n then none
    else if granuleOf (d.readLine n) g = cmp then
      some (d.storeLine n (withGranule (d.readLine n) g new))
    else none

/-- An access that a reset discards: a write leaves its line "holding either its content before the access or
the content the access would have stored" (R148); which of the two is a free value. The line is the one of the
population latched so far (R131). -/
def discardAccess (s : State) (a : Access64) : State :=
  let s' := s.useFree
  if Config.discardedWriteStored s.freeCount then
    match storedBy a (s.lineOf a) s.dram with
    | some d => s'.setDram d
    | none => s'
  else s'

/-- Every access in a Channel Queue is discarded (R148). -/
def discardAccesses (s : State) : State :=
  [s.channels.v0, s.channels.v1, s.channels.v2, s.channels.v3].foldl (fun s ch => ch.queue.foldl discardAccess s) s

/-- Every block but the Management Interface takes its reset value, for the population `pop` (R158). What
has been sent on a link stays sent, and the model's clock, its count of free values and its command queue
go on. -/
def resetBlocks (pop : Population) (startUp : Bool) (s : State) : State :=
  let ports' (q : Quad LinkPort) : Quad LinkPort :=
    ⟨LinkPort.afterReset q.v0.sent, LinkPort.afterReset q.v1.sent, LinkPort.afterReset q.v2.sent,
      LinkPort.afterReset q.v3.sent⟩
  { s with
    pop := pop, device := .starting, links := ports' s.links, requests := .all [], caches := .all [],
    walker := Walker.afterReset, mapUnit := MapUnit.afterReset startUp, engine := Engine.afterReset,
    recalls := RecallUnit.afterReset, channels := .all (Channel.afterReset s.mgmt.settings.weight),
    scrub := Scrub.afterReset pop.frames, flight := InFlight.none }

/-- POWER_ON (R158): supply becomes valid. The population is latched, every block and the Management
Interface take their power-on values, DRAM holds nothing defined (R148), and start-up begins unless RESET_N
is held low. -/
def execPowerOn (pop : BitVec 3) (s : State) : Host.Outcome State Fault Refusal :=
  .next <|
    let s := ({ s with supplyValid := true }.setMgmt Mgmt.afterReset).setDram Dram.atPowerOn
    resetBlocks (Population.ofPins pop) (!s.resetAsserted) s

/-- RESET_N_ASSERT (R158): RESET_N goes from high to low. The population is latched, accesses in flight are
discarded (R148), every block and the Management Interface take their reset values, and the part is held.
Without supply only the pin changes; POWER_ON sets the values. -/
def execResetNAssert (pop : BitVec 3) (s : State) : Host.Outcome State Fault Refusal :=
  .next <|
    if s.operating then
      resetBlocks (Population.ofPins pop) false
        ({ discardAccesses s with resetAsserted := true }.setMgmt Mgmt.afterReset)
    else { s with resetAsserted := true }

/-- RESET_N_RELEASE (R158): when start-up begins, the links are released to train and the Map Unit begins
MAP_CLEAR at line 0 of frame 0. -/
def execResetNRelease (s : State) : Host.Outcome State Fault Refusal :=
  .next <|
    if s.resetAsserted then
      let s := { s with resetAsserted := false }
      if s.supplyValid then s.setMapUnit (MapUnit.afterReset true) else s
    else s

/-- SUPPLY_FAIL (R178, R161): the part takes nothing and holds every link DOWN until supply is valid again.
What the blocks hold meanwhile is not read: POWER_ON writes all of it. -/
def execSupplyFail (s : State) : Host.Outcome State Fault Refusal :=
  .next <|
    let down (l : LinkPort) : LinkPort := { l with link := .down }
    { s with
      supplyValid := false,
      links := ⟨down s.links.v0, down s.links.v1, down s.links.v2, down s.links.v3⟩ }

end Sys2Proof.Machine
end

