-- ==== Sys2Proof/WellFormed.lean ====
section
/-! DEFINITION. When a command is well formed: every number fits the field that carries it on its
interface (Tables 11-2 and 11-5), WRITE data and masks have the length their count gives (R109, R192),
and a malformed message is one that no encoding spells. -/

namespace Sys2Proof

/-- A one-byte number. -/
def fits8 (n : Nat) : Bool := decide (n < 256)
/-- A two-byte number. -/
def fits16 (n : Nat) : Bool := decide (n < 65536)

/-- The request's fields lie within their encoding (R192). -/
def ReqKind.inEncoding : ReqKind → Bool
  | .read _ hpn line count => fits16 hpn && fits16 line && fits8 count
  | .write _ hpn line count mask data =>
      fits16 hpn && fits16 line && fits8 count && decide (data.length = 64 * count) &&
        (match mask with
          | none => true
          | some m => decide (m.length = 64 * count))
  | .cswap _ hpn line granule cmp new =>
      fits16 hpn && fits16 line && decide (granule ≤ 7) && decide (cmp.length = 8) && decide (new.length = 8)
  | .fence => true
  | .flush => true
  | .detach => true

/-- The pool command's fields lie within their encoding (R192). -/
def PoolCmd.inEncoding : PoolCmd → Bool
  | .claim hpn count => fits16 hpn && fits8 count
  | .release hpn => fits16 hpn
  | .drop hpn => fits16 hpn
  | .grant hpn target _ => fits16 hpn && fits8 target
  | .accept gid hpn => fits16 gid && fits16 hpn
  | .decline gid => fits16 gid
  | .revoke hpn target => fits16 hpn && fits8 target

/-- A host message within its encoding (R192). -/
def HostMsg.inEncoding : HostMsg → Bool
  | .attach => true
  | .credit a b => fits8 a && fits8 b
  | .recallAck rid => fits16 rid
  | .resetPort => true
  | .request tag kind => fits8 tag && kind.inEncoding
  | .command tag cmd => fits8 tag && cmd.inEncoding

/-- The well-formed commands. -/
def Instr.wellFormed : Instr → Bool
  | .powerOn _ => true
  | .resetNAssert _ => true
  | .resetNRelease => true
  | .farEndDetected _ => true
  | .trainingCompletes _ => true
  | .trainingFails _ => true
  | .linkDown _ => true
  | .attach _ => true
  | .credit _ a b => (HostMsg.credit a b).inEncoding
  | .recallAck _ rid => (HostMsg.recallAck rid).inEncoding
  | .resetPort _ => true
  | .malformedMessage _ bytes => (parseHostMsg bytes).isNone
  | .read _ tag cls hpn line count => (HostMsg.request tag (.read cls hpn line count)).inEncoding
  | .write _ tag cls hpn line count mask data =>
      (HostMsg.request tag (.write cls hpn line count mask data)).inEncoding
  | .cswap _ tag cls hpn line granule cmp new =>
      (HostMsg.request tag (.cswap cls hpn line granule cmp new)).inEncoding
  | .fence _ tag => fits8 tag
  | .flush _ tag => fits8 tag
  | .detach _ tag => fits8 tag
  | .commandArrival _ tag cmd => (HostMsg.command tag cmd).inEncoding
  | .claim _ => true
  | .release _ => true
  | .drop _ => true
  | .grant _ => true
  | .accept _ => true
  | .decline _ => true
  | .revoke _ => true
  | .engineTakesTeardown _ => true
  | .teardownScan _ => true
  | .claimDeadline _ tag => fits8 tag
  | .offerDeadline gid => fits16 gid
  | .recallDeadline rid => fits16 rid
  | .recallCompletionReport rid => fits16 rid
  | .scrubEndReport => true
  | .correctableReport f l => decide (f < 32768) && decide (l < Config.linesPerFrame)
  | .uncorrectableReport f l => decide (f < 32768) && decide (l < Config.linesPerFrame)
  | .repairSearchStep => true
  | .mapAccessGrant => true
  | .mapClearWrite => true
  | .portAccessGrant _ _ => true
  | .scrubAccessGrant _ => true
  | .channelRead _ i _ => decide (i < Config.channelQueueSize)
  | .channelFullWrite _ i => decide (i < Config.channelQueueSize)
  | .channelPartialWrite _ i _ => decide (i < Config.channelQueueSize)
  | .channelCswap _ i _ => decide (i < Config.channelQueueSize)
  | .mapReadResult _ hpn => decide (hpn < Config.hpnCount)
  | .lineResult _ tag line => fits8 tag && decide (line < Config.linesPerFrame)
  | .scrubResult i => decide (i < Config.scrubOutstanding)
  | .completionSend _ => true
  | .noticeSend _ => true
  | .faultRecordAppend _ => true
  | .mgmtRequestTransaction bytes => decide (bytes.length ≠ 0) && decide (byteAt bytes 0 ≠ 0)
  | .resultTransaction n => decide (n ≠ 0)
  | .getPoolStatus => true
  | .getPortStatus => true
  | .queryFrame => true
  | .evict => true
  | .quarantine => true
  | .returnFrame => true
  | .setQuota id p q => fits8 id && fits8 p && fits16 q
  | .setWeight id p w => fits8 id && fits8 p && fits8 w
  | .setTimeout id k ms => fits8 id && fits8 k && fits16 ms
  | .setThreshold id n => fits8 id && fits8 n
  | .portReset => true
  | .portDisable => true
  | .portEnable => true
  | .logRead id => fits8 id
  | .chipReset id => fits8 id
  | .supplyFail => true

end Sys2Proof
end

