-- ==== Sys2Proof/Machine/Links.lean ====
section
/-! DEFINITION. The link events (R161, R163, R173), ATTACH, CREDIT, RECALL-ACK and RESET-PORT (R95, R164,
R168, R173), pool command arrival (R163, R166) and malformed messages (R192). -/

namespace Sys2Proof.Machine

/-- FAR_END_DETECTED (R161): DOWN to TRAINING, while the part is not held in reset. -/
def execFarEndDetected (p : PortId) (s : State) : Host.Outcome State Fault Refusal :=
  whenOperating s <|
    if (s.link p).link = .down then s.setLink p { s.link p with link := .training } else s

/-- TRAINING_COMPLETES (R161, R163): TRAINING to UP, and an OFFLINE port becomes IDLE. -/
def execTrainingCompletes (p : PortId) (s : State) : Host.Outcome State Fault Refusal :=
  whenOperating s <|
    let l := s.link p
    if l.link = .training then
      s.setLink p { l with link := .up, state := if l.state = .offline then .idle else l.state }
    else s

/-- TRAINING_FAILS (R161): TRAINING to DOWN. -/
def execTrainingFails (p : PortId) (s : State) : Host.Outcome State Fault Refusal :=
  whenOperating s <|
    if (s.link p).link = .training then s.setLink p { s.link p with link := .down } else s

/-- LINK_DOWN (R161, R163, R173): UP to DOWN. An IDLE port becomes OFFLINE and loses the credits granted to
it; an ATTACHED port hands a LINK_LOST fault record over and begins teardown. -/
def execLinkDown (p : PortId) (s : State) : Host.Outcome State Fault Refusal :=
  whenOperating s <|
    let l := { s.link p with link := .down }
    if (s.link p).link = .up then
      match l.state with
      | .idle => s.setLink p { l with state := .offline, completionCredits := 0, noticeCredits := 0 }
      | .attached => beginTeardown p .linkLost (handFault (.linkLost p l.session) (s.setLink p l))
      | .offline => s.setLink p l
      | .detaching => s.setLink p l
      | .disabled => s.setLink p l
    else s

/-- A message arrives only over an UP link (R161, R163), and not while the part is held (R158). -/
def onArrival (p : PortId) (s : State) (f : State) : Host.Outcome State Fault Refusal :=
  whenOperating s (if (s.link p).link = .up then f else s)

/-- An ATTACH taken by an IDLE port in RUN opens a session and is answered OK (R164). -/
def openSession (p : PortId) (s : State) : State :=
  let l := s.link p
  let session := (l.session + 1) % 256
  let s := s.setLink p { l with
    state := .attached, session := session, requestCredits := Config.requestQueueSize, requestReturns := 0,
    commandCredits := Config.commandQueueSize, commandReturns := 0, tags := [], commands := [], outbound := [],
    notices := [] }
  send p (.attachAck p session s.frames (s.mgmt.settings.quota.get p)) s

/-- An ATTACH is taken (R163, R164, R166). -/
def takeAttach (p : PortId) (s : State) : State :=
  match (s.link p).state with
  | .idle =>
    (match s.device with
      | .run => openSession p s
      | .starting => send p (.attachRefused p .starting) s)
  | .attached => violation p .attachInSession s
  | .detaching => send p (.attachRefused p .busy) s
  | .disabled => send p (.attachRefused p .disabled) s
  | .offline => s

/-- ATTACH (R164). -/
def execAttach (p : PortId) (s : State) : Host.Outcome State Fault Refusal := onArrival p s (takeAttach p s)

/-- A message out of its encoding: a BAD_ENCODING violation in ATTACHED, discarded otherwise (R192). -/
def takeMalformed (p : PortId) (s : State) : State :=
  if (s.link p).state = .attached then violation p .badEncoding s else s

/-- A CREDIT is taken (R163, R166, R168, R192): out of its encoding it is a malformed message; in IDLE one that would
overflow is discarded whole, in ATTACHED it is a CREDIT_OVERFLOW violation. -/
def takeCredit (p : PortId) (completions notices : Nat) (encoded : Bool) (s : State) : State :=
  let l := s.link p
  let tooMany := decide (Config.maxHostCredits < l.completionCredits + completions) ||
    decide (Config.maxHostCredits < l.noticeCredits + notices)
  let added := s.setLink p { l with
    completionCredits := l.completionCredits + completions, noticeCredits := l.noticeCredits + notices }
  if !encoded then takeMalformed p s
  else
    match l.state with
    | .idle => if tooMany then s else added
    | .attached => if tooMany then violation p .creditOverflow s else added
    | .offline => s
    | .detaching => s
    | .disabled => s

/-- CREDIT (R168). -/
def execCredit (p : PortId) (completions notices : Nat) (s : State) : Host.Outcome State Fault Refusal :=
  onArrival p s (takeCredit p completions notices (HostMsg.credit completions notices).inEncoding s)

/-- The NOTIFIED record of `p` with this id (R95). -/
def State.notifiedRecord (s : State) (p : PortId) (rid : Nat) : Option RecallRecord :=
  s.recalls.table.find? fun r => r.recallId == rid && r.port == p && decide (r.phase = .notified)

/-- A RECALL-ACK is taken: of an ATTACHED port, naming a NOTIFIED record of it, it cancels the deadline,
removes an unsent notice and moves the record to UNMAPPING; any other is discarded (R95, R96, R163). Out of its
encoding it is a malformed message (R192). -/
def takeRecallAck (p : PortId) (rid : Nat) (encoded : Bool) (s : State) : State :=
  if !encoded then takeMalformed p s
  else if (s.link p).state = .attached then
    match s.notifiedRecord p rid with
    | some r => startUnmap r (removeNoticeAndFill p (Notice.isRecall rid) s)
    | none => s
  else s

/-- RECALL_ACK (R95). -/
def execRecallAck (p : PortId) (rid : Nat) (s : State) : Host.Outcome State Fault Refusal :=
  onArrival p s (takeRecallAck p rid (HostMsg.recallAck rid).inEncoding s)

/-- A RESET-PORT is taken: it begins teardown of an ATTACHED port and is discarded otherwise (R163, R173). -/
def takeResetPort (p : PortId) (s : State) : State :=
  if (s.link p).state = .attached then beginTeardown p .resetPort s else s

/-- RESET_PORT (R173). -/
def execResetPort (p : PortId) (s : State) : Host.Outcome State Fault Refusal := onArrival p s (takeResetPort p s)

/-- A pool command is taken by the checks of R166: BAD_ENCODING, NO_CREDIT, TAG_IN_USE, in that order; one that
passes uses a command credit and joins the Command Queue's tail with its tag outstanding (R163, R165). -/
def takePoolCommand (p : PortId) (tag : Nat) (cmd : PoolCmd) (encoded : Bool) (s : State) : State :=
  let l := s.link p
  if l.state = .attached then
    if !encoded then violation p .badEncoding s
    else if l.commandCredits = 0 then violation p .noCredit s
    else if l.tags.contains tag then violation p .tagInUse s
    else s.setLink p { l with
      commandCredits := l.commandCredits - 1, tags := l.tags ++ [tag], commands := l.commands ++ [(tag, cmd)] }
  else s

end Sys2Proof.Machine
end

