-- ==== Sys2Proof/Machine/Requests.lean ====
section
/-! DEFINITION. The arrival of memory requests (R108 to R120), of pool commands and of raw messages, and the
grants and line results of a Request Unit (R112 to R121, R128). -/

namespace Sys2Proof.Machine

/-- The Request Unit takes a new entry (R110): one that fails the bounds check is DONE BOUNDS, a READ, WRITE or
CSWAP that passes is translated (R43), a FENCE, FLUSH or DETACH waits for its condition, which is checked
at once (R118, R119, R120). -/
def acceptRequest (p : PortId) (tag : Nat) (kind : ReqKind) (s : State) : State :=
  let before := s.queue p
  let s1 := s.setQueue p (before ++ [{ tag := tag, kind := kind, state := .waiting }])
  let s2 :=
    if outOfBounds kind then setEntryState p tag (.done .bounds Gathered.nothing) s1
    else translate p tag s1
  settlePort p before s2

/-- A memory request is taken by the checks of R166: BAD_ENCODING, NO_CREDIT, TAG_IN_USE, in that order; one
that passes uses a request credit and joins the Request Queue's tail with its tag outstanding (R163). -/
def takeRequest (p : PortId) (tag : Nat) (kind : ReqKind) (encoded : Bool) (s : State) : State :=
  let l := s.link p
  if l.state = .attached then
    if !encoded then violation p .badEncoding s
    else if l.requestCredits = 0 then violation p .noCredit s
    else if l.tags.contains tag then violation p .tagInUse s
    else
      acceptRequest p tag kind
        (s.setLink p { l with requestCredits := l.requestCredits - 1, tags := l.tags ++ [tag] })
  else s

/-- The fields of a message carrying this request lie within their encoding (R192). -/
def requestEncoded (tag : Nat) (kind : ReqKind) : Bool := (HostMsg.request tag kind).inEncoding

/-- READ (R110). -/
def execRead (p : PortId) (tag : Nat) (cls : ReqClass) (hpn line count : Nat) (s : State) :
    Host.Outcome State Fault Refusal :=
  onArrival p s (takeRequest p tag (.read cls hpn line count) (requestEncoded tag (.read cls hpn line count)) s)

/-- WRITE (R110). -/
def execWrite (p : PortId) (tag : Nat) (cls : ReqClass) (hpn line count : Nat) (mask : Option (List Bool))
    (data : List Byte) (s : State) : Host.Outcome State Fault Refusal :=
  onArrival p s (takeRequest p tag (.write cls hpn line count mask data)
    (requestEncoded tag (.write cls hpn line count mask data)) s)

/-- CSWAP (R114). -/
def execCswap (p : PortId) (tag : Nat) (cls : ReqClass) (hpn line granule : Nat) (cmp new : List Byte) (s : State) :
    Host.Outcome State Fault Refusal :=
  onArrival p s (takeRequest p tag (.cswap cls hpn line granule cmp new)
    (requestEncoded tag (.cswap cls hpn line granule cmp new)) s)

/-- FENCE (R118). -/
def execFence (p : PortId) (tag : Nat) (s : State) : Host.Outcome State Fault Refusal :=
  onArrival p s (takeRequest p tag .fence (requestEncoded tag .fence) s)

/-- FLUSH (R119). -/
def execFlush (p : PortId) (tag : Nat) (s : State) : Host.Outcome State Fault Refusal :=
  onArrival p s (takeRequest p tag .flush (requestEncoded tag .flush) s)

/-- DETACH (R120). -/
def execDetach (p : PortId) (tag : Nat) (s : State) : Host.Outcome State Fault Refusal :=
  onArrival p s (takeRequest p tag .detach (requestEncoded tag .detach) s)

/-- COMMAND_ARRIVAL (R163). -/
def execCommandArrival (p : PortId) (tag : Nat) (cmd : PoolCmd) (s : State) : Host.Outcome State Fault Refusal :=
  onArrival p s (takePoolCommand p tag cmd (HostMsg.command tag cmd).inEncoding s)

/-- A message within its encoding is taken by its kind (R163). -/
def takeMessage (p : PortId) (m : HostMsg) (s : State) : State :=
  match m with
  | .attach => takeAttach p s
  | .credit a b => takeCredit p a b true s
  | .recallAck rid => takeRecallAck p rid true s
  | .resetPort => takeResetPort p s
  | .request tag kind => takeRequest p tag kind true s
  | .command tag cmd => takePoolCommand p tag cmd true s

/-- MALFORMED_MESSAGE (R192): a message arrives as bytes. Out of its encoding it is a BAD_ENCODING violation in
ATTACHED and is discarded otherwise; bytes that do spell a message (an ill-formed use of this command) are
that message. -/
def execMalformedMessage (p : PortId) (bytes : List Byte) (s : State) : Host.Outcome State Fault Refusal :=
  onArrival p s <|
    match parseHostMsg bytes with
    | none => takeMalformed p s
    | some m => takeMessage p m s

/-! ### Grants and results -/

/-- An entry's state after one more of its lines is granted (R112). -/
def grantedState (e : ReqEntry) : ReqState :=
  match e.state with
  | .bound f =>
    .issued f 1 0 { failed := [], lines := match e.kind with
      | .read _ _ _ count => List.replicate count zeroLine
      | .write _ _ _ _ _ _ => []
      | .cswap _ _ _ _ _ _ => []
      | .fence => []
      | .flush => []
      | .detach => [], swap := none }
  | .issued f g r got => .issued f (g + 1) r got
  | .waiting => .waiting
  | .walking => .walking
  | .done st got => .done st got

/-- The Request Unit of `p` sends the next line of its chosen entry, which is or becomes ISSUED (R112,
R121). -/
def sendLine (c : ChannelId) (p : PortId) (round : Round) (s : State) : State :=
  match chosenEntry s c p with
  | none => s
  | some e =>
    match e.nextAccess, placeOf e.kind with
    | some (f, l), some pl =>
      setEntryState p e.tag (grantedState e)
        (enqueue c round { owner := .port p e.tag, frame := f, line := l, kind := lineAccess e.kind (l - pl.line) } s)
    | _, _ => s

/-- PORT_ACCESS_GRANT (R121): the arbiter of `c` grants port `p`. -/
def execPortAccessGrant (c : ChannelId) (p : PortId) (s : State) : Host.Outcome State Fault Refusal :=
  whenOperating s <|
    match s.granted c (.port p) with
    | some round => sendLine c p round s
    | none => s

/-- A line number joins the failed lines, which stay ascending (R109, R113). -/
def insertAscending (n : Nat) : List Nat → List Nat
  | [] => [n]
  | m :: t => if n < m then n :: m :: t else if n = m then m :: t else m :: insertAscending n t

/-- What a line's outcome adds to an entry (R113, R114): the line's 64 bytes at the line's offset, zero bytes
and a failed line on an uncorrectable read, a failed line for a partial write that was not done. -/
def gather (first line : Nat) (o : AccessOutcome) (got : Gathered) : Gathered :=
  match o with
  | .clean bytes => { got with lines := got.lines.set (line - first) bytes }
  | .corrected bytes => { got with lines := got.lines.set (line - first) bytes }
  | .written => got
  | .swap old sw => { got with swap := some (old, sw) }
  | .uncorrectable =>
    { got with lines := got.lines.set (line - first) zeroLine, failed := insertAscending line got.failed }

/-- "Its status is POISONED if the failed lines list is not empty, and OK otherwise" (R113). -/
def finalStatus (got : Gathered) : Status := if got.failed.isEmpty then .ok else .poisoned

/-- The entry leaves ISSUED at its last result (R102, R113, R128): it becomes DONE, or is discarded while its
port is DETACHING. The Recall Unit is told. -/
def leaveIssued (p : PortId) (tag frame : Nat) (got : Gathered) (s : State) : State :=
  if (s.link p).state = .detaching then
    queueTeardownReport p (drainReport p frame (s.setQueue p ((s.queue p).filter fun e => !(e.tag == tag))))
  else
    drainReport p frame (settlePort p (s.queue p) (setEntryState p tag (.done (finalStatus got) got) s))

/-- The Request Unit takes the result of one line of an ISSUED entry (R113, R114). -/
def takeLineResult (p : PortId) (r : LineResult) (s : State) : State :=
  match s.entry p r.tag with
  | none => s
  | some e =>
    match e.state, placeOf e.kind with
    | .issued f g n got, some pl =>
      let got := gather pl.line r.line r.outcome got
      if n + 1 < pl.count then setEntryState p r.tag (.issued f g (n + 1) got) s
      else leaveIssued p r.tag f got s
    | _, _ => s

/-- The result of `line` of the request `tag` that `p` may take next: "Results of accesses to one line are handed back
in the order of entry" (R134), so none while an earlier result of the same frame and line has not been taken. -/
def State.nextLineResult (s : State) (p : PortId) (tag line : Nat) : Option LineResult :=
  match (s.flight.lineResults.get p).find? fun r => r.tag == tag && r.line == line with
  | none => none
  | some r =>
    match (s.flight.lineResults.get p).find? fun r' => r'.frame == r.frame && r'.line == line with
    | some r' => if r'.tag = tag then some r else none
    | none => none

/-- LINE_RESULT (R113): the Request Unit of `p` takes the result of `line` of its request `tag`. A result that R134
puts behind another is not there to be taken, and the command changes nothing (assumption log, 3). -/
def execLineResult (p : PortId) (tag line : Nat) (s : State) : Host.Outcome State Fault Refusal :=
  whenOperating s <|
    match s.nextLineResult p tag line with
    | none => s
    | some r =>
      takeLineResult p r (s.setFlight { s.flight with
        lineResults := s.flight.lineResults.set p
          ((s.flight.lineResults.get p).filter fun r' => !(r'.tag == tag && r'.line == line)) })

end Sys2Proof.Machine
end

