-- ==== Sys2Proof/Machine/Commands.lean ====
section
/-! DEFINITION. The pool commands as the Allocation Engine examines them: CLAIM, RELEASE, DROP, GRANT, ACCEPT,
DECLINE and REVOKE (Chapters 3 and 4). -/

namespace Sys2Proof.Machine

/-- The engine serves port `p` (R48): the pointer moves to it, the head command is examined, and credits freed
by taking it are returned (R167). -/
def serveCommand (p : PortId) (examined : State → State) (s : State) : State :=
  returnCredits p (examined (movePointer (sourceOf p) s))

/-- The checks that RELEASE, DROP, GRANT and REVOKE begin with: BOUNDS, NOT_MAPPED, LEAVING, in that order (R64,
R68, R73, R82); one that passes finds the sender's ACTIVE item with its frame. -/
def checkItem (p : PortId) (hpn : Nat) (s : State) : Except Status (Nat × MapItem) :=
  if Config.hpnCount ≤ hpn then .error .bounds
  else
    match s.itemAt p hpn with
    | none => .error .notMapped
    | some fi => if fi.2.phase = .leaving then .error .leaving else .ok fi

/-! ### CLAIM -/

/-- The first check of R55 that fails. -/
def claimRefusal (p : PortId) (hpn n : Nat) (s : State) : Option Status :=
  if n = 0 ∨ Config.maxClaim < n ∨ Config.hpnCount < hpn + n then some .bounds
  else if (List.range n).any fun k => s.occupied p (hpn + k) then some .conflict
  else if s.mgmt.settings.quota.get p < s.engine.held.get p + s.parked p + n then some .quota
  else none

/-- The claim parks at the Claim Queue tail (R58). -/
def parkClaim (p : PortId) (tag hpn n : Nat) (s : State) : State :=
  s.setEngine { s.engine with
    claims := s.engine.claims ++
      [{ port := p, tag := tag, hpn := hpn, count := n, deadline := s.now + s.mgmt.settings.claimMs }] }

/-- A CLAIM is examined: refused by R55, else granted, refused or parked by R56. -/
def examineClaim (p : PortId) (tag hpn n : Nat) (s : State) : State :=
  match claimRefusal p hpn n s with
  | some st => refuseCommand p tag st s
  | none =>
    if s.engine.claims.isEmpty ∧ n ≤ s.engine.freeList.length then grantClaim p tag hpn n (takeCommand p s)
    else if s.mgmt.settings.claimMs = 0 then refuseCommand p tag .noFrames s
    else if Config.claimQueueSize ≤ s.engine.claims.length then refuseCommand p tag .busy s
    else parkClaim p tag hpn n (takeCommand p s)

/-- CLAIM (R56). -/
def execClaim (p : PortId) (s : State) : Host.Outcome State Fault Refusal :=
  whenOperating s <|
    match s.servedCommand p with
    | some (tag, .claim hpn n) => serveCommand p (examineClaim p tag hpn n) s
    | _ => s

/-! ### RELEASE and DROP -/

/-- The records of an accepted RELEASE: reason RELEASE, with notify for the readers (R65, R90). -/
def releaseReason (i : MapItem) : RecallReason × Bool := (.release, decide (i.role = .reader))

/-- A RELEASE is examined (R64, R65): refused, deferred for want of 1 + r records (R51), or accepted. -/
def examineRelease (p : PortId) (tag hpn : Nat) (s : State) : State :=
  match checkItem p hpn s with
  | .error st => refuseCommand p tag st s
  | .ok (f, i) =>
    if i.role = .reader then refuseCommand p tag .role s
    else if s.freeRecords < 1 + (s.record f).activeReaders.length then deferCommand p s
    else enterRecalling f (.release tag) false releaseReason (takeCommand p s)

/-- RELEASE (R64). -/
def execRelease (p : PortId) (s : State) : Host.Outcome State Fault Refusal :=
  whenOperating s <|
    match s.servedCommand p with
    | some (tag, .release hpn) => serveCommand p (examineRelease p tag hpn) s
    | _ => s

/-- The item of `q` in frame `f` turns LEAVING with one record (R5, R69, R83). -/
def recallItem (f : Nat) (i : MapItem) (reason : RecallReason) (notify : Bool) (origin : Option (PortId × Nat))
    (s : State) : State :=
  createRecall f i reason notify origin (s.setRecord f ((s.record f).turnLeaving i.port))

/-- A DROP is examined (R68, R69). -/
def examineDrop (p : PortId) (tag hpn : Nat) (s : State) : State :=
  match checkItem p hpn s with
  | .error st => refuseCommand p tag st s
  | .ok (f, i) =>
    if i.role = .holder then refuseCommand p tag .role s
    else if s.freeRecords < 1 then deferCommand p s
    else recallItem f i .drop false (some (p, tag)) (takeCommand p s)

/-- DROP (R68). -/
def execDrop (p : PortId) (s : State) : Host.Outcome State Fault Refusal :=
  whenOperating s <|
    match s.servedCommand p with
    | some (tag, .drop hpn) => serveCommand p (examineDrop p tag hpn) s
    | _ => s

/-! ### GRANT, ACCEPT and DECLINE -/

/-- The port a target number names: 0 to 3, and not the sender's own (R73, R82). -/
def targetPort (p : PortId) (target : Nat) : Option PortId :=
  if h : target < 4 then (if (⟨target, h⟩ : PortId) = p then none else some ⟨target, h⟩) else none

/-- An offer of frame `f` to port `t` stands in the table. -/
def State.offerOn (s : State) (f : Nat) (t : PortId) : Option Offer :=
  s.engine.offers.find? fun o => o.frame == f && o.toPort == t

/-- The offer is created with the counter's value as its grant id, and its OFFER notice appended to the
target's Notice Queue (R72, R74). -/
def makeOffer (p : PortId) (tag hpn f : Nat) (t : PortId) (a : Access) (s : State) : State :=
  let gid := s.engine.grantCounter
  let o : Offer :=
    { grantId := gid, frame := f, fromPort := p, tag := tag, fromHpn := hpn, toPort := t, access := a,
      deadline := s.now + s.mgmt.settings.offerMs, sent := false }
  let offers := s.engine.offers ++ [o]
  appendNotice t (.offer gid p hpn a) (s.setEngine { s.engine with
    offers := offers, grantCounter := nextGrantId offers gid })

/-- A GRANT is examined by checks 1 to 8 of R73, and accepted by R74. -/
def examineGrant (p : PortId) (tag hpn target : Nat) (a : Access) (s : State) : State :=
  match checkItem p hpn s with
  | .error st => refuseCommand p tag st s
  | .ok (f, i) =>
    if i.role = .reader then refuseCommand p tag .role s
    else
      match targetPort p target with
      | none => refuseCommand p tag .badPort s
      | some t =>
        if (s.link t).state ≠ .attached then refuseCommand p tag .targetGone s
        else if ((s.record f).itemOf t).isSome ∨ (s.offerOn f t).isSome then refuseCommand p tag .duplicate s
        else if Config.offerTableSize ≤ s.engine.offers.length ∨
            Config.noticeQueueSize ≤ (s.link t).notices.length then refuseCommand p tag .busy s
        else makeOffer p tag hpn f t a (takeCommand p s)

/-- GRANT (R73). -/
def execGrant (p : PortId) (s : State) : Host.Outcome State Fault Refusal :=
  whenOperating s <|
    match s.servedCommand p with
    | some (tag, .grant hpn target a) => serveCommand p (examineGrant p tag hpn target a) s
    | _ => s

/-- An item joins a mapping list, which stays in ascending port order (R4). -/
def insertItem (i : MapItem) : List MapItem → List MapItem
  | [] => [i]
  | j :: t => if i.port < j.port then i :: j :: t else j :: insertItem i t

/-- A READER item is added to the frame, which becomes SHARED (R8). -/
def FrameRecord.addReader (r : FrameRecord) (i : MapItem) : FrameRecord :=
  { r with items := insertItem i r.items, state := if r.state = .held then .shared else r.state }

/-- The offer leaves the table without an answer to its GRANT yet, and its OFFER notice leaves the target's
queue if it is still there (R75, R77). -/
def takeUpOffer (o : Offer) (s : State) : State :=
  removeNoticeAndFill o.toPort (Notice.isOffer o.grantId)
    (s.setEngine { s.engine with offers := s.engine.offers.filter fun o' => !(o'.grantId == o.grantId) })

/-- An ACCEPT is examined by the checks of R76, and accepted by R77. -/
def examineAccept (p : PortId) (tag gid hpn : Nat) (s : State) : State :=
  match s.offerTo p gid with
  | none => refuseCommand p tag .staleGrant s
  | some o =>
    if Config.hpnCount ≤ hpn then refuseCommand p tag .bounds s
    else if s.occupied p hpn then refuseCommand p tag .conflict s
    else
      let s := takeCommand p s
      let s := s.setRecord o.frame ((s.record o.frame).addReader
        { port := p, hpn := hpn, access := o.access, role := .reader, phase := .active })
      askWrite { port := p, hpn := hpn, value := .valid o.frame o.access,
                 producer := .accept p tag o.fromPort o.tag o.grantId } (takeUpOffer o s)

/-- ACCEPT (R76). -/
def execAccept (p : PortId) (s : State) : Host.Outcome State Fault Refusal :=
  whenOperating s <|
    match s.servedCommand p with
    | some (tag, .accept gid hpn) => serveCommand p (examineAccept p tag gid hpn) s
    | _ => s

/-- A DECLINE is examined (R78): the offer leaves, the GRANT completes DECLINED and the DECLINE OK. -/
def examineDecline (p : PortId) (tag gid : Nat) (s : State) : State :=
  match s.offerTo p gid with
  | none => refuseCommand p tag .staleGrant s
  | some o =>
    let s := takeUpOffer o (takeCommand p s)
    handOver p (commandCompletion tag .ok) (handOver o.fromPort (grantCompletion o.tag .declined o.grantId) s)

/-- DECLINE (R78). -/
def execDecline (p : PortId) (s : State) : Host.Outcome State Fault Refusal :=
  whenOperating s <|
    match s.servedCommand p with
    | some (tag, .decline gid) => serveCommand p (examineDecline p tag gid) s
    | _ => s

/-! ### REVOKE -/

/-- Checks 6 to 9 of R82, the target being port `t` and the frame `f` (R83, R84). -/
def revokeFrom (p : PortId) (tag f : Nat) (t : PortId) (s : State) : State :=
  match (s.record f).itemOf t with
  | some i =>
    if i.phase = .leaving then refuseCommand p tag .leaving s
    else if s.freeRecords < 1 then deferCommand p s
    else recallItem f i .revoke true (some (p, tag)) (takeCommand p s)
  | none =>
    match s.offerOn f t with
    | some o => handOver p (commandCompletion tag .ok) (withdrawOffer true o (takeCommand p s))
    | none => refuseCommand p tag .notMapped s

/-- A REVOKE is examined (R82). -/
def examineRevoke (p : PortId) (tag hpn target : Nat) (s : State) : State :=
  match checkItem p hpn s with
  | .error st => refuseCommand p tag st s
  | .ok (f, i) =>
    if i.role = .reader then refuseCommand p tag .role s
    else
      match targetPort p target with
      | none => refuseCommand p tag .badPort s
      | some t => revokeFrom p tag f t s

/-- REVOKE (R82). -/
def execRevoke (p : PortId) (s : State) : Host.Outcome State Fault Refusal :=
  whenOperating s <|
    match s.servedCommand p with
    | some (tag, .revoke hpn target) => serveCommand p (examineRevoke p tag hpn target) s
    | _ => s

end Sys2Proof.Machine
end

