-- ==== Sys2Proof/Machine/EngineEvents.lean ====
section
/-! DEFINITION. The events the Allocation Engine and the Recall Unit take besides pool commands: teardown and
its scan (R52, R63, R86), deadlines (R61, R79, R97), completions of recall records (R104) and ECC reports
(R18, R19). -/

namespace Sys2Proof.Machine

/-- An event of the Allocation Engine: it is taken only while the engine is ready (R28, R49). -/
def onEngine (s : State) (f : State) : Host.Outcome State Fault Refusal :=
  whenOperating s (if s.engineReady then f else s)

/-! ### Teardown -/

/-- One offer that names the port `p` being torn down is dealt with (R86): one from `p` is withdrawn, one to `p`
completes TARGET_GONE for its holder and no notice goes to `p`. -/
def teardownOffer (p : PortId) (fill : Bool) (s : State) (o : Offer) : State :=
  if o.fromPort = p then withdrawOffer fill o s else resolveOffer o .targetGone s

/-- Notice Queue places that freed are filled from the pending lists, as far as they go (R93). -/
def fillAllPending (s : State) : State :=
  ports.foldl (fun s p => fillPendingTimes p (s.recalls.pendingLists.get p).length s) s

/-- The engine takes the teardown of `p`: its parked claims are removed (R63), every offer that names it is
dealt with in the order of the table (R86), and its scan stands at frame 1 (R52). Whether the Recall Unit
reaches a Notice Queue place that frees before the engine appends a WITHDRAWN notice is a free value (R93). -/
def takeTeardown (p : PortId) (s : State) : State :=
  let fill := Config.recallUnitFirst s.freeCount
  let s := removeClaims (fun c => c.port == p) s.useFree
  let named := s.engine.offers.filter fun o => o.fromPort == p || o.toPort == p
  let s := fillAllPending (named.foldl (teardownOffer p fill) s)
  s.setEngine { s.engine with teardown := s.engine.teardown.set p (.scanning 1 false) }

/-- ENGINE_TAKES_TEARDOWN (R63). -/
def execEngineTakesTeardown (p : PortId) (s : State) : Host.Outcome State Fault Refusal :=
  onEngine s (if s.engine.teardown.get p = .handed then takeTeardown p s else s)

/-- The scan of `p` stands at frame `n`, or has finished when that is past frame F - 1. -/
def setScan (p : PortId) (t : ScanState) (s : State) : State :=
  s.setEngine { s.engine with teardown := s.engine.teardown.set p t }

/-- The scan moves past frame `f`; past F - 1 it finishes and the engine's report may follow (R52). -/
def scanPast (p : PortId) (f : Nat) (s : State) : State :=
  if f + 1 < s.frames then setScan p (.scanning (f + 1) false) s
  else engineTeardownReport p (setScan p .finished s)

/-- The records of a frame that its holder's teardown scan reaches (R10, R90): PORT_GONE without notify for
the HOLDER item, HOLDER_GONE with notify for the readers. -/
def teardownReason (i : MapItem) : RecallReason × Bool :=
  match i.role with
  | .holder => (.portGone, false)
  | .reader => (.holderGone, true)

/-- The scan of `p` at frame `f`, where `p` has the ACTIVE item `i` (R52). -/
def scanFrame (p : PortId) (f : Nat) (i : MapItem) (s : State) : State :=
  let need := match i.role with
    | .reader => 1
    | .holder => 1 + (s.record f).activeReaders.length
  if s.freeRecords < need then setScan p (.scanning f true) s
  else
    scanPast p f <|
      match i.role with
      | .reader => recallItem f i .portGone false none s
      | .holder => enterRecalling f .teardown false teardownReason s

/-- One turn of the teardown scan of `p` from frame `n` (R52): it goes on to the first frame where `p` has an
ACTIVE item, or past frame F - 1. -/
def scanTurn (p : PortId) (n : Nat) (s : State) : State :=
  let found := (List.range' n (s.frames - n)).findSome? fun f =>
    ((s.record f).activeItems.find? fun i => i.port == p).map fun i => (f, i)
  match found with
  | some (f, i) => scanFrame p f i s
  | none => engineTeardownReport p (setScan p .finished s)

/-- TEARDOWN_SCAN (R52): a turn of the scan of `p`, in `p`'s place of the rotation (R48). -/
def execTeardownScan (p : PortId) (s : State) : Host.Outcome State Fault Refusal :=
  whenOperating s <|
    if s.serves p ∧ (s.link p).state = .detaching then
      match s.engine.teardown.get p with
      | .scanning n _ => scanTurn p n (movePointer (sourceOf p) s)
      | .idle => s
      | .handed => s
      | .finished => s
    else s

/-! ### Deadlines -/

/-- CLAIM_DEADLINE (R61): the deadline of the parked claim of `p` with this tag has come. The claim leaves the
queue, completes EXPIRED, and a new head is examined. -/
def execClaimDeadline (p : PortId) (tag : Nat) (s : State) : Host.Outcome State Fault Refusal :=
  onEngine s <|
    match s.engine.claims.find? fun c => c.port == p && c.tag == tag with
    | some c =>
      if c.deadline ≤ s.now then
        removeClaims (fun c => c.port == p && c.tag == tag) (handOver p (commandCompletion tag .expired) s)
      else s
    | none => s

/-- OFFER_DEADLINE (R79): the deadline of the offer has come. -/
def execOfferDeadline (gid : Nat) (s : State) : Host.Outcome State Fault Refusal :=
  onEngine s <|
    match s.engine.offers.find? fun o => o.grantId == gid with
    | some o => if o.deadline ≤ s.now then informTarget true o .expiry (resolveOffer o .expired s) else s
    | none => s

/-- A record is forced (R97): it leaves its pending list or its unsent notice is removed, a FORCED_RECALL
record is handed over (R99), and it enters UNMAPPING. -/
def forceRecall (r : RecallRecord) (s : State) : State :=
  let s :=
    if r.phase = .notifyPending then leavePending r s
    else removeNoticeAndFill r.port (Notice.isRecall r.recallId) s
  startUnmap r (handFault (.forcedRecall r.port r.frame r.hpn (r.noticeSent == some true) r.reason) s)

/-- RECALL_DEADLINE (R97): the deadline of a record in NOTIFIED or NOTIFY_PENDING has come. -/
def execRecallDeadline (rid : Nat) (s : State) : Host.Outcome State Fault Refusal :=
  whenOperating s <|
    match s.recordById rid with
    | some r =>
      (match r.deadline with
        | some d =>
          if d ≤ s.now ∧ (r.phase = .notifyPending ∨ r.phase = .notified) then forceRecall r s else s
        | none => s)
    | none => s

/-! ### Completion of recall records -/

/-- A READER item of frame `f` is removed (R9): a SHARED frame without further READER items becomes HELD; in
RECALLING the Recall Unit is told whether only the HOLDER item remains (R103). -/
def removeReader (f : Nat) (p : PortId) (s : State) : State :=
  let r := s.record f
  let r' := { r with items := r.items.filter fun i => !(i.port == p) }
  let r' := if r'.state = .shared ∧ !r'.hasReader then { r' with state := .held } else r'
  let s := s.setRecord f r'
  if r'.state = .recalling then holderMayComplete f s else s

/-- The engine takes the completion report of a record (R104). -/
def takeCompletion (r : RecallRecord) (s : State) : State :=
  let s := s.setRecalls { s.recalls with
    table := s.recalls.table.filter fun r' => !(r'.recallId == r.recallId),
    reported := s.recalls.reported.filter fun n => !(n == r.recallId) }
  let s :=
    match r.role with
    | .holder => exitRecalling r.frame s
    | .reader => removeReader r.frame r.port s
  let s :=
    match r.origin with
    | some (p, tag) => handOver p (commandCompletion tag .ok) s
    | none => s
  engineTeardownReport r.port (recallTeardownReport r.port (clearWaiting s))

/-- RECALL_COMPLETION_REPORT (R104). -/
def execRecallCompletionReport (rid : Nat) (s : State) : Host.Outcome State Fault Refusal :=
  onEngine s <|
    if s.recalls.reported.contains rid then
      match s.recordById rid with
      | some r => takeCompletion r s
      | none => s
    else s

/-! ### ECC reports -/

/-- A correctable error of frame `f` is counted, saturating at 255, and marks the frame damaged when the count
reaches the threshold (R18). -/
def countCorrectable (f : Nat) (s : State) : State :=
  let r := s.record f
  let count := min 255 (r.count + 1)
  let s := s.setRecord f { r with count := count }
  if s.mgmt.settings.threshold ≤ count ∧ r.damaged = false then
    markDamaged f (handFault (.damaged f count) s)
  else s

/-- CORRECTABLE_REPORT (R18): the engine takes a correctable-error report. -/
def execCorrectableReport (f line : Nat) (s : State) : Host.Outcome State Fault Refusal :=
  onEngine s <|
    if s.flight.correctable.contains (f, line) then
      countCorrectable f (s.setFlight { s.flight with correctable := s.flight.correctable.erase (f, line) })
    else s

/-- UNCORRECTABLE_REPORT (R19): the engine takes an uncorrectable-error report. -/
def execUncorrectableReport (f line : Nat) (s : State) : Host.Outcome State Fault Refusal :=
  onEngine s <|
    if s.flight.uncorrectable.contains (f, line) then
      let s := s.setFlight { s.flight with uncorrectable := s.flight.uncorrectable.erase (f, line) }
      if (s.record f).damaged then s else markDamaged f s
    else s

end Sys2Proof.Machine
end

