-- ==== Sys2Proof/Machine/ScrubEngine.lean ====
section
/-! DEFINITION. The Scrub Engine: SCRUB_ACCESS_GRANT, SCRUB_RESULT and SCRUB_END_REPORT (R150 to R155). -/

namespace Sys2Proof.Machine

/-- One access of the current scrub is sent: a ZERO write or a VERIFY read of the next line (R151, R152). The
grant of the last ZERO write begins VERIFY. -/
def sendScrub (c : ChannelId) (round : Round) (f : Nat) (s : State) : State :=
  let x := s.scrub
  let verify := decide (x.phase = .verify)
  let s := enqueue c round
    { owner := .scrub x.number verify, frame := f, line := x.nextLine,
      kind := if verify then .read else .fullWrite zeroLine } s
  let x := { x with nextLine := x.nextLine + 1, outstanding := x.outstanding + 1 }
  s.setScrub (if x.phase = .zero ∧ x.nextLine = Config.linesPerFrame then
    { x with phase := .verify, nextLine := 0, verified := 0 } else x)

/-- SCRUB_ACCESS_GRANT (R151, R152): the arbiter of `c` grants the Scrub Engine. -/
def execScrubAccessGrant (c : ChannelId) (s : State) : Host.Outcome State Fault Refusal :=
  whenOperating s <|
    match s.granted c .scrub, s.scrub.current with
    | some round, some f => sendScrub c round f s
    | some _, none => s
    | none, _ => s

/-- The Scrub Engine takes a result (R151, R152, R155): outstanding falls; a VERIFY read of the current scrub
counts, an uncorrectable one is noted, and the 32,768th ends the scrub, handing the scrub-end report over
(R154). Of an aborted scrub the result is discarded. -/
def takeScrubResult (r : ScrubResult) (x : Scrub) : Scrub :=
  let x := { x with outstanding := x.outstanding - 1 }
  if r.number = x.number ∧ x.phase = .verify ∧ r.verify then
    { x with
      verified := x.verified + 1,
      uncorrectableSeen := x.uncorrectableSeen || r.uncorrectable,
      ended := decide (x.verified + 1 = Config.linesPerFrame) }
  else x

/-- The `i`-th result handed to the Scrub Engine, when it may be taken next: "Results of accesses to one line are
handed back in the order of entry" (R134), so none while an earlier result of the same frame and line has not been
taken. -/
def State.nextScrubResult (s : State) (i : Nat) : Option ScrubResult :=
  match s.flight.scrubResults[i]? with
  | none => none
  | some r =>
    if (s.flight.scrubResults.take i).any fun r' => r'.frame == r.frame && r'.line == r.line then none else some r

/-- SCRUB_RESULT (R152): the Scrub Engine takes the `i`-th result handed to it. A result that R134 puts behind another
is not there to be taken, and the command changes nothing (assumption log, 3). -/
def execScrubResult (i : Nat) (s : State) : Host.Outcome State Fault Refusal :=
  whenOperating s <|
    match s.nextScrubResult i with
    | some r =>
      (s.setFlight { s.flight with scrubResults := s.flight.scrubResults.eraseIdx i }).setScrub
        (takeScrubResult r s.scrub)
    | none => s

/-- The frame whose scrub has ended becomes FREE at the Free List tail, and the head of the Claim Queue is
re-examined, or becomes QUARANTINED when it is damaged (R13, R16, R59). -/
def scrubOutcome (f : Nat) (s : State) : State :=
  let r := s.record f
  if r.damaged then quarantineFrame f .scrub s
  else
    let s := s.setRecord f { r with state := .free }
    examineHead (s.setEngine { s.engine with freeList := s.engine.freeList ++ [f] })

/-- The engine takes the scrub-end report of frame `f` (R154): an uncorrectable line seen marks the frame, the
outcome of R13 applies, and the Scrub Engine goes on to the next frame. -/
def takeScrubEnd (f : Nat) (s : State) : State :=
  let s1 := if s.scrub.uncorrectableSeen ∧ (s.record f).damaged = false then markDamaged f s else s
  takeScrub (scrubOutcome f (scrubIdle s1))

/-- SCRUB_END_REPORT (R154). -/
def execScrubEndReport (s : State) : Host.Outcome State Fault Refusal :=
  onEngine s <|
    match s.scrub.current with
    | some f => if s.scrub.ended then takeScrubEnd f s else s
    | none => s

end Sys2Proof.Machine
end

