-- ==== Sys2Proof/Machine/Channels.lean ====
section
/-! DEFINITION. The Channel Controllers: CHANNEL_READ, CHANNEL_FULL_WRITE, CHANNEL_PARTIAL_WRITE and
CHANNEL_CSWAP (R132 to R142). Each carries one access out, hands its result, report and fault record over
and frees its place. -/

namespace Sys2Proof.Machine

/-- The access at place `i` of channel `c` when it may be carried out: no earlier access of the queue is to the
same line, since accesses to one line are carried out in the order of entry (R133). -/
def State.carriedOut (s : State) (c : ChannelId) (i : Nat) : Option Access64 :=
  match (s.channel c).queue[i]? with
  | none => none
  | some a =>
    if ((s.channel c).queue.take i).any fun b => b.frame == a.frame && b.line == a.line then none else some a

/-- The access leaves the queue, and its place is free (R134). -/
def completeAccess (c : ChannelId) (i : Nat) (s : State) : State :=
  s.setChannel c { s.channel c with queue := (s.channel c).queue.eraseIdx i }

/-- The source that an UNCORRECTABLE fault record names (R140). -/
def AccessOf.source : AccessOf → FaultSource
  | .port p _ => .port p
  | .scrub _ _ => .scrub
  | .mapRead _ _ => .map
  | .mapWrite => .map

/-- The result is handed to the requester named in the access, with its reference (R134). A map write has no
result that the Map Unit uses. -/
def handResult (a : Access64) (o : AccessOutcome) (s : State) : State :=
  match a.owner with
  | .port p tag =>
    s.setFlight { s.flight with
      lineResults := s.flight.lineResults.set p
        (s.flight.lineResults.get p ++ [{ tag := tag, frame := a.frame, line := a.line, outcome := o }]) }
  | .scrub number verify =>
    s.setFlight { s.flight with
      scrubResults := s.flight.scrubResults ++
        [{ number := number, verify := verify, frame := a.frame, line := a.line,
           uncorrectable := decide (o = .uncorrectable) }] }
  | .mapRead p hpn =>
    s.setFlight { s.flight with
      mapResults := s.flight.mapResults ++
        [{ port := p, hpn := hpn, value := if o = .uncorrectable then none else some (s.dram.readMap a.line) }] }
  | .mapWrite => s

/-- A correctable report to the Allocation Engine, for a frame other than frame 0 (R139, R141). -/
def reportCorrectable (a : Access64) (s : State) : State :=
  if a.frame = 0 then s
  else s.setFlight { s.flight with correctable := s.flight.correctable ++ [(a.frame, a.line)] }

/-- An uncorrectable line: the line stays as it was and reads uncorrectable again, the engine is told for a
frame other than frame 0, and an UNCORRECTABLE fault record is handed over (R140, R141). -/
def reportUncorrectable (a : Access64) (s : State) : State :=
  let s := s.setDram (s.dram.markBad (s.lineOf a))
  let s :=
    if a.frame = 0 then s
    else s.setFlight { s.flight with uncorrectable := s.flight.uncorrectable ++ [(a.frame, a.line)] }
  handFault (.uncorrectable a.owner.source a.frame a.line) s

/-- A read of the access's line meets the condition `e` (Section 7.3): `store` gives the line's content after
the access, when it stores one, and the access's outcome, from the 64 bytes read. -/
def readAccess (a : Access64) (e : EccCondition) (store : List Byte → Option (List Byte))
    (outcome : List Byte → AccessOutcome) (s : State) : State :=
  match s.dram.condition (s.lineOf a) e with
  | .uncorrectable => handResult a .uncorrectable (reportUncorrectable a s)
  | .clean => access s
  | .correctable => reportCorrectable a (access s)
where
  /-- The line's bytes are known: the line is stored if the access stores it, and the result handed over. -/
  access (s : State) : State :=
    let bytes := s.dram.readLine (s.lineOf a)
    let s :=
      match store bytes with
      | some new => s.setDram (s.dram.storeLine (s.lineOf a) new)
      | none => s
    handResult a (outcome bytes) s

/-- Carrying an access out frees its place (R134); an access that names a frame outside the pool (R1), which no
reachable queue holds, stops the machine. -/
def carryOut (c : ChannelId) (i : Nat) (a : Access64) (f : State → State) (s : State) :
    Host.Outcome State Fault Refusal :=
  if a.frame < s.frames then .next (f (completeAccess c i s)) else .fault (.noSuchFrame a.frame)

/-- The outcome of a READ whose line was clean or correctable (R135). -/
def readOutcome (e : EccCondition) (bytes : List Byte) : AccessOutcome :=
  match e with
  | .correctable => .corrected bytes
  | .clean => .clean bytes
  | .uncorrectable => .clean bytes

/-- CHANNEL_READ (R135). The corrected bytes are the line's 64 bytes, so a rewrite (R139) leaves them as they
are. -/
def execChannelRead (c : ChannelId) (i : Nat) (e : EccCondition) (s : State) : Host.Outcome State Fault Refusal :=
  if s.operating then
    match s.carriedOut c i with
    | some a =>
      (match a.kind with
        | .read => carryOut c i a (readAccess a e (fun _ => none) (readOutcome e)) s
        | _ => .next s)
    | none => .next s
  else .next s

/-- CHANNEL_FULL_WRITE (R136). -/
def execChannelFullWrite (c : ChannelId) (i : Nat) (s : State) : Host.Outcome State Fault Refusal :=
  if s.operating then
    match s.carriedOut c i with
    | some a =>
      (match a.kind with
        | .fullWrite data =>
          carryOut c i a (fun s => handResult a .written (s.setDram (s.dram.storeLine (s.lineOf a) data))) s
        | .mapWrite v => carryOut c i a (fun s => handResult a .written (s.setDram (s.dram.storeMap a.line v))) s
        | _ => .next s)
    | none => .next s
  else .next s

/-- CHANNEL_PARTIAL_WRITE (R137). -/
def execChannelPartialWrite (c : ChannelId) (i : Nat) (e : EccCondition) (s : State) :
    Host.Outcome State Fault Refusal :=
  if s.operating then
    match s.carriedOut c i with
    | some a =>
      (match a.kind with
        | .partialWrite data mask =>
          carryOut c i a (readAccess a e (fun bytes => some (mergeBytes bytes data mask)) (fun _ => .written)) s
        | _ => .next s)
    | none => .next s
  else .next s

/-- CHANNEL_CSWAP (R138). -/
def execChannelCswap (c : ChannelId) (i : Nat) (e : EccCondition) (s : State) : Host.Outcome State Fault Refusal :=
  if s.operating then
    match s.carriedOut c i with
    | some a =>
      (match a.kind with
        | .cswap g cmp new =>
          carryOut c i a
            (readAccess a e
              (fun bytes => if granuleOf bytes g = cmp then some (withGranule bytes g new) else none)
              (fun bytes => .swap (granuleOf bytes g) (decide (granuleOf bytes g = cmp)))) s
        | _ => .next s)
    | none => .next s
  else .next s

end Sys2Proof.Machine
end

