-- ==== Sys2Proof/Machine/Sends.lean ====
section
/-! DEFINITION. What the Link Ports send by themselves, COMPLETION_SEND and NOTICE_SEND (R169, R171). -/

namespace Sys2Proof.Machine

/-- The Request Queue entry whose completion was sent is retired, and its credit is to be returned (R124,
R167). -/
def retire (p : PortId) (tag : Nat) (s : State) : State :=
  let s := s.setQueue p ((s.queue p).filter fun e => !(e.tag == tag))
  s.setLink p { s.link p with requestReturns := (s.link p).requestReturns + 1 }

/-- The completion at the head of the outbound order is sent (R169): a credit is used, the tag is outstanding no
more, a memory request's entry is retired. After a DETACH completion teardown begins (R120); after any other
the credits freed are returned (R167). -/
def sendCompletion (p : PortId) (c : Completion) (rest : List Completion) (s : State) : State :=
  let l := s.link p
  let s := s.setLink p { l with
    outbound := rest, completionCredits := l.completionCredits - 1,
    tags := l.tags.filter fun t => !(t == c.tag), sent := l.sent ++ [.completion c] }
  match c.answers with
  | .command => s
  | .request => returnCredits p (retire p c.tag s)
  | .detach => beginTeardown p .detach (retire p c.tag s)

/-- COMPLETION_SEND (R169). -/
def execCompletionSend (p : PortId) (s : State) : Host.Outcome State Fault Refusal :=
  whenOperating s <|
    let l := s.link p
    if l.state = .attached ∧ l.link = .up ∧ l.completionCredits ≠ 0 then
      match l.outbound with
      | c :: rest => sendCompletion p c rest s
      | [] => s
    else s

/-- The send of a notice is reported to its producer (R171). -/
def noticeSent (n : Notice) (s : State) : State :=
  match n with
  | .recallNotice rid _ _ => updateRecall rid (fun r => { r with noticeSent := some true }) s
  | .offer gid _ _ _ =>
    s.setEngine { s.engine with
      offers := s.engine.offers.map fun o => if o.grantId = gid then { o with sent := true } else o }
  | .withdrawn _ _ => s

/-- The notice at the head of the Notice Queue is sent; the place it frees is filled (R93, R171). -/
def sendNotice (p : PortId) (n : Notice) (rest : List Notice) (s : State) : State :=
  let l := s.link p
  let s := s.setLink p { l with
    notices := rest, noticeCredits := l.noticeCredits - 1, sent := l.sent ++ [.notice n] }
  fillPending p (noticeSent n s)

/-- NOTICE_SEND (R171). -/
def execNoticeSend (p : PortId) (s : State) : Host.Outcome State Fault Refusal :=
  whenOperating s <|
    let l := s.link p
    if l.state = .attached ∧ l.link = .up ∧ l.noticeCredits ≠ 0 then
      match l.notices with
      | n :: rest => sendNotice p n rest s
      | [] => s
    else s

end Sys2Proof.Machine
end

