-- ==== Sys2Proof/Machine/Management.lean ====
section
/-! DEFINITION. The Management Interface (Chapter 10): transactions, the request buffer, settings, the Fault
Log, the requests of the management slot, port requests and CHIP-RESET. -/

namespace Sys2Proof.Machine

/-! ### The Fault Log -/

/-- A record is appended with the counter's value as its sequence number; a full log discards its oldest, and
ALERT_N is asserted (R189, R191). -/
def appendFault (i : FaultInfo) (m : Mgmt) : Mgmt :=
  { m with
    log := (if m.log.length < Config.faultLogSize then m.log else m.log.tail) ++ [{ sequence := m.sequence, info := i }],
    sequence := (m.sequence + 1) % Config.idSpan,
    alert := true }

/-- FAULT_RECORD_APPEND (R189): the Management Interface takes the `i`-th record handed to it. -/
def execFaultRecordAppend (i : Nat) (s : State) : Host.Outcome State Fault Refusal :=
  whenOperating s <|
    match s.flight.faults[i]? with
    | some r =>
      (s.setFlight { s.flight with faults := s.flight.faults.eraseIdx i }).setMgmt (appendFault r s.mgmt)
    | none => s

/-- LOG-READ removes the oldest record into the result, or returns no data; ALERT_N is released when the log is
left empty (R190, R191). -/
def readLog (s : State) : State :=
  match s.mgmt.log with
  | [] => placeResult .ok [] s
  | r :: rest => placeResult .ok r.bytes (s.setMgmt { s.mgmt with log := rest, alert := !rest.isEmpty })

/-! ### Settings -/

/-- A SET request that passes its check writes the new value; its result is OK with no data (R181). -/
def writeSetting (x : Settings) (s : State) : State := placeResult .ok [] (s.setMgmt { s.mgmt with settings := x })

/-- The range of a timeout by its kind, 0 RECALL, 1 OFFER, 2 CLAIM (R181, Table 11-5). -/
def timeoutInRange (kind ms : Nat) : Bool :=
  match kind with
  | 0 => decide (1 ≤ ms) && decide (ms ≤ 1000)
  | 1 => decide (10 ≤ ms) && decide (ms ≤ 10000)
  | 2 => decide (ms ≤ 10000)
  | _ => false

/-- The settings with a timeout written. -/
def withTimeout (kind ms : Nat) (x : Settings) : Settings :=
  match kind with
  | 0 => { x with recallMs := ms }
  | 1 => { x with offerMs := ms }
  | _ => { x with claimMs := ms }

/-! ### CHIP-RESET -/

/-- CHIP-RESET (R158, R188): every block takes its reset value with the population kept, the settings and the
Fault Log stay, a CHIP_RESET record is appended, the result is OK and start-up begins at once. -/
def chipReset (s : State) : State :=
  let s := resetBlocks s.pop true (discardAccesses s)
  placeResult .ok [] (s.setMgmt { appendFault .chipReset s.mgmt with portSlot := none })

/-! ### Taking a request -/

/-- The argument check of a request fails (R180). -/
def badArgument (r : MgmtReq) (frames : Nat) : Bool :=
  match r with
  | .getPoolStatus => false
  | .getPortStatus p => decide (4 ≤ p)
  | .queryFrame f => decide (frames ≤ f)
  | .evict f => decide (frames ≤ f)
  | .quarantine f => decide (frames ≤ f)
  | .returnFrame f => decide (frames ≤ f)
  | .setQuota p q => decide (4 ≤ p) || decide (8192 < q)
  | .setWeight p w => decide (4 ≤ p) || decide (w = 0) || decide (15 < w)
  | .setTimeout k ms => !timeoutInRange k ms
  | .setThreshold n => decide (n = 0) || decide (255 < n)
  | .portDisable p => decide (4 ≤ p)
  | .portEnable p => decide (4 ≤ p)
  | .portReset p => decide (4 ≤ p)
  | .logRead => false
  | .chipReset => false
  | .malformed _ => true

/-- The request is placed in the management slot (R53, R180). -/
def placeInSlot (r : MgmtReq) (s : State) : State := s.setEngine { s.engine with slot := some r }

/-- The request is handed to the Link Port of the port it names (R180). -/
def handPortRequest (r : PortRequest) (s : State) : State := s.setMgmt { s.mgmt with portSlot := some r }

/-- A port number below 4 as a port. -/
def portOf (n : Nat) : PortId := ⟨n % 4, Nat.mod_lt n (by decide)⟩

/-- A request that passed its check is run by the block R180 names. -/
def runRequest (r : MgmtReq) (s : State) : State :=
  let x := s.mgmt.settings
  match r with
  | .getPoolStatus => placeInSlot r s
  | .getPortStatus _ => placeInSlot r s
  | .queryFrame _ => placeInSlot r s
  | .evict _ => placeInSlot r s
  | .quarantine _ => placeInSlot r s
  | .returnFrame _ => placeInSlot r s
  | .setQuota p q => writeSetting { x with quota := x.quota.set (portOf p) q } s
  | .setWeight p w => writeSetting { x with weight := x.weight.set (portOf p) w } s
  | .setTimeout k ms => writeSetting (withTimeout k ms x) s
  | .setThreshold n => writeSetting { x with threshold := n } s
  | .portDisable p => handPortRequest (.disable (portOf p)) s
  | .portEnable p => handPortRequest (.enable (portOf p)) s
  | .portReset p => handPortRequest (.reset (portOf p)) s
  | .logRead => readLog s
  | .chipReset => chipReset s
  | .malformed _ => placeResult .badArgument [] s

/-- A request transaction has ended (R178): while the buffer is RUNNING the request is refused and its id
kept as the refused id; otherwise it is taken, checked and run (R180). -/
def takeMgmtRequest (id : Nat) (r : MgmtReq) (s : State) : State :=
  match s.mgmt.buffer with
  | .running _ _ => s.setMgmt { s.mgmt with refused := some id }
  | _ =>
    let s := s.setMgmt { s.mgmt with buffer := .running id r, refused := none }
    if badArgument r s.frames then placeResult .badArgument [] s else runRequest r s

/-- A request transaction of `n` bytes shifts 0x00 out throughout (R193). -/
def requestMiso (n : Nat) (s : State) : State := s.setMgmt { s.mgmt with miso := List.replicate n 0 }

/-- A result transaction of `n` bytes has ended (R179, R193): the buffer is shifted out as it stood and the
refused id cleared. -/
def takeResultTransaction (n : Nat) (s : State) : State :=
  s.setMgmt { s.mgmt with
    miso := resultShiftedOut n (resultFrame s.mgmt.buffer s.mgmt.refused), refused := none }

/-- MGMT_REQUEST_TRANSACTION (R178, R193). A transaction with no complete byte is ignored; bytes that begin
with 0x00 (an ill-formed use of this command) are a result transaction. DESIGN CHOICE (assumption log, 32): the
bits of an incomplete last byte behind at least one complete byte are dropped. -/
def execMgmtRequestTransaction (bytes : List Byte) (s : State) : Host.Outcome State Fault Refusal :=
  whenOperating s <|
    match parseMgmtTransaction bytes with
    | .empty => s
    | .result n => takeResultTransaction n s
    | .request id r => takeMgmtRequest id r (requestMiso bytes.length s)

/-- RESULT_TRANSACTION (R179) of `n` bytes. -/
def execResultTransaction (n : Nat) (s : State) : Host.Outcome State Fault Refusal :=
  whenOperating s (if n = 0 then s else takeResultTransaction n s)

/-- SET_QUOTA (R181): kind, id, port and two bytes of quota. -/
def execSetQuota (id port quota : Nat) (s : State) : Host.Outcome State Fault Refusal :=
  whenOperating s (takeMgmtRequest id (.setQuota port quota) (requestMiso 5 s))

/-- SET_WEIGHT (R181). -/
def execSetWeight (id port weight : Nat) (s : State) : Host.Outcome State Fault Refusal :=
  whenOperating s (takeMgmtRequest id (.setWeight port weight) (requestMiso 4 s))

/-- SET_TIMEOUT (R181). -/
def execSetTimeout (id kind ms : Nat) (s : State) : Host.Outcome State Fault Refusal :=
  whenOperating s (takeMgmtRequest id (.setTimeout kind ms) (requestMiso 5 s))

/-- SET_THRESHOLD (R181). -/
def execSetThreshold (id threshold : Nat) (s : State) : Host.Outcome State Fault Refusal :=
  whenOperating s (takeMgmtRequest id (.setThreshold threshold) (requestMiso 3 s))

/-- LOG_READ (R190). -/
def execLogRead (id : Nat) (s : State) : Host.Outcome State Fault Refusal :=
  whenOperating s (takeMgmtRequest id .logRead (requestMiso 2 s))

/-- CHIP_RESET (R188). -/
def execChipReset (id : Nat) (s : State) : Host.Outcome State Fault Refusal :=
  whenOperating s (takeMgmtRequest id .chipReset (requestMiso 2 s))

/-! ### The management slot -/

/-- The number of frames 1 to F - 1 in a state (R6, R183). -/
def State.countFrames (s : State) (st : FrameState) : Nat :=
  s.lendable.countP fun f => decide ((s.record f).state = st)

/-- The values of GET-POOL-STATUS, in the order of R183. -/
def poolStatus (s : State) : List Nat :=
  [s.device.code, s.frames, s.pop.channels, s.pop.channelSize, s.countFrames .free, s.countFrames .scrubbing,
   s.countFrames .held, s.countFrames .shared, s.countFrames .recalling, s.countFrames .quarantined,
   s.engine.freeList.length, s.scrub.queue.length, s.scrub.phase.code, s.scrub.current.getD 0,
   s.engine.claims.length, s.engine.offers.length, s.recalls.table.length, s.mgmt.log.length, s.mgmt.sequence]

/-- How many entries of a Request Queue are WAITING, WALKING, BOUND, ISSUED and DONE (R184). -/
def queueCounts (q : List ReqEntry) : List Nat :=
  [q.countP fun e => decide (e.state = .waiting), q.countP fun e => decide (e.state = .walking),
   q.countP fun e => match e.state with
     | .bound _ => true
     | _ => false,
   q.countP ReqEntry.isIssued, q.countP ReqEntry.isDone]

/-- The values of GET-PORT-STATUS, in the order of R184; a teardown cause that is absent is 0xFFFF (R193). -/
def portStatus (p : PortId) (s : State) : List Nat :=
  let l := s.link p
  [l.link.code, l.state.code, l.session, yesNo l.disablePending, (l.cause.map TeardownCause.code).getD 0xFFFF,
   l.requestCredits, l.commandCredits, l.completionCredits, l.noticeCredits, l.commands.length, l.notices.length,
   l.outbound.length] ++ queueCounts (s.queue p) ++
  [s.engine.held.get p, s.parked p, s.mgmt.settings.quota.get p, s.mgmt.settings.weight.get p,
   s.recalls.table.countP fun r => r.port == p]

/-- GET_POOL_STATUS (R183). -/
def execGetPoolStatus (s : State) : Host.Outcome State Fault Refusal :=
  whenOperating s <|
    match s.servedRequest with
    | some .getPoolStatus => answerSlot .ok (statusBytes (poolStatus s)) s
    | _ => s

/-- GET_PORT_STATUS (R184). -/
def execGetPortStatus (s : State) : Host.Outcome State Fault Refusal :=
  whenOperating s <|
    match s.servedRequest with
    | some (.getPortStatus p) => answerSlot .ok (statusBytes (portStatus (portOf p) s)) s
    | _ => s

/-- QUERY_FRAME (R185). -/
def execQueryFrame (s : State) : Host.Outcome State Fault Refusal :=
  whenOperating s <|
    match s.servedRequest with
    | some (.queryFrame f) => answerSlot .ok (s.record f).bytes s
    | _ => s

/-- Every item of a frame taken back by management: reason EVICT, notify (R10, R90). -/
def evictReason (_i : MapItem) : RecallReason × Bool := (.evict, true)

/-- A HELD or SHARED frame is taken back by management, or the request is refused BUSY for want of records
(R10, R53, R186). -/
def evictFrame (f : Nat) (quarantine : Bool) (s : State) : State :=
  if s.freeRecords < (s.record f).activeItems.length then answerSlot .busy [] s
  else enterRecalling f .evict quarantine evictReason (answerSlot .ok [] s)

/-- EVICT by the frame's state (R186). -/
def takeEvict (f : Nat) (s : State) : State :=
  match (s.record f).state with
  | .held => evictFrame f false s
  | .shared => evictFrame f false s
  | .reserved => answerSlot .wrongState [] s
  | .free => answerSlot .wrongState [] s
  | .scrubbing => answerSlot .wrongState [] s
  | .recalling => answerSlot .wrongState [] s
  | .quarantined => answerSlot .wrongState [] s

/-- EVICT (R186). -/
def execEvict (s : State) : Host.Outcome State Fault Refusal :=
  whenOperating s <|
    match s.servedRequest with
    | some (.evict f) => takeEvict f s
    | _ => s

/-- The scrub of the current frame is aborted, the frame becomes QUARANTINED, and the Scrub Engine takes the
next frame (R14, R155). -/
def abortScrub (f : Nat) (s : State) : State := takeScrub (quarantineFrame f .management (scrubIdle s))

/-- QUARANTINE by the frame's state (R14, R186). -/
def takeQuarantine (f : Nat) (s : State) : State :=
  match (s.record f).state with
  | .free =>
    quarantineFrame f .management
      (answerSlot .ok [] (s.setEngine { s.engine with freeList := s.engine.freeList.filter fun g => !(g == f) }))
  | .scrubbing =>
    if s.scrub.current = some f then abortScrub f (answerSlot .ok [] s)
    else
      quarantineFrame f .management
        (answerSlot .ok [] (s.setScrub { s.scrub with queue := s.scrub.queue.filter fun g => !(g == f) }))
  | .held => evictFrame f true s
  | .shared => evictFrame f true s
  | .recalling => answerSlot .ok [] (s.setRecord f { s.record f with quarantineOnExit := true })
  | .quarantined => answerSlot .ok [] s
  | .reserved => answerSlot .wrongState [] s

/-- QUARANTINE (R14). -/
def execQuarantine (s : State) : Host.Outcome State Fault Refusal :=
  whenOperating s <|
    match s.servedRequest with
    | some (.quarantine f) => takeQuarantine f s
    | _ => s

/-- RETURN (R15): a QUARANTINED frame has its mark and count cleared and joins the Scrub Queue tail. -/
def takeReturn (f : Nat) (s : State) : State :=
  let r := s.record f
  if r.state = .quarantined then
    joinScrub f (answerSlot .ok [] (s.setRecord f { r with state := .scrubbing, damaged := false, count := 0 }))
  else answerSlot .wrongState [] s

/-- RETURN (R15). -/
def execReturnFrame (s : State) : Host.Outcome State Fault Refusal :=
  whenOperating s <|
    match s.servedRequest with
    | some (.returnFrame f) => takeReturn f s
    | _ => s

/-! ### Port requests -/

/-- The port request in a Link Port's hands is taken, and its result placed (R180, R187). -/
def answerPort (status : MgmtStatus) (s : State) : State :=
  placeResult status [] (s.setMgmt { s.mgmt with portSlot := none })

/-- PORT-RESET by the port state (R174). -/
def takePortReset (p : PortId) (s : State) : State :=
  if (s.link p).state = .attached then beginTeardown p .portReset (answerPort .ok s) else answerPort .wrongState s

/-- PORT_RESET (R174). -/
def execPortReset (s : State) : Host.Outcome State Fault Refusal :=
  whenOperating s <|
    match s.mgmt.portSlot with
    | some (.reset p) => takePortReset p s
    | _ => s

/-- PORT-DISABLE by the port state (R174). -/
def takePortDisable (p : PortId) (s : State) : State :=
  let l := s.link p
  let s := answerPort .ok s
  match l.state with
  | .attached => beginTeardown p .portDisable (s.setLink p { l with disablePending := true })
  | .detaching => s.setLink p { l with disablePending := true }
  | .idle => s.setLink p { l with state := .disabled, completionCredits := 0, noticeCredits := 0 }
  | .offline => s.setLink p { l with state := .disabled, completionCredits := 0, noticeCredits := 0 }
  | .disabled => s

/-- PORT_DISABLE (R174). -/
def execPortDisable (s : State) : Host.Outcome State Fault Refusal :=
  whenOperating s <|
    match s.mgmt.portSlot with
    | some (.disable p) => takePortDisable p s
    | _ => s

/-- PORT-ENABLE by the port state (R174). -/
def takePortEnable (p : PortId) (s : State) : State :=
  let l := s.link p
  match l.state with
  | .disabled =>
    (answerPort .ok s).setLink p { l with state := if l.link = .up then .idle else .offline }
  | .detaching => (answerPort .ok s).setLink p { l with disablePending := false }
  | .offline => answerPort .wrongState s
  | .idle => answerPort .wrongState s
  | .attached => answerPort .wrongState s

/-- PORT_ENABLE (R174). -/
def execPortEnable (s : State) : Host.Outcome State Fault Refusal :=
  whenOperating s <|
    match s.mgmt.portSlot with
    | some (.enable p) => takePortEnable p s
    | _ => s

end Sys2Proof.Machine
end

