-- ==== Sys2Proof/Machine/Dispatch.lean ====
section
/-! DEFINITION. Dispatch: one arm per command, each one direct call of its meaning. -/

namespace Sys2Proof.Machine

def exec (i : Instr) (s : State) : Host.Outcome State Fault Refusal :=
  match i with
  | .powerOn pop => Sys2Proof.Machine.execPowerOn pop s
  | .resetNAssert pop => Sys2Proof.Machine.execResetNAssert pop s
  | .resetNRelease => Sys2Proof.Machine.execResetNRelease s
  | .farEndDetected p => Sys2Proof.Machine.execFarEndDetected p s
  | .trainingCompletes p => Sys2Proof.Machine.execTrainingCompletes p s
  | .trainingFails p => Sys2Proof.Machine.execTrainingFails p s
  | .linkDown p => Sys2Proof.Machine.execLinkDown p s
  | .attach p => Sys2Proof.Machine.execAttach p s
  | .credit p completions notices => Sys2Proof.Machine.execCredit p completions notices s
  | .recallAck p recallId => Sys2Proof.Machine.execRecallAck p recallId s
  | .resetPort p => Sys2Proof.Machine.execResetPort p s
  | .malformedMessage p bytes => Sys2Proof.Machine.execMalformedMessage p bytes s
  | .read p tag cls hpn line count => Sys2Proof.Machine.execRead p tag cls hpn line count s
  | .write p tag cls hpn line count mask data => Sys2Proof.Machine.execWrite p tag cls hpn line count mask data s
  | .cswap p tag cls hpn line granule compare new => Sys2Proof.Machine.execCswap p tag cls hpn line granule compare new s
  | .fence p tag => Sys2Proof.Machine.execFence p tag s
  | .flush p tag => Sys2Proof.Machine.execFlush p tag s
  | .detach p tag => Sys2Proof.Machine.execDetach p tag s
  | .commandArrival p tag cmd => Sys2Proof.Machine.execCommandArrival p tag cmd s
  | .claim p => Sys2Proof.Machine.execClaim p s
  | .release p => Sys2Proof.Machine.execRelease p s
  | .drop p => Sys2Proof.Machine.execDrop p s
  | .grant p => Sys2Proof.Machine.execGrant p s
  | .accept p => Sys2Proof.Machine.execAccept p s
  | .decline p => Sys2Proof.Machine.execDecline p s
  | .revoke p => Sys2Proof.Machine.execRevoke p s
  | .engineTakesTeardown p => Sys2Proof.Machine.execEngineTakesTeardown p s
  | .teardownScan p => Sys2Proof.Machine.execTeardownScan p s
  | .claimDeadline p tag => Sys2Proof.Machine.execClaimDeadline p tag s
  | .offerDeadline grantId => Sys2Proof.Machine.execOfferDeadline grantId s
  | .recallDeadline recallId => Sys2Proof.Machine.execRecallDeadline recallId s
  | .recallCompletionReport recallId => Sys2Proof.Machine.execRecallCompletionReport recallId s
  | .scrubEndReport => Sys2Proof.Machine.execScrubEndReport s
  | .correctableReport frame line => Sys2Proof.Machine.execCorrectableReport frame line s
  | .uncorrectableReport frame line => Sys2Proof.Machine.execUncorrectableReport frame line s
  | .repairSearchStep => Sys2Proof.Machine.execRepairSearchStep s
  | .mapAccessGrant => Sys2Proof.Machine.execMapAccessGrant s
  | .mapClearWrite => Sys2Proof.Machine.execMapClearWrite s
  | .portAccessGrant c p => Sys2Proof.Machine.execPortAccessGrant c p s
  | .scrubAccessGrant c => Sys2Proof.Machine.execScrubAccessGrant c s
  | .channelRead c k ecc => Sys2Proof.Machine.execChannelRead c k ecc s
  | .channelFullWrite c k => Sys2Proof.Machine.execChannelFullWrite c k s
  | .channelPartialWrite c k ecc => Sys2Proof.Machine.execChannelPartialWrite c k ecc s
  | .channelCswap c k ecc => Sys2Proof.Machine.execChannelCswap c k ecc s
  | .mapReadResult p hpn => Sys2Proof.Machine.execMapReadResult p hpn s
  | .lineResult p tag line => Sys2Proof.Machine.execLineResult p tag line s
  | .scrubResult k => Sys2Proof.Machine.execScrubResult k s
  | .completionSend p => Sys2Proof.Machine.execCompletionSend p s
  | .noticeSend p => Sys2Proof.Machine.execNoticeSend p s
  | .faultRecordAppend k => Sys2Proof.Machine.execFaultRecordAppend k s
  | .mgmtRequestTransaction bytes => Sys2Proof.Machine.execMgmtRequestTransaction bytes s
  | .resultTransaction length => Sys2Proof.Machine.execResultTransaction length s
  | .getPoolStatus => Sys2Proof.Machine.execGetPoolStatus s
  | .getPortStatus => Sys2Proof.Machine.execGetPortStatus s
  | .queryFrame => Sys2Proof.Machine.execQueryFrame s
  | .evict => Sys2Proof.Machine.execEvict s
  | .quarantine => Sys2Proof.Machine.execQuarantine s
  | .returnFrame => Sys2Proof.Machine.execReturnFrame s
  | .setQuota id port quota => Sys2Proof.Machine.execSetQuota id port quota s
  | .setWeight id port weight => Sys2Proof.Machine.execSetWeight id port weight s
  | .setTimeout id kind ms => Sys2Proof.Machine.execSetTimeout id kind ms s
  | .setThreshold id threshold => Sys2Proof.Machine.execSetThreshold id threshold s
  | .portReset => Sys2Proof.Machine.execPortReset s
  | .portDisable => Sys2Proof.Machine.execPortDisable s
  | .portEnable => Sys2Proof.Machine.execPortEnable s
  | .logRead id => Sys2Proof.Machine.execLogRead id s
  | .chipReset id => Sys2Proof.Machine.execChipReset id s
  | .supplyFail => Sys2Proof.Machine.execSupplyFail s

end Sys2Proof.Machine
end

