-- ==== Sys2Proof/Safety.lean ====
section
/-! DEFINITION. What a safe run means: the invariants of the part that the statements speak of, and the frames,
which say what a family of commands leaves alone. -/

namespace Sys2Proof.Machine

/-! ### Invariants -/

/-- The sequence numbers a log of `n` records shows when the next record takes `next`: they "rise by one from
oldest to newest, counted modulo 65,536" (R189). -/
def expectedSequences (next n : Nat) : List Nat :=
  (List.range n).map fun i => (next + Config.idSpan - n + i) % Config.idSpan

/-- The Fault Log is in order (R189, R191): at most 32 records, numbered in a row up to the counter, and ALERT_N
asserted exactly while it holds one. -/
def Mgmt.logInOrder (m : Mgmt) : Prop :=
  m.log.length ≤ Config.faultLogSize ∧ m.sequence < Config.idSpan ∧
    m.log.map FaultRecord.sequence = expectedSequences m.sequence m.log.length ∧ m.alert = !m.log.isEmpty

/-- A producer's map write waits only while the Map Write Queue has no place (R28). -/
def State.writesWaitOnlyWhenFull (s : State) : Prop :=
  s.mapUnit.waiting = [] ∨ Config.mapWriteQueueSize ≤ s.mapUnit.queue.length

/-- No table or queue holds more than its capacity (R28, R31, R33, R36, R40, R58, R71, R87, R108, R132, R150, R162,
R170, R189), and a map write waits only while the Map Write Queue is full (R28). -/
def State.withinCapacity (s : State) : Prop :=
  s.recalls.table.length ≤ Config.recallTableSize ∧
    (∀ p, (s.queue p).length ≤ Config.requestQueueSize ∧ (s.link p).commands.length ≤ Config.commandQueueSize) ∧
    s.mapUnit.reads.length ≤ Config.walkQueueSize ∧ s.mapUnit.repairs.length ≤ Config.walkQueueSize ∧
  s.engine.claims.length ≤ Config.claimQueueSize ∧ s.engine.offers.length ≤ Config.offerTableSize ∧
    s.mapUnit.queue.length ≤ Config.mapWriteQueueSize ∧ s.writesWaitOnlyWhenFull ∧ s.walker.walks.length ≤ Config.walkQueueSize ∧
    (∀ p, (s.cache p).length ≤ Config.cacheSize) ∧
    (∀ p, (s.link p).notices.length ≤ Config.noticeQueueSize) ∧
    (∀ c, (s.channel c).queue.length ≤ Config.channelQueueSize) ∧
    s.scrub.outstanding ≤ Config.scrubOutstanding ∧ s.mgmt.log.length ≤ Config.faultLogSize

/-- What a Link Port holds in a session and outside one (R162, R167, R170): in ATTACHED the command credits
balance and no return is pending between events; in any other port state its queues, tags and the part's credits
are empty. -/
def LinkPort.sessionInOrder (l : LinkPort) : Prop :=
  (l.state = .attached → l.commandCredits + l.commandReturns + l.commands.length = Config.commandQueueSize ∧
      l.requestReturns = 0 ∧ l.commandReturns = 0) ∧
    (l.state ≠ .attached → l.commands = [] ∧ l.outbound = [] ∧ l.notices = [] ∧ l.tags = [] ∧
      l.requestCredits = 0 ∧ l.requestReturns = 0 ∧ l.commandCredits = 0 ∧ l.commandReturns = 0)

/-- The port state agrees with the link state (table of Section 9.2.1): ATTACHED and IDLE over an UP link,
OFFLINE over one that is not. -/
def LinkPort.stateFitsLink (l : LinkPort) : Prop :=
  (l.state = .attached ∨ l.state = .idle → l.link = .up) ∧ (l.state = .offline → l.link ≠ .up)

/-- Every Link Port is in order; while supply is valid its state agrees with its link's. -/
def State.sessionsInOrder (s : State) : Prop :=
  ∀ p, (s.link p).sessionInOrder ∧ (s.supplyValid = true → (s.link p).stateFitsLink)

/-- Frame 0 stays apart (R2): its record is the one the reset wrote, the directory keeps its canonical form, and
no list, offer, recall record, report or scan names it. -/
def State.frameZeroApart (s : State) : Prop :=
  s.record 0 = FrameRecord.afterReset 0 ∧ sparseWf FrameRecord.afterReset s.engine.directory = true ∧
    0 ∉ s.engine.freeList ∧ 0 ∉ s.scrub.queue ∧ s.scrub.current ≠ some 0 ∧
    (∀ o ∈ s.engine.offers, o.frame ≠ 0) ∧ (∀ r ∈ s.recalls.table, r.frame ≠ 0) ∧
    (∀ e ∈ s.flight.correctable, e.1 ≠ 0) ∧ (∀ e ∈ s.flight.uncorrectable, e.1 ≠ 0) ∧
    (∀ p n w, s.engine.teardown.get p = .scanning n w → n ≠ 0)

/-- The tags of the completions of memory requests that wait to be sent, in the outbound order. -/
def LinkPort.requestTags (l : LinkPort) : List Nat :=
  (l.outbound.filter fun c => decide (c.answers ≠ .command)).map Completion.tag

/-- The Request Queue of `p` is in order (R108, R123, R128, R165, R167): its tags are distinct; in ATTACHED they are
outstanding, "request credits held + request returns pending + entries in the Request Queue = 32", and the DONE
entries are those whose completions wait to be sent; in DETACHING an empty-queue report stands for an empty queue; in
the other states it is empty. -/
def State.requestsInOrder (s : State) : Prop :=
  ∀ p, ((s.queue p).map ReqEntry.tag).Nodup ∧
    ((s.link p).state = .attached → (∀ e ∈ s.queue p, e.tag ∈ (s.link p).tags) ∧
      (s.link p).requestCredits + (s.link p).requestReturns + (s.queue p).length = Config.requestQueueSize ∧
      (((s.queue p).filter ReqEntry.isDone).map ReqEntry.tag).Perm (s.link p).requestTags) ∧
    ((s.link p).state = .detaching → (s.link p).queueEmptyReport = true → s.queue p = []) ∧
    ((s.link p).state ≠ .attached → (s.link p).state ≠ .detaching → s.queue p = [])

/-! ### Invariants of the directory and the maps -/

/-- A record is in order (R3, R4, R5): it has a holder exactly while the frame is HELD, SHARED or RECALLING, items only
then, at most one per port, a HOLDER item only of its holder, and no ACTIVE one in RECALLING. -/
def FrameRecord.inOrder (r : FrameRecord) : Prop :=
  (r.holder.isSome = true ↔ r.state = .held ∨ r.state = .shared ∨ r.state = .recalling) ∧
    (r.items ≠ [] → r.holder.isSome = true) ∧ (r.items.map MapItem.port).Nodup ∧
    (∀ i ∈ r.items, (i.role = .holder → r.holder = some i.port) ∧ (i.phase = .active → r.state ≠ .recalling))

/-- The frames to be scrubbed: the Scrub Queue and the Scrub Engine's current frame (R149, R150). -/
def Scrub.frames (x : Scrub) : List Nat := x.queue ++ x.current.toList

/-- The frames are in order (R6, R17). The Free List holds exactly the frames in FREE, each once; the Scrub Queue and the
current frame are exactly the frames in SCRUBBING, each once; held(P) is the number of frames whose holder is P. What
keeps it so: the Scrub Engine has a current frame exactly outside IDLE (R150); every record is in order; an offer is on a HELD or SHARED frame, to a port without an item of it, and only
one to that port; a recall record of a HOLDER item is of a RECALLING frame, and only one of it; a request to quarantine
names a frame of the pool. -/
def State.framesInOrder (s : State) : Prop :=
  sparseWf FrameRecord.afterReset s.engine.directory = true ∧
    (s.engine.freeList.Nodup ∧ (∀ f ∈ s.engine.freeList, (s.record f).state = .free) ∧
      ∀ e ∈ s.engine.directory, e.2.state = .free → e.1 ∈ s.engine.freeList) ∧
    (s.scrub.frames.Nodup ∧ (∀ f ∈ s.scrub.frames, f < s.frames ∧ (s.record f).state = .scrubbing) ∧
      (∀ f ∈ s.lendable, (s.record f).state = .scrubbing → f ∈ s.scrub.frames) ∧
      (s.scrub.phase = .idle ↔ s.scrub.current = none)) ∧
    (∀ p, s.engine.held.get p = s.engine.directory.countP fun e => decide (e.2.holder = some p)) ∧
    (∀ e ∈ s.engine.directory,
      e.2.inOrder ∧ (e.1 = 0 → e.2.state = .reserved) ∧ (s.frames ≤ e.1 → e.2.state = .scrubbing)) ∧
    ((∀ o ∈ s.engine.offers, ((s.record o.frame).state = .held ∨ (s.record o.frame).state = .shared) ∧
        (s.record o.frame).itemOf o.toPort = none) ∧
      (s.engine.offers.map fun o => (o.frame, o.toPort)).Nodup) ∧
    ((∀ r ∈ s.recalls.table, r.role = .holder → (s.record r.frame).state = .recalling) ∧
      ((s.recalls.table.filter fun r => r.role == .holder).map RecallRecord.frame).Nodup) ∧
    (s.engine.slot.all fun r => match r with
      | .quarantine f => decide (f < s.frames)
      | _ => true) = true

/-- The map writes asked for and not yet performed, in their order: the Map Write Queue and the writes that wait
(R28). -/
def State.pendingWrites (s : State) : List MapWrite := s.mapUnit.queue.map QueuedWrite.write ++ s.mapUnit.waiting

/-- The value the line of the map entry (p, h) has after the writes in channel 0's queue: "performed when it enters
the Channel Queue" (R29, R133). -/
def State.performedMap (s : State) (p : PortId) (h : Nat) : MapValue :=
  (s.channel 0).queue.foldl (fun v a =>
    match a.kind with
    | .mapWrite w => if a.line = mapLine p h then w else v
    | _ => v) (s.dram.readMap (mapLine p h))

/-- The values of the map entry (p, h): the one performed, then those of the pending writes of it, in their order. -/
def State.mapValues (s : State) (p : PortId) (h : Nat) : List MapValue :=
  s.performedMap p h :: (s.pendingWrites.filter fun w => w.port == p && w.hpn == h).map MapWrite.value

/-- The map entry (p, h) agrees with the directory (R27, R100): a valid value is that of the item of (p, h), and the
last value of an ACTIVE item is valid. Behind the invalid write of a record in UNMAPPING every value is invalid, and
for a record in DRAINING, as for an entry without an item, every one. -/
def State.entryAgrees (s : State) (p : PortId) (h : Nat) : Prop :=
  match s.itemAt p h with
  | none => ∀ v ∈ s.mapValues p h, v = .invalid
  | some (f, i) => (∀ v ∈ s.mapValues p h, v = .invalid ∨ v = .valid f i.access) ∧
    (i.phase = .active → (s.mapValues p h).getLast? = some (.valid f i.access)) ∧
    (i.phase = .leaving → ∃ r ∈ s.recalls.table, r.port = p ∧ r.hpn = h ∧
      (r.phase = .unmapping → ∃ before after, s.pendingWrites = before ++ r.unmapWrite :: after ∧
        ∀ w ∈ after, w.port = p → w.hpn = h → w.value = .invalid) ∧
      (r.phase = .draining → ∀ v ∈ s.mapValues p h, v = .invalid))

/-- The map line has been written since the last reset: in RUN every one, in MAP_CLEAR those before the next (R46). -/
def State.lineCleared (s : State) (line : Nat) : Prop :=
  s.device = .run ∨ ∃ n, s.mapUnit.clearNext = some n ∧ line < n

/-- The accesses of channel 0 that are map reads, by entry. -/
def State.mapReadsInQueue (s : State) : List (PortId × Nat) :=
  (s.channel 0).queue.filterMap fun a =>
    match a.owner with
    | .mapRead p h => some (p, h)
    | _ => none

/-- Walks and their reads are in order (R31, R33 to R36): one walk of an entry, for each walk either a read or a repair;
an issued read is in channel 0's queue or has its result on the way; a repair write is pending exactly for a repair
whose outcome has arrived. Map accesses stand in channel 0's queue alone, on their lines of frame 0. -/
def State.walksInOrder (s : State) : Prop :=
  (s.walker.walks.map fun w => (w.port, w.hpn)).Nodup ∧
    ((s.mapUnit.reads.map fun r => (r.port, r.hpn)) ++ s.mapUnit.repairs.map fun r => (r.port, r.hpn)).Perm
      (s.walker.walks.map fun w => (w.port, w.hpn)) ∧
    ((s.mapUnit.reads.filter MapRead.issued).map fun r => (r.port, r.hpn)).Perm
      (s.mapReadsInQueue ++ s.flight.mapResults.map fun r => (r.port, r.hpn)) ∧
    ((s.pendingWrites.filter fun w => decide (w.producer = .repair)).map fun w => (w.port, w.hpn, w.value)).Perm
      (s.mapUnit.repairs.filterMap fun r =>
        match r.phase with
        | .writing v => some (r.port, r.hpn, v)
        | _ => none) ∧
    ∀ c, ∀ a ∈ (s.channel c).queue,
      (∀ p h, a.owner = .mapRead p h → c = 0 ∧ a.frame = 0 ∧ a.line = mapLine p h ∧ a.kind = .read) ∧
      (∀ v, a.kind = .mapWrite v → c = 0 ∧ a.frame = 0)

/-- Recall records and LEAVING items are in order (R5, R88, R89, R100, R104): one record for each LEAVING item, with
ids of their own and a fresh counter; an unmap write is pending for a record in UNMAPPING; a record reported complete is
in DRAINING, and the one of a HOLDER item only when its frame has no other item. -/
def State.recallsInOrder (s : State) : Prop :=
  (s.recalls.table.map RecallRecord.recallId).Nodup ∧
    (s.recalls.table.map fun r => (r.port, r.hpn)).Nodup ∧
    (∀ r ∈ s.recalls.table, r.recallId ≠ s.recalls.counter ∧
      ∃ i, s.itemAt r.port r.hpn = some (r.frame, i) ∧ i.phase = .leaving ∧ i.role = r.role) ∧
    (∀ n ∈ s.recalls.reported, ∃ r ∈ s.recalls.table, r.recallId = n ∧ r.phase = .draining ∧
      (r.role = .holder → (s.record r.frame).hasReader = false)) ∧
    (s.pendingWrites.filterMap fun w =>
      match w.producer with
      | .unmap rid => some rid
      | _ => none).Nodup ∧
    ∀ w ∈ s.pendingWrites, ∀ rid, w.producer = .unmap rid →
      ∃ r ∈ s.recalls.table, w = r.unmapWrite ∧ r.recallId = rid ∧ r.phase = .unmapping

/-- The host pages are in order (R4, R55): items name pages of the window, no two items of a port the same one, and the
ranges of parked claims hold no item and no page of another claim of the port. -/
def State.pagesInOrder (s : State) : Prop :=
  ((s.engine.directory.flatMap fun e => e.2.items).map fun i => (i.port, i.hpn)).Nodup ∧
    (∀ e ∈ s.engine.directory, ∀ i ∈ e.2.items, i.hpn < Config.hpnCount) ∧
    (∀ c ∈ s.engine.claims, 0 < c.count ∧ c.hpn + c.count ≤ Config.hpnCount ∧
      ∀ k, k < c.count → s.itemAt c.port (c.hpn + k) = none) ∧
    s.engine.claims.Pairwise fun a b => a.port = b.port → a.hpn + a.count ≤ b.hpn ∨ b.hpn + b.count ≤ a.hpn

/-- Before RUN nothing is mapped and nothing uses a map (R46, R157, R164): the map clear runs only then, and RESET_N
low leaves the part there. -/
def State.startingInOrder (s : State) : Prop :=
  (s.mapUnit.clearNext ≠ none → s.device = .starting) ∧
    (s.supplyValid = true → s.resetAsserted = true → s.device = .starting) ∧
    (s.device = .starting →
      (∀ p, (s.link p).state ≠ .attached ∧ (s.link p).state ≠ .detaching ∧ s.queue p = [] ∧ s.cache p = []) ∧
        s.walker.walks = [] ∧ s.pendingWrites = [] ∧ s.engine.claims = [] ∧ s.engine.offers = [] ∧
        s.recalls.table = [] ∧ ∀ e ∈ s.engine.directory, e.2.items = [])

/-- The maps are in order (R27, R30, R31, R33 to R35, R40): every map entry agrees with the directory, and every
Translation Cache entry and every result of a read that is not stale with the map entry as performed. What keeps it so:
the walks, the recall records, the host pages and the start-up are in order, an engine's write is valid, and a repair's
search has passed no item of its entry but one whose own write still waits and will supersede it. -/
def State.mapsInOrder (s : State) : Prop :=
  s.walksInOrder ∧ s.recallsInOrder ∧ s.pagesInOrder ∧ s.startingInOrder ∧
    (∀ p h, h < Config.hpnCount → s.lineCleared (mapLine p h) → s.entryAgrees p h) ∧
    (∀ w ∈ s.pendingWrites, w.hpn < Config.hpnCount ∧ (w.producer.isEngine = true → w.value ≠ .invalid)) ∧
    (∀ w ∈ s.walker.walks, w.hpn < Config.hpnCount) ∧
    (∀ p, ∀ c ∈ s.cache p, c.hpn < Config.hpnCount ∧ s.performedMap p c.hpn = .valid c.frame c.access) ∧
    (∀ w ∈ s.walker.walks, w.stale = false →
      (∀ before after a, (s.channel 0).queue = before ++ a :: after → a.owner = .mapRead w.port w.hpn →
        ∀ b ∈ after, b.line = a.line → ∀ v, b.kind ≠ .mapWrite v) ∧
      (∀ r ∈ s.flight.mapResults, r.port = w.port → r.hpn = w.hpn → ∀ v, r.value = some v →
        v = s.performedMap w.port w.hpn)) ∧
    (∀ r ∈ s.mapUnit.repairs, ∀ n, r.phase = .searching n → ∀ f i, s.itemAt r.port r.hpn = some (f, i) → n ≤ f ∨
      ∃ w ∈ s.mapUnit.waiting, w.port = r.port ∧ w.hpn = r.hpn ∧ w.producer.isEngine = true)

/-! ### Premises -/

/-- Port `p` is in a session over an UP link while the part operates: it takes every message kind (R163). -/
def State.inSession (s : State) (p : PortId) : Prop :=
  s.operating = true ∧ (s.link p).link = .up ∧ (s.link p).state = .attached

/-- The command that carries a memory request. -/
def requestCommand (p : PortId) (tag : Nat) : ReqKind → Instr
  | .read cls hpn line count => .read p tag cls hpn line count
  | .write cls hpn line count mask data => .write p tag cls hpn line count mask data
  | .cswap cls hpn line granule cmp new => .cswap p tag cls hpn line granule cmp new
  | .fence => .fence p tag
  | .flush => .flush p tag
  | .detach => .detach p tag

/-- A memory request passes the checks of R166, and no entry of the queue carries its tag (R108). -/
def State.takesRequest (s : State) (p : PortId) (tag : Nat) (kind : ReqKind) : Prop :=
  s.inSession p ∧ (HostMsg.request tag kind).inEncoding = true ∧ (s.link p).requestCredits ≠ 0 ∧
    tag ∉ (s.link p).tags ∧ ∀ e ∈ s.queue p, e.tag ≠ tag

/-- The Allocation Engine serves port `p`, which is in a session and has this tag and command at the head of its
Command Queue (R48, R49). -/
def State.servesCommand (s : State) (p : PortId) (tag : Nat) (cmd : PoolCmd) : Prop :=
  s.operating = true ∧ (s.link p).state = .attached ∧ s.serves p = true ∧
    (s.link p).commands.head? = some (tag, cmd)

/-- The Allocation Engine takes this request from the management slot now, and it is the request that runs
(R53, R180). -/
def State.servesRequest (s : State) (id : Nat) (r : MgmtReq) : Prop :=
  s.operating = true ∧ s.nextSource = some 4 ∧ s.engine.slot = some r ∧ s.mgmt.buffer = .running id r

/-! ### What an event leaves -/

/-- The Link Port after its head command was taken, handing over the completions `cs` (R49, R167): the command has
left, and every pending return went back with one CREDIT-RETURN. -/
def LinkPort.tookCommand (l : LinkPort) (cs : List Completion) : LinkPort :=
  { l with
    commands := l.commands.tail, outbound := l.outbound ++ cs,
    requestCredits := l.requestCredits + l.requestReturns, requestReturns := 0,
    commandCredits := l.commandCredits + (l.commandReturns + 1), commandReturns := 0,
    sent := l.sent ++ [.creditReturn l.requestReturns (l.commandReturns + 1)] }

/-- The Allocation Engine after it served port `p` and took its command (R48). -/
def Engine.tookCommand (e : Engine) (p : PortId) : Engine :=
  { e with pointer := sourceOf p, headWaiting := e.headWaiting.set p false }

/-- A refused command: taken, its completion handed over, nothing else changed (R49). -/
def State.refused (s : State) (p : PortId) (tag : Nat) (st : Status) : State :=
  (s.setLink p ((s.link p).tookCommand [commandCompletion tag st])).setEngine (s.engine.tookCommand p)

/-- A deferred command: its head is marked waiting, nothing else changed (R51). -/
def State.deferred (s : State) (p : PortId) : State :=
  s.setEngine { s.engine with pointer := sourceOf p, headWaiting := s.engine.headWaiting.set p true }

/-- The management result of a request taken from the slot, and nothing else (R53, R180). -/
def State.answered (s : State) (id : Nat) (r : MgmtReq) (st : MgmtStatus) (data : List Byte) : State :=
  (s.setEngine { s.engine with slot := none, pointer := 4 }).setMgmt
    { s.mgmt with buffer := .ready id r st data }

/-- The waiting FENCE, DETACH and FLUSH entries of a queue, before an event `q` and after it `q'` (R118, R119, R120): a
FENCE or DETACH is DONE exactly when every earlier entry now is, a FLUSH when every earlier WRITE and CSWAP is. -/
def orderingFollows (q q' : List ReqEntry) : Prop :=
  ∀ (k : Nat) (e : ReqEntry), q[k]? = some e → e.state = .waiting →
    let done : ReqEntry := { e with state := .done .ok Gathered.nothing }
    (e.kind = .fence ∨ e.kind = .detach →
      q'[k]? = some (if (q'.take k).all ReqEntry.isDone then done else e)) ∧
    (e.kind = .flush →
      q'[k]? = some (if (q'.take k).all fun b => b.isDone || !isWriting b.kind then done else e))

/-- The completions of the entries that became DONE joined the outbound order of `p`, in acceptance order (R123). -/
def handedInOrder (p : PortId) (s t : State) : Prop :=
  (t.link p).outbound = (s.link p).outbound ++ (newlyDone (s.queue p) (t.queue p)).filterMap ReqEntry.completion

/-- Every offer on frame `f` was withdrawn (R80): its GRANT completed WITHDRAWN at its port, if that is in a session; the
target's unsent OFFER notice is gone; and where the OFFER was sent and this was the one thing that the event had for the
target, a WITHDRAWN notice joined its queue if there was room, and none otherwise. -/
def offersWithdrawn (f : Nat) (s t : State) : Prop :=
  (∀ o ∈ t.engine.offers, o.frame ≠ f) ∧ ∀ o ∈ s.engine.offers, o.frame = f →
    ((s.link o.fromPort).state = .attached →
      grantCompletion o.tag .withdrawn o.grantId ∈ (t.link o.fromPort).outbound) ∧
    (o.sent = false → ∀ n ∈ (t.link o.toPort).notices, n.isOffer o.grantId = false) ∧
    (o.sent = true → (s.link o.toPort).state = .attached → (s.record f).itemOf o.toPort = none →
      (s.engine.offers.filter fun x => x.frame == f && x.toPort == o.toPort) = [o] →
      (t.link o.toPort).notices = (s.link o.toPort).notices ++
        if (s.link o.toPort).notices.length < 32 then [.withdrawn o.grantId .withdrawal] else [])

/-- The map write was asked for: it stands in the Map Write Queue or waits for a place (R28). -/
def State.writeAsked (s : State) (w : MapWrite) : Prop :=
  w ∈ s.mapUnit.queue.map QueuedWrite.write ∨ w ∈ s.mapUnit.waiting

/-- The outcome of a carried-out access was handed to the requester it names, with its reference, and to no other
(R31, R113, R134, R151). -/
def resultHanded (a : Access64) (o : AccessOutcome) (s t : State) : Prop :=
  t.flight.lineResults = (match a.owner with
    | .port p tag => s.flight.lineResults.set p
        (s.flight.lineResults.get p ++ [{ tag := tag, frame := a.frame, line := a.line, outcome := o }])
    | _ => s.flight.lineResults) ∧
  t.flight.mapResults = (match a.owner with
    | .mapRead p hpn => s.flight.mapResults ++ [{
        port := p, hpn := hpn,
        value := if o = .uncorrectable then none else some (s.dram.readMap a.line) }]
    | _ => s.flight.mapResults) ∧
  t.flight.scrubResults = (match a.owner with
    | .scrub number verify => s.flight.scrubResults ++ [{
        number := number, verify := verify, frame := a.frame, line := a.line,
        uncorrectable := decide (o = .uncorrectable) }]
    | _ => s.flight.scrubResults)

/-- The access left its queue; no other queue or round changed, nor any block but DRAM and what is in flight
(R134). -/
def accessCompleted (c : ChannelId) (i : Nat) (s t : State) : Prop :=
  t.channels = s.channels.set c { s.channel c with queue := (s.channel c).queue.eraseIdx i } ∧
    t.links = s.links ∧ t.requests = s.requests ∧ t.caches = s.caches ∧ t.engine = s.engine ∧
    t.recalls = s.recalls ∧ t.mapUnit = s.mapUnit ∧ t.scrub = s.scrub ∧ t.mgmt = s.mgmt

/-- The access met no uncorrectable line: no fault record and no uncorrectable report, and a correctable report
exactly for a line that read correctable outside frame 0 (R139, R141). -/
def reportedReadable (a : Access64) (e : EccCondition) (s t : State) : Prop :=
  t.flight.faults = s.flight.faults ∧ t.flight.uncorrectable = s.flight.uncorrectable ∧
    t.flight.correctable = (if e = .correctable ∧ a.frame ≠ 0 then s.flight.correctable ++ [(a.frame, a.line)]
      else s.flight.correctable)

/-- The access met an uncorrectable line (R140): the bytes, the map entries and the condition of every other line stay,
the line reads uncorrectable again, the engine is told for a frame other than 0, and an UNCORRECTABLE record is handed over with its source. -/
def reportedUncorrectable (a : Access64) (s t : State) : Prop :=
  t.dram.mem = s.dram.mem ∧ t.dram.maps = s.dram.maps ∧ t.dram.isBad (s.lineOf a) = true ∧
    (∀ n, n ≠ s.lineOf a → t.dram.isBad n = s.dram.isBad n) ∧
    t.flight.faults = s.flight.faults ++ [.uncorrectable a.owner.source a.frame a.line] ∧
    t.flight.correctable = s.flight.correctable ∧
    t.flight.uncorrectable = (if a.frame ≠ 0 then s.flight.uncorrectable ++ [(a.frame, a.line)]
      else s.flight.uncorrectable)

/-- Teardown of `p` with this cause has begun in `t`, from `s` (R175): the Link Port holds nothing of the session
and has sent SESSION-END if its link is UP, only ISSUED requests are left, no record of `p` still notifies, and
the Allocation Engine has been handed the teardown. -/
def teardownBegun (p : PortId) (cause : TeardownCause) (s t : State) : Prop :=
  t.link p = { (s.link p).detached cause with
      queueEmptyReport := ((s.queue p).filter ReqEntry.isIssued).isEmpty,
      recallReport := !(s.recalls.table.any fun r => r.port == p) } ∧
    t.queue p = (s.queue p).filter ReqEntry.isIssued ∧
    t.walker.retry = s.walker.retry.filter (fun r => !(r.1 == p)) ∧
    (∀ r ∈ t.recalls.table, r.port = p → r.phase = .unmapping ∨ r.phase = .draining) ∧
    t.engine.teardown.get p = .handed ∧ t.engine.headWaiting.get p = false ∧
    t.engine.directory = s.engine.directory ∧ t.engine.freeList = s.engine.freeList ∧
    t.engine.claims = s.engine.claims ∧ t.engine.offers = s.engine.offers ∧ t.cache p = s.cache p

/-! ### Frames -/

/-- Every byte of pool memory reads as before. -/
def sameMemory (s t : State) : Prop := ∀ a, Memory.read t.dram.mem a = Memory.read s.dram.mem a

/-- What stands around the blocks: supply, RESET_N, the latched population, the model's clock and the waiting
commands. -/
def State.surroundings (s : State) : Bool × Bool × Population × Nat × List Instr :=
  (s.supplyValid, s.resetAsserted, s.pop, s.now, s.pending)

/-- Nothing around the blocks changed. -/
def sameSurroundings (s t : State) : Prop := t.surroundings = s.surroundings

/-- The Link Port, Request Queue and Translation Cache of `q` are as before. -/
def samePort (q : PortId) (s t : State) : Prop :=
  t.link q = s.link q ∧ t.queue q = s.queue q ∧ t.cache q = s.cache q

/-- The blocks of the part (00_scope.md, Section 2), and what stands around them. -/
inductive Block where
  | supply
  | resetPin
  | population
  | device
  | links
  | requests
  | caches
  | walker
  | mapUnit
  | engine
  | recalls
  | channels
  | scrub
  | mgmt
  | flight
  | dram
  | freeCount
  deriving DecidableEq, Repr

/-- The block is as before. -/
def Block.same (s t : State) : Block → Prop
  | .supply => t.supplyValid = s.supplyValid
  | .resetPin => t.resetAsserted = s.resetAsserted
  | .population => t.pop = s.pop
  | .device => t.device = s.device
  | .links => t.links = s.links
  | .requests => t.requests = s.requests
  | .caches => t.caches = s.caches
  | .walker => t.walker = s.walker
  | .mapUnit => t.mapUnit = s.mapUnit
  | .engine => t.engine = s.engine
  | .recalls => t.recalls = s.recalls
  | .channels => t.channels = s.channels
  | .scrub => t.scrub = s.scrub
  | .mgmt => t.mgmt = s.mgmt
  | .flight => t.flight = s.flight
  | .dram => t.dram = s.dram
  | .freeCount => t.freeCount = s.freeCount

/-- The blocks that a reset writes besides the Management Interface (R158). -/
def resetBlockList : List Block :=
  [.device, .links, .requests, .caches, .walker, .mapUnit, .engine, .recalls, .channels, .scrub, .flight, .dram]

/-- The blocks that the beginning of teardown reaches (R175). -/
def teardownBlockList : List Block := [.links, .requests, .walker, .mapUnit, .engine, .recalls]

/-- The blocks that the command may change; it leaves every other one alone. -/
def touches : Instr → List Block
  | .powerOn _ => .supply :: .population :: .mgmt :: resetBlockList
  | .resetNAssert _ => .resetPin :: .population :: .mgmt :: .freeCount :: resetBlockList
  | .resetNRelease => [.resetPin, .mapUnit]
  | .farEndDetected _ => [.links]
  | .trainingCompletes _ => [.links]
  | .trainingFails _ => [.links]
  | .linkDown _ => .flight :: teardownBlockList
  | .attach _ => .flight :: teardownBlockList
  | .credit _ _ _ => .flight :: teardownBlockList
  | .recallAck _ _ => .flight :: teardownBlockList
  | .resetPort _ => teardownBlockList
  | .malformedMessage _ _ => .flight :: .caches :: teardownBlockList
  | .read _ _ _ _ _ _ => .flight :: .caches :: teardownBlockList
  | .write _ _ _ _ _ _ _ _ => .flight :: .caches :: teardownBlockList
  | .cswap _ _ _ _ _ _ _ _ => .flight :: .caches :: teardownBlockList
  | .fence _ _ => .flight :: teardownBlockList
  | .flush _ _ => .flight :: teardownBlockList
  | .detach _ _ => .flight :: teardownBlockList
  | .commandArrival _ _ _ => .flight :: teardownBlockList
  | .claim _ => [.links, .engine, .mapUnit]
  | .release _ => [.links, .engine, .recalls, .mapUnit]
  | .drop _ => [.links, .engine, .recalls, .mapUnit]
  | .grant _ => [.links, .engine]
  | .accept _ => [.links, .engine, .recalls, .mapUnit]
  | .decline _ => [.links, .engine, .recalls]
  | .revoke _ => [.links, .engine, .recalls, .mapUnit]
  | .engineTakesTeardown _ => [.links, .engine, .recalls, .mapUnit, .freeCount]
  | .teardownScan _ => [.links, .engine, .recalls, .mapUnit]
  | .claimDeadline _ _ => [.links, .engine, .mapUnit]
  | .offerDeadline _ => [.links, .engine, .recalls]
  | .recallDeadline _ => [.links, .recalls, .mapUnit, .flight]
  | .recallCompletionReport _ => [.links, .engine, .recalls, .scrub, .flight]
  | .scrubEndReport => [.links, .engine, .mapUnit, .scrub, .flight]
  | .correctableReport _ _ => [.engine, .flight]
  | .uncorrectableReport _ _ => [.engine, .flight]
  | .repairSearchStep => [.mapUnit]
  | .mapAccessGrant => [.links, .requests, .caches, .walker, .mapUnit, .engine, .recalls, .channels, .flight]
  | .mapClearWrite => [.device, .mapUnit, .channels, .scrub]
  | .portAccessGrant _ _ => [.requests, .channels]
  | .scrubAccessGrant _ => [.channels, .scrub]
  | .channelRead _ _ _ => [.channels, .flight, .dram]
  | .channelFullWrite _ _ => [.channels, .flight, .dram]
  | .channelPartialWrite _ _ _ => [.channels, .flight, .dram]
  | .channelCswap _ _ _ => [.channels, .flight, .dram]
  | .mapReadResult _ _ => [.links, .requests, .caches, .walker, .mapUnit, .flight]
  | .lineResult _ _ _ => [.links, .requests, .engine, .recalls, .flight]
  | .scrubResult _ => [.scrub, .flight]
  | .completionSend _ => teardownBlockList
  | .noticeSend _ => [.links, .engine, .recalls]
  | .faultRecordAppend _ => [.mgmt, .flight]
  | .mgmtRequestTransaction _ => .mgmt :: .freeCount :: resetBlockList
  | .resultTransaction _ => [.mgmt]
  | .getPoolStatus => [.engine, .mgmt]
  | .getPortStatus => [.engine, .mgmt]
  | .queryFrame => [.engine, .mgmt]
  | .evict => [.links, .engine, .recalls, .mapUnit, .mgmt]
  | .quarantine => [.links, .engine, .recalls, .mapUnit, .scrub, .flight, .mgmt]
  | .returnFrame => [.engine, .scrub, .mgmt]
  | .setQuota _ _ _ => [.mgmt]
  | .setWeight _ _ _ => [.mgmt]
  | .setTimeout _ _ _ => [.mgmt]
  | .setThreshold _ _ => [.mgmt]
  | .portReset => .mgmt :: teardownBlockList
  | .portDisable => .mgmt :: teardownBlockList
  | .portEnable => [.links, .mgmt]
  | .logRead _ => [.mgmt]
  | .chipReset _ => .mgmt :: .freeCount :: resetBlockList
  | .supplyFail => [.supply, .links]

/-- The port that the command names, for the commands that reach no other port's Link Port, Request Queue or
Translation Cache. -/
def onlyPort : Instr → Option PortId
  | .farEndDetected p => some p
  | .trainingCompletes p => some p
  | .trainingFails p => some p
  | .linkDown p => some p
  | .attach p => some p
  | .credit p _ _ => some p
  | .recallAck p _ => some p
  | .resetPort p => some p
  | .malformedMessage p _ => some p
  | .read p _ _ _ _ _ => some p
  | .write p _ _ _ _ _ _ _ => some p
  | .cswap p _ _ _ _ _ _ _ => some p
  | .fence p _ => some p
  | .flush p _ => some p
  | .detach p _ => some p
  | .commandArrival p _ _ => some p
  | .claim p => some p
  | .drop p => some p
  | .portAccessGrant _ p => some p
  | .lineResult p _ _ => some p
  | .completionSend p => some p
  | .noticeSend p => some p
  | .powerOn _ => none
  | .resetNAssert _ => none
  | .resetNRelease => none
  | .release _ => none
  | .grant _ => none
  | .accept _ => none
  | .decline _ => none
  | .revoke _ => none
  | .engineTakesTeardown _ => none
  | .teardownScan _ => none
  | .claimDeadline _ _ => none
  | .offerDeadline _ => none
  | .recallDeadline _ => none
  | .recallCompletionReport _ => none
  | .scrubEndReport => none
  | .correctableReport _ _ => none
  | .uncorrectableReport _ _ => none
  | .repairSearchStep => none
  | .mapAccessGrant => none
  | .mapClearWrite => none
  | .scrubAccessGrant _ => none
  | .channelRead _ _ _ => none
  | .channelFullWrite _ _ => none
  | .channelPartialWrite _ _ _ => none
  | .channelCswap _ _ _ => none
  | .mapReadResult _ _ => none
  | .scrubResult _ => none
  | .faultRecordAppend _ => none
  | .mgmtRequestTransaction _ => none
  | .resultTransaction _ => none
  | .getPoolStatus => none
  | .getPortStatus => none
  | .queryFrame => none
  | .evict => none
  | .quarantine => none
  | .returnFrame => none
  | .setQuota _ _ _ => none
  | .setWeight _ _ _ => none
  | .setTimeout _ _ _ => none
  | .setThreshold _ _ => none
  | .portReset => none
  | .portDisable => none
  | .portEnable => none
  | .logRead _ => none
  | .chipReset _ => none
  | .supplyFail => none

end Sys2Proof.Machine
end

