-- ==== Sys2Proof/Certificates/Slice0/Obligations.lean ====
section
/-! DEFINITION. The statements about the model, for the provers. Each docstring names the rules of spec/ that the
statement formalises. -/

open Sys2Proof Sys2Proof.Machine

/-! ### The machine -/

/-- The model's queue of commands (assumption log, 1): a step takes the front command and carries it out with the
queue's rest. -/
def Obligations.StepTakesFrontCommand : Prop :=
  ∀ (c : Instr) (rest : List Instr) (s : State),
    step { s with pending := c :: rest } = exec c { s with pending := rest }

/-- No command changes the queue of waiting commands, resets among them: the queue is the model's own (assumption log, 1)
and a reset keeps it (12). None is refused, and none faults while every access in a Channel Queue names a frame of the
pool (R1): that fault is the model's only one (assumption log, 5). -/
def Obligations.CommandsKeepQueueAndDoNotStop : Prop :=
  ∀ (c : Instr) (s : State), (∀ t, exec c s = .next t → t.pending = s.pending) ∧ (∀ r, exec c s ≠ .refused r) ∧
    ((∀ d : ChannelId, ∀ a ∈ (s.channel d).queue, a.frame < s.frames) → ∀ f, exec c s ≠ .fault f)

/-- The frame of every command: it changes only the blocks that `touches` lists for it, and no command changes the
model's clock (assumption log, 6). A command that `onlyPort` gives a port leaves the Link Port, Request Queue and
Translation Cache of the other three alone. That SUPPLY_FAIL reaches only the supply and the links, and what a reset
keeps, are the model's choices (assumption log, 22 and 12). -/
def Obligations.CommandsChangeOnlyTheirBlocks : Prop :=
  ∀ (c : Instr) (s t : State), exec c s = .next t → t.now = s.now ∧ (∀ b : Block, b ∉ touches c → b.same s t) ∧
    ∀ p, onlyPort c = some p → ∀ q, q ≠ p → samePort q s t

/-! ### What resets leave -/

/-- The values after power-on that the chapters give (R23, R46, R47, R48, R58, R71, R72, R107, R129, R148, R156,
R157, R162, R178, R181, R189, R191). -/
def Obligations.ResetLeavesStatedValues : Prop :=
  State.reset.device = .starting ∧ State.reset.mapUnit.clearNext = some 0 ∧
    (∀ p, let l := State.reset.link p
      l.link = .down ∧ l.state = .offline ∧ l.session = 0 ∧ l.disablePending = false ∧ l.cause = none ∧
        l.requestCredits = 0 ∧ l.requestReturns = 0 ∧ l.commandCredits = 0 ∧ l.commandReturns = 0 ∧
        l.completionCredits = 0 ∧ l.noticeCredits = 0 ∧ l.tags = [] ∧ l.commands = [] ∧ l.outbound = [] ∧
        l.notices = [] ∧ State.reset.queue p = [] ∧ State.reset.cache p = [] ∧
        State.reset.recalls.pendingLists.get p = [] ∧ State.reset.engine.held.get p = 0) ∧
    State.reset.mapUnit.queue = [] ∧ State.reset.mapUnit.reads = [] ∧ State.reset.mapUnit.repairs = [] ∧
    State.reset.walker.walks = [] ∧ State.reset.walker.retry = [] ∧
    State.reset.engine.freeList = [] ∧ State.reset.engine.claims = [] ∧ State.reset.engine.offers = [] ∧
    State.reset.engine.grantCounter = 0 ∧ State.reset.engine.pointer = 4 ∧ State.reset.engine.slot = none ∧
    State.reset.recalls.table = [] ∧ State.reset.recalls.counter = 0 ∧
    (∀ c, let ch := State.reset.channel c
      ch.queue = [] ∧ ch.round.start = 0 ∧ ch.round.used = Quad.all 0 ∧ ch.round.allowance = Quad.all 4 ∧
        ch.round.scrubUsed = false) ∧
    State.reset.scrub.phase = .idle ∧ State.reset.scrub.current = none ∧ State.reset.scrub.outstanding = 0 ∧
    State.reset.scrub.queue = List.range' 1 (State.reset.frames - 1) ∧
    State.reset.mgmt.buffer = .empty ∧ State.reset.mgmt.refused = none ∧
    State.reset.mgmt.settings = Settings.default ∧ State.reset.mgmt.log = [] ∧
    State.reset.mgmt.sequence = 0 ∧ State.reset.mgmt.alert = false ∧
    (∀ f, let r := State.reset.record f
      r.state = (if f = 0 then .reserved else .scrubbing) ∧ r.holder = none ∧ r.items = [] ∧ r.leave = none ∧
        r.quarantineOnExit = false ∧ r.damaged = false ∧ r.count = 0)

/-- POWER_ON, RESET_N_ASSERT, RESET_N_RELEASE and SUPPLY_FAIL (R46, R130, R158, R161, R178, R181, R189, R194). POWER_ON
gives every block its values after power-on for the population on the pins, whatever stood before; RESET_N low puts every
block at its reset values and holds the part; its release with supply valid begins start-up with MAP_CLEAR at line 0,
also after a POWER_ON with RESET_N low; SUPPLY_FAIL takes every link DOWN. While the part is held, every command but the
four changes nothing (assumption log, 3). The model's choices in it: DRAM that lists nothing after POWER_ON (4), the
message history kept (12), what SUPPLY_FAIL leaves and RESET_N does without supply (22), and the values of the blocks
that the chapters do not give (23). -/
def Obligations.PowerAndResetEventsSetEveryBlock : Prop :=
  let held (t : State) : Prop := t.operating = false ∧
    ∀ c, (∀ q, c ≠ .powerOn q) → (∀ q, c ≠ .resetNAssert q) → c ≠ .resetNRelease → c ≠ .supplyFail →
      exec c t = .next t
  (∀ (pins : BitVec 3) (s : State), ∃ t, exec (.powerOn pins) s = .next t ∧ t.supplyValid = true ∧
    t.resetAsserted = s.resetAsserted ∧ t.device = .starting ∧
    t.pop = { channels := pins.toNat % 4 + 1, channelSize := if pins.toNat < 4 then 4096 else 8192 } ∧
    (∀ p, t.link p = LinkPort.afterReset (s.link p).sent ∧ t.queue p = [] ∧ t.cache p = []) ∧
    t.walker = State.reset.walker ∧ t.engine = State.reset.engine ∧ t.recalls = State.reset.recalls ∧
    t.channels = State.reset.channels ∧ t.scrub = { State.reset.scrub with queue := List.range' 1 (t.frames - 1) } ∧
    t.mgmt = State.reset.mgmt ∧ t.flight = State.reset.flight ∧ t.dram = State.reset.dram ∧
    (s.resetAsserted = false → t.mapUnit = State.reset.mapUnit ∧ t.operating = true) ∧
    (s.resetAsserted = true → t.mapUnit = { State.reset.mapUnit with clearNext := none } ∧ held t)) ∧
  (∀ (pins : BitVec 3) (s : State), s.operating = true →
    ∃ t, exec (.resetNAssert pins) s = .next t ∧ held t ∧ t.supplyValid = true ∧ t.resetAsserted = true ∧
      t.device = .starting ∧ t.pop = Population.ofPins pins ∧
      (∀ p, t.link p = LinkPort.afterReset (s.link p).sent ∧ t.queue p = [] ∧ t.cache p = []) ∧
      (∀ c, t.channel c = Channel.afterReset (Quad.all 4)) ∧
      t.engine = Engine.afterReset ∧ t.recalls = RecallUnit.afterReset ∧ t.walker = Walker.afterReset ∧
      t.scrub = Scrub.afterReset t.frames ∧ t.mgmt = Mgmt.afterReset ∧ t.flight = InFlight.none ∧
      t.mapUnit = MapUnit.afterReset false) ∧
  (∀ (pins : BitVec 3) (s : State), s.operating = false →
    exec (.resetNAssert pins) s = .next { s with resetAsserted := true } ∧ held { s with resetAsserted := true }) ∧
  (∀ s : State, s.resetAsserted = true →
    (s.supplyValid = true → exec .resetNRelease s =
      .next { s with resetAsserted := false, mapUnit := MapUnit.afterReset true }) ∧
    (s.supplyValid = false → exec .resetNRelease s = .next { s with resetAsserted := false })) ∧
  (∀ s : State, ∃ t, exec .supplyFail s = .next t ∧ held t ∧ t.supplyValid = false ∧
    ∀ p, t.link p = { s.link p with link := .down })

/-- CHIP-RESET: settings, population and Fault Log stay, a CHIP_RESET record is appended, the result is OK, and
every block takes its reset value with the links forced DOWN and start-up begun (R188). That the message history stays,
and the reset values that the chapters do not give, are the model's choices (assumption log, 12 and 23). -/
def Obligations.ChipResetKeepsManagementState : Prop :=
  ∀ (id : Nat) (s : State), s.operating = true → (∀ i r, s.mgmt.buffer ≠ .running i r) →
    ∃ t, exec (.chipReset id) s = .next t ∧ t.operating = true ∧ t.device = .starting ∧ t.pop = s.pop ∧
      t.mgmt.settings = s.mgmt.settings ∧ t.mgmt.buffer = .ready id .chipReset .ok [] ∧ t.mgmt.refused = none ∧
      t.mgmt.log = (if s.mgmt.log.length < 32 then s.mgmt.log else s.mgmt.log.tail) ++
        [{ sequence := s.mgmt.sequence, info := .chipReset }] ∧
      t.mgmt.sequence = (s.mgmt.sequence + 1) % 65536 ∧ t.mgmt.alert = true ∧
      (∀ p, t.link p = LinkPort.afterReset (s.link p).sent ∧ t.queue p = [] ∧ t.cache p = []) ∧
      t.engine = Engine.afterReset ∧ t.recalls = RecallUnit.afterReset ∧ t.walker = Walker.afterReset ∧
      t.mapUnit = MapUnit.afterReset true ∧ (∀ c, t.channel c = Channel.afterReset s.mgmt.settings.weight) ∧
      t.scrub = Scrub.afterReset s.frames ∧ t.flight = InFlight.none

/-! ### Links and sessions -/

/-- The link's own events (R161, R163, R173) and RESET-PORT in a session: DOWN to TRAINING, TRAINING to UP with an
OFFLINE port IDLE, TRAINING to DOWN; at link DOWN an IDLE port becomes OFFLINE and loses the credits the host
granted, and an ATTACHED port is torn down with a LINK_LOST record. -/
def Obligations.LinkEventsMovePort : Prop :=
  ∀ (p : PortId) (s : State), s.operating = true → let l := s.link p
    (l.link = .down → exec (.farEndDetected p) s = .next (s.setLink p { l with link := .training })) ∧
    (l.link = .training → l.state = .offline →
      exec (.trainingCompletes p) s = .next (s.setLink p { l with link := .up, state := .idle })) ∧
    (l.link = .training → l.state ≠ .offline →
      exec (.trainingCompletes p) s = .next (s.setLink p { l with link := .up })) ∧
    (l.link = .training → exec (.trainingFails p) s = .next (s.setLink p { l with link := .down })) ∧
    (l.link = .up → l.state = .idle → exec (.linkDown p) s = .next (s.setLink p { l with
      link := .down, state := .offline, completionCredits := 0, noticeCredits := 0 })) ∧
    (l.link = .up → l.state ≠ .idle → l.state ≠ .attached →
      exec (.linkDown p) s = .next (s.setLink p { l with link := .down })) ∧
    (l.link = .up → l.state = .attached →
      (∃ t, exec (.linkDown p) s = .next t ∧
        teardownBegun p .linkLost (s.setLink p { l with link := .down }) t ∧
        t.flight = { s.flight with faults := s.flight.faults ++ [.linkLost p l.session] }) ∧
      ∃ t, exec (.resetPort p) s = .next t ∧ teardownBegun p .resetPort s t ∧ t.flight = s.flight)

/-- ATTACH by port state and device state (R164): a session opens in IDLE while the device is RUN, with the credits
and the ATTACH-ACK the rule gives; STARTING, BUSY and DISABLED answers change nothing but what was sent; in ATTACHED
it ends the session and opens none. The ATTACH-ACK that opens one carries port, session number, F, quota, the window
of 8,192 pages and the 32 and 4 credits. -/
def Obligations.AttachFollowsPortState : Prop :=
  ∀ (p : PortId) (s : State), s.operating = true → (s.link p).link = .up → let l := s.link p
    (l.state = .idle → s.device = .run →
      exec (.attach p) s = .next (s.setLink p { l with
        state := .attached, session := (l.session + 1) % 256, requestCredits := 32, requestReturns := 0,
        commandCredits := 4, commandReturns := 0, tags := [], commands := [], outbound := [], notices := [],
        sent := l.sent ++ [.attachAck p ((l.session + 1) % 256) s.frames (s.mgmt.settings.quota.get p)] })) ∧
    (l.state = .idle → s.device = .starting →
      exec (.attach p) s = .next (s.setLink p { l with sent := l.sent ++ [.attachRefused p .starting] })) ∧
    (l.state = .detaching →
      exec (.attach p) s = .next (s.setLink p { l with sent := l.sent ++ [.attachRefused p .busy] })) ∧
    (l.state = .disabled →
      exec (.attach p) s = .next (s.setLink p { l with sent := l.sent ++ [.attachRefused p .disabled] })) ∧
    (l.state = .attached →
      ∃ t, exec (.attach p) s = .next t ∧ teardownBegun p .protocol s t ∧ (t.link p).session = l.session) ∧
    (∀ session quota, (OutMsg.attachAck p session s.frames quota).bytes =
      [0x41, 0, 12, 0, 0, byte p.val, byte session, 0] ++ le16 s.frames ++ le16 quota ++ [0x00, 0x20, 32, 4])

/-- A protocol violation discards the message, hands the Fault Log one PROTOCOL record with the violation's kind
and begins teardown with cause PROTOCOL (R166, R192): a message out of its encoding, an ATTACH in session, a
request or command without credit or with an outstanding tag, a CREDIT past 255. That a command's number which does not
fit its field acts as a message out of its encoding is the model's choice (assumption log, 25). -/
def Obligations.ViolationsEndSession : Prop :=
  ∀ (p : PortId) (s : State), s.inSession p → let l := s.link p
    let broken (c : Instr) (k : Violation) : Prop :=
      ∃ t, exec c s = .next t ∧ teardownBegun p .protocol s t ∧
        t.flight = { s.flight with faults := s.flight.faults ++ [.protocol p l.session k] }
    (∀ bytes, parseHostMsg bytes = none → broken (.malformedMessage p bytes) .badEncoding) ∧
    broken (.attach p) .attachInSession ∧
    (∀ tag kind, (HostMsg.request tag kind).inEncoding = false →
      broken (requestCommand p tag kind) .badEncoding) ∧
    (∀ tag kind, (HostMsg.request tag kind).inEncoding = true → l.requestCredits = 0 →
      broken (requestCommand p tag kind) .noCredit) ∧
    (∀ tag kind, (HostMsg.request tag kind).inEncoding = true → l.requestCredits ≠ 0 → tag ∈ l.tags →
      broken (requestCommand p tag kind) .tagInUse) ∧
    (∀ tag cmd, (HostMsg.command tag cmd).inEncoding = false →
      broken (.commandArrival p tag cmd) .badEncoding) ∧
    (∀ tag cmd, (HostMsg.command tag cmd).inEncoding = true → l.commandCredits = 0 →
      broken (.commandArrival p tag cmd) .noCredit) ∧
    (∀ tag cmd, (HostMsg.command tag cmd).inEncoding = true → l.commandCredits ≠ 0 → tag ∈ l.tags →
      broken (.commandArrival p tag cmd) .tagInUse) ∧
    (∀ a b, a ≤ 255 → b ≤ 255 → 255 < l.completionCredits + a ∨ 255 < l.noticeCredits + b →
      broken (.credit p a b) .creditOverflow) ∧
    (∀ a b, 255 < a ∨ 255 < b → broken (.credit p a b) .badEncoding) ∧
    (∀ rid, 65535 < rid → broken (.recallAck p rid) .badEncoding)

/-- Pool commands, credits and stray messages (R163, R165, R166, R168, R192): a command that passes its checks uses
a command credit and joins the Command Queue's tail with its tag outstanding; CREDIT in IDLE and ATTACHED adds both
amounts, and is discarded whole where it would pass 255 in IDLE; outside a session requests, commands, RECALL-ACK,
RESET-PORT and malformed messages change nothing. -/
def Obligations.PortStateGatesMessages : Prop :=
  ∀ (p : PortId) (s : State), s.operating = true → (s.link p).link = .up → let l := s.link p
    (l.state = .attached → ∀ tag cmd, (HostMsg.command tag cmd).inEncoding = true → l.commandCredits ≠ 0 →
      tag ∉ l.tags →
      exec (.commandArrival p tag cmd) s = .next (s.setLink p { l with
        commandCredits := l.commandCredits - 1, tags := l.tags ++ [tag],
        commands := l.commands ++ [(tag, cmd)] })) ∧
    (l.state = .idle ∨ l.state = .attached → ∀ a b, l.completionCredits + a ≤ 255 → l.noticeCredits + b ≤ 255 →
      exec (.credit p a b) s = .next (s.setLink p { l with
        completionCredits := l.completionCredits + a, noticeCredits := l.noticeCredits + b })) ∧
    (l.state = .idle → ∀ a b, a ≤ 255 → b ≤ 255 → 255 < l.completionCredits + a ∨ 255 < l.noticeCredits + b →
      exec (.credit p a b) s = .next s) ∧
    (l.state = .detaching ∨ l.state = .disabled → ∀ a b, a ≤ 255 → b ≤ 255 → exec (.credit p a b) s = .next s) ∧
    (l.state ≠ .attached →
      (∀ tag kind, exec (requestCommand p tag kind) s = .next s) ∧
      (∀ tag cmd, exec (.commandArrival p tag cmd) s = .next s) ∧
      (∀ rid, rid ≤ 65535 → exec (.recallAck p rid) s = .next s) ∧ exec (.resetPort p) s = .next s ∧
      (∀ bytes, parseHostMsg bytes = none → exec (.malformedMessage p bytes) s = .next s))

/-- PORT-RESET, PORT-DISABLE and PORT-ENABLE by port state (R174): the effect and the result of each row of the
table. -/
def Obligations.PortRequestsFollowPortState : Prop :=
  ∀ (p : PortId) (id : Nat) (r : MgmtReq) (s : State), s.operating = true → s.mgmt.buffer = .running id r →
    let l := s.link p
    let answered (st : MgmtStatus) : Mgmt := { s.mgmt with portSlot := none, buffer := .ready id r st [] }
    (s.mgmt.portSlot = some (.reset p) →
      (l.state = .attached → ∃ t, exec .portReset s = .next t ∧ teardownBegun p .portReset s t ∧
        t.flight = s.flight ∧ t.mgmt = answered .ok) ∧
      (l.state ≠ .attached → exec .portReset s = .next (s.setMgmt (answered .wrongState)))) ∧
    (s.mgmt.portSlot = some (.disable p) →
      (l.state = .attached → ∃ t, exec .portDisable s = .next t ∧
        teardownBegun p .portDisable (s.setLink p { l with disablePending := true }) t ∧
        t.flight = s.flight ∧ t.mgmt = answered .ok) ∧
      (l.state = .detaching → exec .portDisable s =
        .next ((s.setMgmt (answered .ok)).setLink p { l with disablePending := true })) ∧
      (l.state = .idle ∨ l.state = .offline → exec .portDisable s = .next ((s.setMgmt (answered .ok)).setLink p
        { l with state := .disabled, completionCredits := 0, noticeCredits := 0 })) ∧
      (l.state = .disabled → exec .portDisable s = .next (s.setMgmt (answered .ok)))) ∧
    (s.mgmt.portSlot = some (.enable p) →
      (l.state = .disabled → exec .portEnable s = .next ((s.setMgmt (answered .ok)).setLink p
        { l with state := if l.link = .up then .idle else .offline })) ∧
      (l.state = .detaching → exec .portEnable s =
        .next ((s.setMgmt (answered .ok)).setLink p { l with disablePending := false })) ∧
      (l.state = .offline ∨ l.state = .idle ∨ l.state = .attached →
        exec .portEnable s = .next (s.setMgmt (answered .wrongState))))

/-- A RECALL-ACK of a NOTIFIED record of its port cancels the deadline, removes an unsent notice, moves the record to
UNMAPPING and asks for its invalid write; any other is discarded and changes nothing (R95, R96). -/
def Obligations.RecallAckUnmapsOrIsDiscarded : Prop :=
  ∀ (p : PortId) (s : State), s.operating = true → (s.link p).link = .up →
    (∀ rid, rid ≤ 65535 → (s.link p).state ≠ .attached ∨
        (∀ r ∈ s.recalls.table, r.recallId = rid → r.port = p → r.phase ≠ .notified) →
      exec (.recallAck p rid) s = .next s) ∧
    (∀ r : RecallRecord, r.recallId ≤ 65535 → (s.link p).state = .attached → s.recordById r.recallId = some r → r.port = p →
      r.phase = .notified →
      ∃ t, exec (.recallAck p r.recallId) s = .next t ∧
        t.recordById r.recallId = some { r with phase := .unmapping, deadline := none } ∧
        t.writeAsked { port := p, hpn := r.hpn, value := .invalid, producer := .unmap r.recallId } ∧
        (r.recallId ∉ s.recalls.pendingLists.get p → ∀ n ∈ (t.link p).notices, n.isRecall r.recallId = false) ∧
        t.link p = { s.link p with notices := (t.link p).notices } ∧
        t.flight = s.flight ∧ t.engine = s.engine ∧ (∀ q, q ≠ p → samePort q s t) ∧
        t.queue p = s.queue p ∧ t.cache p = s.cache p)

/-! ### Memory requests -/

/-- The bounds check as R110 lists it, and what it leads to: a READ, WRITE or CSWAP that fails it is DONE with BOUNDS
at once, is not translated, reaches no channel, and its completion is handed over (R110, R123, R125). -/
def Obligations.OutOfBoundsRequestEndsBounds : Prop :=
  (∀ (cls : ReqClass) (hpn line count granule : Nat) (mask : Option (List Bool)) (data cmp new : List Byte),
    (outOfBounds (.read cls hpn line count) = true ↔
      8191 < hpn ∨ 32767 < line ∨ count = 0 ∨ 4 < count ∨ 32767 < line + count - 1) ∧
    (outOfBounds (.write cls hpn line count mask data) = true ↔
      8191 < hpn ∨ 32767 < line ∨ count = 0 ∨ 4 < count ∨ 32767 < line + count - 1) ∧
    (outOfBounds (.cswap cls hpn line granule cmp new) = true ↔ 8191 < hpn ∨ 32767 < line) ∧
    outOfBounds .fence = false ∧ outOfBounds .flush = false ∧ outOfBounds .detach = false) ∧
  ∀ (p : PortId) (tag : Nat) (kind : ReqKind) (s : State), s.takesRequest p tag kind → outOfBounds kind = true →
    ∃ t, exec (requestCommand p tag kind) s = .next t ∧
      (t.queue p).getLast? = some { tag := tag, kind := kind, state := .done .bounds Gathered.nothing } ∧
      (t.link p).outbound.getLast? =
        some { tag := tag, status := .bounds, payload := .none, answers := .request } ∧
      (t.link p).requestCredits = (s.link p).requestCredits - 1 ∧ (t.link p).tags = (s.link p).tags ++ [tag] ∧
      t.caches = s.caches ∧ t.walker = s.walker ∧ t.mapUnit = s.mapUnit ∧ t.channels = s.channels ∧
      (∀ q, q ≠ p → samePort q s t)

/-- A request that hits in the Translation Cache takes the access check: it is BOUND to the frame, or DONE with
PROTECTION when it writes through a READ mapping; the hit entry becomes the most recent (R40, R43, R44). -/
def Obligations.CacheHitBindsOrFails : Prop :=
  ∀ (p : PortId) (tag : Nat) (kind : ReqKind) (pl : Place) (c : CacheEntry) (s : State),
    s.takesRequest p tag kind → outOfBounds kind = false → placeOf kind = some pl →
    (s.cache p).find? (fun c => c.hpn == pl.hpn) = some c →
    ∃ t, exec (requestCommand p tag kind) s = .next t ∧
      (c.access = .readWrite ∨ isWriting kind = false →
        (t.queue p).getLast? = some { tag := tag, kind := kind, state := .bound c.frame }) ∧
      (c.access = .read → isWriting kind = true →
        (t.queue p).getLast? = some { tag := tag, kind := kind, state := .done .protection Gathered.nothing } ∧
        (t.link p).outbound.getLast? =
          some { tag := tag, status := .protection, payload := .none, answers := .request }) ∧
      t.cache p = c :: (s.cache p).filter (fun c' => !(c'.hpn == pl.hpn)) ∧
      (t.link p).requestCredits = (s.link p).requestCredits - 1 ∧ (t.link p).tags = (s.link p).tags ++ [tag] ∧
      t.walker.walks = s.walker.walks ∧ t.mapUnit = s.mapUnit ∧ t.channels = s.channels ∧
      (∀ q, q ≠ p → samePort q s t)

/-- A request that misses joins the walk of its page, or creates one and asks for a map read, or waits on the retry
list when the Walk Queue is full (R36, R38, R43). -/
def Obligations.CacheMissWalks : Prop :=
  ∀ (p : PortId) (tag : Nat) (kind : ReqKind) (pl : Place) (s : State),
    s.takesRequest p tag kind → outOfBounds kind = false → placeOf kind = some pl →
    (s.cache p).find? (fun c => c.hpn == pl.hpn) = none →
    ∃ t, exec (requestCommand p tag kind) s = .next t ∧ t.cache p = s.cache p ∧ t.channels = s.channels ∧
      (t.link p).requestCredits = (s.link p).requestCredits - 1 ∧ (t.link p).tags = (s.link p).tags ++ [tag] ∧
      (∀ q, q ≠ p → samePort q s t) ∧
      (s.hasWalk p pl.hpn = true →
        (t.queue p).getLast? = some { tag := tag, kind := kind, state := .walking } ∧
        t.walker.walks = s.walker.walks ∧ t.mapUnit = s.mapUnit) ∧
      (s.hasWalk p pl.hpn = false → s.walker.walks.length < 8 →
        (t.queue p).getLast? = some { tag := tag, kind := kind, state := .walking } ∧
        t.walker.walks = s.walker.walks ++ [{ port := p, hpn := pl.hpn, stale := false }] ∧
        t.mapUnit.reads = s.mapUnit.reads ++
          [{ port := p, hpn := pl.hpn, issued := false, arrival := s.mapUnit.arrivals }]) ∧
      (s.hasWalk p pl.hpn = false → 8 ≤ s.walker.walks.length →
        (t.queue p).getLast? = some { tag := tag, kind := kind, state := .waiting } ∧
        (p, tag) ∈ t.walker.retry ∧ t.walker.walks = s.walker.walks ∧ t.mapUnit = s.mapUnit)

/-- FENCE, DETACH and FLUSH (R110, R118, R119, R120, R123). At its arrival a FENCE or DETACH is DONE when every earlier
entry is DONE, a FLUSH when every earlier WRITE and CSWAP is; otherwise it waits. In the event of a line result that
completes an entry of a session, or of a map read result, the waiting ones become DONE by the same conditions and no
sooner, and the completions of all the entries that the event made DONE are handed over in acceptance order. -/
def Obligations.OrderingRequestsWaitForEarlierOnes : Prop :=
  (∀ (p : PortId) (tag : Nat) (kind : ReqKind) (s : State), s.takesRequest p tag kind →
    let done : ReqEntry := { tag := tag, kind := kind, state := .done .ok Gathered.nothing }
    let waits : ReqEntry := { tag := tag, kind := kind, state := .waiting }
    (kind = .fence ∨ kind = .detach →
      ((s.queue p).all ReqEntry.isDone = true →
        ∃ t, exec (requestCommand p tag kind) s = .next t ∧ t.queue p = s.queue p ++ [done] ∧
          (t.link p).outbound = (s.link p).outbound ++
            [{ tag := tag, status := .ok, payload := .none, answers := completionOf kind }]) ∧
      ((∃ e ∈ s.queue p, e.isDone = false ∧ (placeOf e.kind).isSome) →
        ∃ t, exec (requestCommand p tag kind) s = .next t ∧ (t.queue p).getLast? = some waits)) ∧
    (kind = .flush →
      ((∀ e ∈ s.queue p, isWriting e.kind = true → e.isDone = true) →
        ∃ t, exec (requestCommand p tag kind) s = .next t ∧ (t.queue p).getLast? = some done) ∧
      ((∃ e ∈ s.queue p, isWriting e.kind = true ∧ e.isDone = false) →
        ∃ t, exec (requestCommand p tag kind) s = .next t ∧ (t.queue p).getLast? = some waits))) ∧
  (∀ (p : PortId) (e : ReqEntry) (pl : Place) (f g n : Nat) (got : Gathered) (r : LineResult) (s : State),
    s.operating = true → (s.link p).state = .attached → s.entry p r.tag = some e → placeOf e.kind = some pl →
    e.state = .issued f g n got → pl.count ≤ n + 1 → ((s.queue p).map ReqEntry.tag).Nodup →
    s.nextLineResult p r.tag r.line = some r →
    ∃ t, exec (.lineResult p r.tag r.line) s = .next t ∧ orderingFollows (s.queue p) (t.queue p) ∧
      handedInOrder p s t) ∧
  ∀ (p : PortId) (hpn : Nat) (r : MapResult) (s : State), s.operating = true →
    s.flight.mapResults.find? (fun r => r.port == p && r.hpn == hpn) = some r →
    (∀ q, ((s.queue q).map ReqEntry.tag).Nodup) →
    ∃ t, exec (.mapReadResult p hpn) s = .next t ∧ ∀ q, orderingFollows (s.queue q) (t.queue q) ∧
      ((s.link q).state = .attached → handedInOrder q s t)

/-- The Request Unit takes the result of a line (R113, R114, R125): a line read puts its 64 bytes at the line's offset, an
uncorrectable one 64 zero bytes and its index among the failed lines, ascending; a partial write that was not done joins
the failed lines; a compare-swap gives its old value and outcome. Before the last result the entry stays ISSUED with one
more. At the last it leaves ISSUED: in a session it is DONE, POISONED if a line failed and OK otherwise, and its
completion carries what R125 lists; in DETACHING it is discarded without a completion (R128). The Recall Unit is told: while
another entry of the port is ISSUED to the frame no record changes (recall ids being distinct, R87), and with none left the
DRAINING record of the port and frame completes or is marked drained (R102, R103). A result behind an earlier one of the same line is not taken before it (R134). -/
def Obligations.LineResultsCompleteEntry : Prop :=
  ∀ (p : PortId) (e : ReqEntry) (pl : Place) (f g n : Nat) (got : Gathered) (r : LineResult)
    (before after : List LineResult) (s : State),
    s.operating = true → s.entry p r.tag = some e → placeOf e.kind = some pl →
    e.state = .issued f g n got → ((s.queue p).map ReqEntry.tag).Nodup →
    s.flight.lineResults.get p = before ++ r :: after → (∀ x ∈ before, ¬(x.tag = r.tag ∧ x.line = r.line)) →
    ((∃ x ∈ before, x.frame = r.frame ∧ x.line = r.line) → exec (.lineResult p r.tag r.line) s = .next s) ∧
    ((∀ x ∈ before, ¬(x.frame = r.frame ∧ x.line = r.line)) →
      ∃ t got', exec (.lineResult p r.tag r.line) s = .next t ∧
        (∀ b, r.outcome = .clean b ∨ r.outcome = .corrected b →
          got' = { got with lines := got.lines.set (r.line - pl.line) b }) ∧
        (r.outcome = .written → got' = got) ∧
        (∀ old swapped, r.outcome = .swap old swapped → got' = { got with swap := some (old, swapped) }) ∧
        (r.outcome = .uncorrectable →
          got'.lines = got.lines.set (r.line - pl.line) (List.replicate 64 0) ∧ got'.swap = got.swap ∧
          (∀ x, x ∈ got'.failed ↔ x = r.line ∨ x ∈ got.failed) ∧
          (got.failed.Pairwise (· < ·) → got'.failed.Pairwise (· < ·))) ∧
        (n + 1 < pl.count → t.entry p r.tag = some { e with state := .issued f g (n + 1) got' } ∧
          t.links = s.links ∧ t.recalls = s.recalls) ∧
        (pl.count ≤ n + 1 →
          ((s.link p).state = .attached →
            let handed (st : Status) (x : Payload) : Prop :=
              { tag := r.tag, status := st, payload := x, answers := .request } ∈ (t.link p).outbound
            t.entry p r.tag = some { e with state := .done (if got'.failed = [] then .ok else .poisoned) got' } ∧
            (∀ cls h l k, e.kind = .read cls h l k →
              (got'.failed = [] → handed .ok (.readData got'.lines.flatten)) ∧
              (got'.failed ≠ [] → handed .poisoned (.readDataFailed got'.lines.flatten got'.failed))) ∧
            (∀ cls h l k m d, e.kind = .write cls h l k m d →
              (got'.failed = [] → handed .ok .none) ∧
              (got'.failed ≠ [] → handed .poisoned (.failedLines got'.failed))) ∧
            (∀ cls h l k cmp new, e.kind = .cswap cls h l k cmp new →
              (∀ old swapped, got'.failed = [] → got'.swap = some (old, swapped) → handed .ok (.swap old swapped)) ∧
              (got'.failed ≠ [] → handed .poisoned .none))) ∧
          ((s.link p).state = .detaching → t.queue p = (s.queue p).filter (fun x => !(x.tag == r.tag)) ∧
            (t.link p).outbound = (s.link p).outbound) ∧
          ((s.recalls.table.map RecallRecord.recallId).Nodup → (∃ x ∈ t.queue p, x.issuedTo f = true) →
            t.recalls = s.recalls) ∧
          (∀ d, s.recalls.table.find? (fun x => x.port == p && x.frame == f) = some d →
            s.recordById d.recallId = some d → d.phase = .draining → (∀ x ∈ t.queue p, x.issuedTo f = false) →
            (d.role = .reader ∨ (s.record f).hasReader = false → d.recallId ∈ t.recalls.reported) ∧
            (d.role = .holder → (s.record f).hasReader = true →
              t.recordById d.recallId = some { d with drained := some true }))) ∧
        t.dram = s.dram ∧ t.channels = s.channels ∧ (∀ q, q ≠ p → samePort q s t))

/-- The arbiter's grant of a port sends one line (R112, R115, R116, R118, R120, R121). An entry is eligible for a channel
exactly when it is BOUND or ISSUED to a frame on the channel with a line not yet granted, no earlier FENCE is WAITING and
no DETACH is earlier (assumption log, 31), and every earlier entry that touches its next line is DONE or has that line
granted. Of the eligible entries the first URGENT one, or without any URGENT one the first, sends its next line: a READ a
read, a WRITE a full write, or a partial write when a mask leaves an enable of the line clear, a CSWAP a compare-swap.
The entry is then ISSUED with one more line granted; a READ's gathers, from its first grant on, one place of 64 bytes for
each of its lines (R113, R125). -/
def Obligations.PortGrantSendsOneLine : Prop :=
  (∀ (c : ChannelId) (p : PortId) (s : State), (eligible s c p).Sublist (s.queue p) ∧
    ∀ e, e ∈ eligible s c p ↔ ∃ (earlier later : List ReqEntry) (pl : Place) (f l : Nat),
      s.queue p = earlier ++ e :: later ∧ placeOf e.kind = some pl ∧ f % s.pop.channels = c.val ∧
      ((e.state = .bound f ∧ l = pl.line) ∨
        ∃ g n got, e.state = .issued f g n got ∧ g < pl.count ∧ l = pl.line + g) ∧
      ∀ b ∈ earlier, b.kind ≠ .detach ∧ (b.kind = .fence → b.state ≠ .waiting) ∧
        ∀ bl, placeOf b.kind = some bl → bl.hpn = pl.hpn → bl.line ≤ l → l < bl.line + bl.count →
          b.isDone = true ∨ ∃ h g n got, b.state = .issued h g n got ∧ l < bl.line + g) ∧
  ∀ (c : ChannelId) (p : PortId) (round : Round) (e : ReqEntry) (earlier later : List ReqEntry) (f l : Nat)
    (pl : Place) (s : State), s.operating = true → s.granted c (.port p) = some round →
    eligible s c p = earlier ++ e :: later → placeOf e.kind = some pl →
    ((e.state = .bound f ∧ l = pl.line) ∨ ∃ g n got, e.state = .issued f g n got ∧ l = pl.line + g) →
    (isUrgent e.kind = true ∧ (∀ x ∈ earlier, isUrgent x.kind = false)) ∨
      (earlier = [] ∧ ∀ x ∈ e :: later, isUrgent x.kind = false) →
    ((s.queue p).map ReqEntry.tag).Nodup →
    let k := l - pl.line
    ∃ t kind, exec (.portAccessGrant c p) s = .next t ∧
      t.channel c = {
        queue := (s.channel c).queue ++ [{ owner := .port p e.tag, frame := f, line := l, kind := kind }],
        round := round } ∧
      (∀ cls h a n, e.kind = .read cls h a n → kind = .read) ∧
      (∀ cls h a n data, e.kind = .write cls h a n none data → kind = .fullWrite ((data.drop (64 * k)).take 64)) ∧
      (∀ cls h a n mask data, e.kind = .write cls h a n (some mask) data →
        let enables := (mask.drop (64 * k)).take 64
        ((∀ b ∈ enables, b = true) → kind = .fullWrite ((data.drop (64 * k)).take 64)) ∧
        ((∃ b ∈ enables, b = false) → kind = .partialWrite ((data.drop (64 * k)).take 64) enables)) ∧
      (∀ cls h a g cmp new, e.kind = .cswap cls h a g cmp new → kind = .cswap g cmp new) ∧
      (∀ g, e.state = .bound g → ∃ got, got.failed = [] ∧ got.swap = none ∧
        (∀ cls h a n, e.kind = .read cls h a n → got.lines.length = n ∧ ∀ b ∈ got.lines, b.length = 64) ∧
        t.entry p e.tag = some { e with state := .issued f 1 0 got }) ∧
      (∀ g n k got, e.state = .issued g n k got →
        t.entry p e.tag = some { e with state := .issued f (n + 1) k got }) ∧
      (∀ x ∈ s.queue p, x.tag ≠ e.tag → x ∈ t.queue p) ∧ (t.queue p).length = (s.queue p).length ∧
      (∀ d, d ≠ c → t.channel d = s.channel d) ∧ t.links = s.links ∧ t.caches = s.caches ∧ t.dram = s.dram ∧
      t.flight = s.flight ∧ (∀ q, q ≠ p → samePort q s t)

/-! ### Command service -/

/-- A CLAIM that is not granted at once (R49, R55, R56, R58): refused with the status of the first check that fails,
changing nothing else, or parked at the Claim Queue's tail with its deadline. -/
def Obligations.ClaimIsRefusedOrParks : Prop :=
  ∀ (p : PortId) (tag hpn n : Nat) (s : State), s.servesCommand p tag (.claim hpn n) →
    let bounds := n = 0 ∨ 16 < n ∨ 8191 < hpn + n - 1
    let conflict := ∃ k, k < n ∧ s.occupied p (hpn + k) = true
    let quota := s.mgmt.settings.quota.get p < s.engine.held.get p + s.parked p + n
    let atOnce := s.engine.claims = [] ∧ n ≤ s.engine.freeList.length
    (bounds → exec (.claim p) s = .next (s.refused p tag .bounds)) ∧
    (¬bounds → conflict → exec (.claim p) s = .next (s.refused p tag .conflict)) ∧
    (¬bounds → ¬conflict → quota → exec (.claim p) s = .next (s.refused p tag .quota)) ∧
    (¬bounds → ¬conflict → ¬quota → ¬atOnce →
      (s.mgmt.settings.claimMs = 0 → exec (.claim p) s = .next (s.refused p tag .noFrames)) ∧
      (s.mgmt.settings.claimMs ≠ 0 → 8 ≤ s.engine.claims.length →
        exec (.claim p) s = .next (s.refused p tag .busy)) ∧
      (s.mgmt.settings.claimMs ≠ 0 → s.engine.claims.length < 8 →
        exec (.claim p) s = .next ((s.setLink p ((s.link p).tookCommand [])).setEngine { s.engine.tookCommand p with
          claims := s.engine.claims ++ [{
            port := p, tag := tag, hpn := hpn, count := n, deadline := s.now + s.mgmt.settings.claimMs }] })))

/-- A CLAIM granted at once (R7, R17, R56, R57): the first n frames of the Free List leave it and become HELD by the
port with one HOLDER item each, at consecutive host pages; held rises by n; one valid map write per frame is asked
for; no completion yet. -/
def Obligations.ClaimGrantLendsFrames : Prop :=
  ∀ (p : PortId) (tag hpn n : Nat) (s : State), s.servesCommand p tag (.claim hpn n) →
    claimRefusal p hpn n s = none → s.engine.claims = [] → n ≤ s.engine.freeList.length →
    (s.engine.freeList.take n).Nodup →
    ∃ t, exec (.claim p) s = .next t ∧ t.link p = (s.link p).tookCommand [] ∧
      t.engine.freeList = s.engine.freeList.drop n ∧
      t.engine.held = s.engine.held.set p (s.engine.held.get p + n) ∧
      (∀ k f, k < n → s.engine.freeList[k]? = some f →
        t.record f = { s.record f with
          state := .held, holder := some p, leave := none, quarantineOnExit := false,
          items := [{ port := p, hpn := hpn + k, access := .readWrite, role := .holder, phase := .active }] } ∧
        t.writeAsked { port := p, hpn := hpn + k, value := .valid f .readWrite, producer := .claim p tag }) ∧
      (∀ f, f ∉ s.engine.freeList.take n → t.record f = s.record f) ∧
      t.engine.offers = s.engine.offers ∧ t.recalls = s.recalls ∧ (∀ q, q ≠ p → samePort q s t)

/-- The checks that RELEASE, DROP, GRANT and REVOKE begin with (R64, R68, R73, R82): BOUNDS, NOT_MAPPED, LEAVING and
ROLE, in that order. A refused command is taken, answered, and changes nothing else (R49). -/
def Obligations.ItemCommandsRefuseInOrder : Prop :=
  ∀ (p : PortId) (tag hpn : Nat) (s : State),
    let refuses (c : Instr) (owned : Role) : Prop :=
      (8191 < hpn → exec c s = .next (s.refused p tag .bounds)) ∧
      (hpn ≤ 8191 → s.itemAt p hpn = none → exec c s = .next (s.refused p tag .notMapped)) ∧
      (∀ f i, hpn ≤ 8191 → s.itemAt p hpn = some (f, i) →
        (i.phase = .leaving → exec c s = .next (s.refused p tag .leaving)) ∧
        (i.phase = .active → i.role ≠ owned → exec c s = .next (s.refused p tag .role)))
    (s.servesCommand p tag (.release hpn) → refuses (.release p) .holder) ∧
    (s.servesCommand p tag (.drop hpn) → refuses (.drop p) .reader) ∧
    (∀ target a, s.servesCommand p tag (.grant hpn target a) → refuses (.grant p) .holder) ∧
    (∀ target, s.servesCommand p tag (.revoke hpn target) → refuses (.revoke p) .holder)

/-- The later checks of GRANT, REVOKE, ACCEPT and DECLINE (R73, R76, R78, R82): BAD_PORT, TARGET_GONE, DUPLICATE and
BUSY; the target's LEAVING item or nothing to revoke; STALE_GRANT, BOUNDS and CONFLICT. -/
def Obligations.TargetsAndOffersAreChecked : Prop :=
  ∀ (p : PortId) (tag : Nat) (s : State),
    (∀ hpn target f i, hpn ≤ 8191 → s.itemAt p hpn = some (f, i) → i.phase = .active → i.role = .holder →
      (∀ a, s.servesCommand p tag (.grant hpn target a) →
        (target = p.val ∨ 3 < target → exec (.grant p) s = .next (s.refused p tag .badPort)) ∧
        (∀ q : PortId, q.val = target → q ≠ p →
          ((s.link q).state ≠ .attached → exec (.grant p) s = .next (s.refused p tag .targetGone)) ∧
          ((s.link q).state = .attached → (s.record f).itemOf q ≠ none ∨ s.offerOn f q ≠ none →
            exec (.grant p) s = .next (s.refused p tag .duplicate)) ∧
          ((s.link q).state = .attached → (s.record f).itemOf q = none → s.offerOn f q = none →
            16 ≤ s.engine.offers.length ∨ 32 ≤ (s.link q).notices.length →
            exec (.grant p) s = .next (s.refused p tag .busy)))) ∧
      (s.servesCommand p tag (.revoke hpn target) →
        (target = p.val ∨ 3 < target → exec (.revoke p) s = .next (s.refused p tag .badPort)) ∧
        (∀ q : PortId, q.val = target → q ≠ p →
          (∀ j, (s.record f).itemOf q = some j → j.phase = .leaving →
            exec (.revoke p) s = .next (s.refused p tag .leaving)) ∧
          ((s.record f).itemOf q = none → s.offerOn f q = none →
            exec (.revoke p) s = .next (s.refused p tag .notMapped))))) ∧
    (∀ gid hpn, s.servesCommand p tag (.accept gid hpn) →
      (s.offerTo p gid = none → exec (.accept p) s = .next (s.refused p tag .staleGrant)) ∧
      (∀ o, s.offerTo p gid = some o →
        (8191 < hpn → exec (.accept p) s = .next (s.refused p tag .bounds)) ∧
        (hpn ≤ 8191 → s.occupied p hpn = true → exec (.accept p) s = .next (s.refused p tag .conflict)))) ∧
    (∀ gid, s.servesCommand p tag (.decline gid) → s.offerTo p gid = none →
      exec (.decline p) s = .next (s.refused p tag .staleGrant))

/-- An accepted RELEASE (R10, R65, R80, R90): the frame is RECALLING with the RELEASE's tag, every item is LEAVING,
each ACTIVE item has one new record (no notify for the holder's, notify for the readers'), and every offer on the frame is
withdrawn: its GRANT completes WITHDRAWN and its target is informed. -/
def Obligations.ReleaseRecallsFrame : Prop :=
  ∀ (p : PortId) (tag hpn f : Nat) (i : MapItem) (s : State), s.servesCommand p tag (.release hpn) →
    hpn ≤ 8191 → s.itemAt p hpn = some (f, i) → i.phase = .active → i.role = .holder →
    1 + (s.record f).activeReaders.length ≤ s.freeRecords →
    ∃ t, exec (.release p) s = .next t ∧ (t.link p).commands = (s.link p).commands.tail ∧
      t.record f = { s.record f with
        state := .recalling, leave := some (.release tag), quarantineOnExit := false,
        items := (s.record f).items.map fun i => { i with phase := .leaving } } ∧
      (∀ g, g ≠ f → t.record g = s.record g) ∧
      (t.recalls.table.drop s.recalls.table.length).map
          (fun r => (r.frame, r.port, r.hpn, r.role, r.reason, r.notify)) =
        (s.record f).activeItems.map
          (fun i => (f, i.port, i.hpn, i.role, RecallReason.release, decide (i.role = .reader))) ∧
      offersWithdrawn f s t ∧ t.engine.held = s.engine.held ∧
      t.engine.freeList = s.engine.freeList ∧ t.queue p = s.queue p

/-- An accepted DROP (R69, R90): the reader's item is LEAVING with one record of reason DROP that asks for its
invalid write at once; the frame's state, holder and held counts stay. -/
def Obligations.DropRecallsOwnItem : Prop :=
  ∀ (p : PortId) (tag hpn f : Nat) (i : MapItem) (s : State), s.servesCommand p tag (.drop hpn) →
    sparseWf FrameRecord.afterReset s.engine.directory = true →
    hpn ≤ 8191 → s.itemAt p hpn = some (f, i) → i.phase = .active → i.role = .reader → 1 ≤ s.freeRecords →
    ∃ t, exec (.drop p) s = .next t ∧ t.link p = (s.link p).tookCommand [] ∧
      t.record f = (s.record f).turnLeaving p ∧ (∀ g, g ≠ f → t.record g = s.record g) ∧
      t.recalls.table = s.recalls.table ++
        [{ recallId := s.recalls.counter, frame := f, port := p, hpn := i.hpn, role := .reader, reason := .drop,
           notify := false, phase := .unmapping, noticeSent := none, deadline := none,
           origin := some (p, tag), drained := none }] ∧
      t.writeAsked { port := p, hpn := i.hpn, value := .invalid, producer := .unmap s.recalls.counter } ∧
      t.engine.held = s.engine.held ∧ (∀ q, q ≠ p → samePort q s t)

/-- An accepted GRANT (R72, R74): an offer with the counter's value as its grant id and the offer timeout as its
deadline, and an OFFER notice at the tail of the target's queue; the frame does not change and no completion is
handed over. The counter goes on to a value that no offer of the table holds. -/
def Obligations.GrantMakesOffer : Prop :=
  ∀ (p q : PortId) (tag hpn f : Nat) (a : Access) (i : MapItem) (s : State),
    s.servesCommand p tag (.grant hpn q.val a) → hpn ≤ 8191 → s.itemAt p hpn = some (f, i) →
    i.phase = .active → i.role = .holder → q ≠ p → (s.link q).state = .attached →
    (s.record f).itemOf q = none → s.offerOn f q = none →
    s.engine.offers.length < 16 → (s.link q).notices.length < 32 →
    ∃ t, exec (.grant p) s = .next t ∧ t.link p = (s.link p).tookCommand [] ∧
      t.link q = { s.link q with
        notices := (s.link q).notices ++ [.offer s.engine.grantCounter p hpn a] } ∧
      t.engine.offers = s.engine.offers ++
        [{ grantId := s.engine.grantCounter, frame := f, fromPort := p, tag := tag, fromHpn := hpn, toPort := q,
           access := a, deadline := s.now + s.mgmt.settings.offerMs, sent := false }] ∧
      t.engine.grantCounter < 65536 ∧ (∀ o ∈ t.engine.offers, o.grantId ≠ t.engine.grantCounter) ∧
      t.engine.directory = s.engine.directory ∧ t.engine.held = s.engine.held ∧ t.recalls = s.recalls ∧
      t.mapUnit = s.mapUnit ∧ (∀ x, x ≠ p → x ≠ q → samePort x s t)

/-- ACCEPT and DECLINE of an offer (R8, R77, R78). ACCEPT: the frame gains the port's READER item and is SHARED if it
was HELD, the offer and its unsent notice are gone, the valid map write is asked for, no completion is handed over
yet. DECLINE: the offer and its unsent notice are gone, the GRANT completes DECLINED with the grant id and the DECLINE
OK, and the directory does not change. -/
def Obligations.AcceptAddsReaderAndDeclineEndsOffer : Prop :=
  ∀ (p : PortId) (tag gid hpn : Nat) (o : Offer) (s : State), s.offerTo p gid = some o →
    (s.servesCommand p tag (.accept gid hpn) → hpn ≤ 8191 → s.occupied p hpn = false →
      ∃ t, exec (.accept p) s = .next t ∧ (t.link p).commands = (s.link p).commands.tail ∧
        (t.link p).outbound = (s.link p).outbound ∧
        t.record o.frame = { s.record o.frame with
          items := insertItem { port := p, hpn := hpn, access := o.access, role := .reader, phase := .active }
            (s.record o.frame).items,
          state := if (s.record o.frame).state = .held then .shared else (s.record o.frame).state } ∧
        (∀ g, g ≠ o.frame → t.record g = s.record g) ∧
        (∀ x ∈ t.engine.offers, x.grantId ≠ gid) ∧ (∀ n ∈ (t.link p).notices, n.isOffer gid = false) ∧
        t.writeAsked {
          port := p, hpn := hpn, value := .valid o.frame o.access,
          producer := .accept p tag o.fromPort o.tag gid } ∧
        t.engine.held = s.engine.held ∧ t.queue p = s.queue p ∧ (∀ q, q ≠ p → samePort q s t)) ∧
    (s.servesCommand p tag (.decline gid) → o.fromPort ≠ p →
      ∃ t, exec (.decline p) s = .next t ∧ (t.link p).commands = (s.link p).commands.tail ∧
        (t.link p).outbound = (s.link p).outbound ++ [commandCompletion tag .ok] ∧
        ((s.link o.fromPort).state = .attached → t.link o.fromPort = { s.link o.fromPort with
          outbound := (s.link o.fromPort).outbound ++ [grantCompletion o.tag .declined gid] }) ∧
        ((s.link o.fromPort).state ≠ .attached → t.link o.fromPort = s.link o.fromPort) ∧
        t.engine.offers = s.engine.offers.filter (fun x => !(x.grantId == gid)) ∧
        (∀ n ∈ (t.link p).notices, n.isOffer gid = false) ∧
        t.engine.directory = s.engine.directory ∧ t.mapUnit = s.mapUnit ∧
        (∀ x, x ≠ p → x ≠ o.fromPort → samePort x s t))

/-- An accepted REVOKE (R83, R84, R90, R91): an ACTIVE reader's item turns LEAVING with a REVOKE record that
notifies; an offer is withdrawn, its GRANT completing WITHDRAWN before the REVOKE completes OK. -/
def Obligations.RevokeTakesShareAway : Prop :=
  ∀ (p q : PortId) (tag hpn f : Nat) (i : MapItem) (s : State),
    s.servesCommand p tag (.revoke hpn q.val) → hpn ≤ 8191 → s.itemAt p hpn = some (f, i) →
    i.phase = .active → i.role = .holder → q ≠ p →
    (∀ j, (s.record f).itemOf q = some j → j.phase = .active → 1 ≤ s.freeRecords →
      ∃ t, exec (.revoke p) s = .next t ∧ t.link p = (s.link p).tookCommand [] ∧
        t.record f = (s.record f).turnLeaving q ∧
        (t.recalls.table.drop s.recalls.table.length).map
            (fun r => (r.recallId, r.frame, r.port, r.hpn, r.reason, r.notify, r.origin)) =
          [(s.recalls.counter, f, q, j.hpn, .revoke, true, some (p, tag))] ∧
        ((s.link q).state = .attached → (s.link q).notices.length < 32 →
          (t.link q).notices =
            (s.link q).notices ++ [.recallNotice s.recalls.counter j.hpn .revoke]) ∧
        t.engine.held = s.engine.held) ∧
    (∀ o, (s.record f).itemOf q = none → s.offerOn f q = some o → o.fromPort = p →
      ∃ t, exec (.revoke p) s = .next t ∧
        (t.link p).outbound = (s.link p).outbound ++
          [grantCompletion o.tag .withdrawn o.grantId, commandCompletion tag .ok] ∧
        t.engine.offers = s.engine.offers.filter (fun x => !(x.grantId == o.grantId)) ∧
        (o.sent = true → (s.link q).state = .attached → (s.link q).notices.length < 32 →
          (t.link q).notices = (s.link q).notices ++ [.withdrawn o.grantId .withdrawal]) ∧
        (o.sent = false → ∀ n ∈ (t.link q).notices, n.isOffer o.grantId = false) ∧
        t.engine.directory = s.engine.directory)

/-- A RELEASE, DROP or REVOKE that passes its checks and finds too few free records is deferred: its head is marked
waiting, and it keeps its place and its credit (R49, R51). -/
def Obligations.CommandsAreDeferredForRecords : Prop :=
  ∀ (p : PortId) (tag hpn f : Nat) (i : MapItem) (s : State), (s.link p).requestReturns = 0 →
    (s.link p).commandReturns = 0 → hpn ≤ 8191 → s.itemAt p hpn = some (f, i) → i.phase = .active →
    (s.servesCommand p tag (.release hpn) → i.role = .holder →
      s.freeRecords < 1 + (s.record f).activeReaders.length → exec (.release p) s = .next (s.deferred p)) ∧
    (s.servesCommand p tag (.drop hpn) → i.role = .reader → s.freeRecords = 0 →
      exec (.drop p) s = .next (s.deferred p)) ∧
    (∀ q j, s.servesCommand p tag (.revoke hpn q.val) → i.role = .holder → q ≠ p →
      (s.record f).itemOf q = some j → j.phase = .active → s.freeRecords = 0 →
      exec (.revoke p) s = .next (s.deferred p))

/-! ### Recall records -/

/-- A recall record as it is created (R88 to R92): its id is the counter's value; without notify, or for a port not
ATTACHED, it enters UNMAPPING and asks for its invalid write; else it has the recall timeout as deadline and enters
NOTIFIED with its notice at the queue's tail, or NOTIFY_PENDING at the tail of the pending list when the queue is
full. The counter goes on to a value that no record holds. -/
def Obligations.RecallRecordsStartByRule : Prop :=
  ∀ (f : Nat) (i : MapItem) (reason : RecallReason) (notify : Bool) (origin : Option (PortId × Nat)) (s : State),
    let t := createRecall f i reason notify origin s
    let l := s.link i.port
    let made (ph : RecallPhase) (d : Option Nat) : RecallRecord :=
      { recallId := s.recalls.counter, frame := f, port := i.port, hpn := i.hpn, role := i.role,
        reason := reason, notify := notify, phase := ph, noticeSent := if notify then some false else none,
        deadline := d, origin := origin, drained := none }
    let due := some (s.now + s.mgmt.settings.recallMs)
    (s.recalls.table.length < 64 →
      t.recalls.counter < 65536 ∧ ∀ r ∈ t.recalls.table, r.recallId ≠ t.recalls.counter) ∧
    (notify = false ∨ l.state ≠ .attached →
      t.recalls.table = s.recalls.table ++ [made .unmapping none] ∧ t.links = s.links ∧
      t.writeAsked { port := i.port, hpn := i.hpn, value := .invalid, producer := .unmap s.recalls.counter }) ∧
    (notify = true → l.state = .attached → l.notices.length < 32 →
      t.recalls.table = s.recalls.table ++ [made .notified due] ∧
      t.link i.port = { l with notices := l.notices ++ [.recallNotice s.recalls.counter i.hpn reason] } ∧
      t.mapUnit = s.mapUnit) ∧
    (notify = true → l.state = .attached → 32 ≤ l.notices.length →
      t.recalls.table = s.recalls.table ++ [made .notifyPending due] ∧ t.links = s.links ∧
      t.recalls.pendingLists.get i.port = s.recalls.pendingLists.get i.port ++ [s.recalls.counter] ∧
      t.mapUnit = s.mapUnit)

/-- A record forced at its deadline (R94, R97, R99): a FORCED_RECALL record with whether it was notified, no unsent
notice, and the record in UNMAPPING with its invalid write asked for, which no further expiry reaches. That a
deadline has come when it is at most the model's clock is the model's choice (assumption log, 6). -/
def Obligations.DeadlineForcesRecall : Prop :=
  ∀ (r : RecallRecord) (d : Nat) (s : State), s.operating = true → s.recordById r.recallId = some r →
    r.deadline = some d → d ≤ s.now → r.phase = .notified ∨ r.phase = .notifyPending →
    ∃ t, exec (.recallDeadline r.recallId) s = .next t ∧
      t.recordById r.recallId = some { r with phase := .unmapping, deadline := none } ∧
      t.flight = { s.flight with faults := s.flight.faults ++
        [.forcedRecall r.port r.frame r.hpn (decide (r.noticeSent = some true)) r.reason] } ∧
      t.writeAsked { port := r.port, hpn := r.hpn, value := .invalid, producer := .unmap r.recallId } ∧
      (r.phase = .notifyPending → r.recallId ∉ t.recalls.pendingLists.get r.port ∧ t.links = s.links) ∧
      (r.phase = .notified → r.recallId ∉ s.recalls.pendingLists.get r.port →
        ∀ n ∈ (t.link r.port).notices, n.isRecall r.recallId = false) ∧
      t.engine = s.engine ∧ (∀ q, q ≠ r.port → samePort q s t) ∧
      ∀ later : State, later.recordById r.recallId = t.recordById r.recallId →
        exec (.recallDeadline r.recallId) later = .next later

/-- The Allocation Engine takes a record's completion (R9, R12, R20, R22, R103, R104): the record leaves the table, every
waiting mark is cleared, a reader's item is removed and a SHARED frame without readers is HELD; the removal of the last
READER item of a RECALLING frame reports the HOLDER record if it is DRAINING and drained (R103); the holder's completion sends the frame to QUARANTINED or SCRUBBING and lowers held by one. A DROP or REVOKE that made the record
completes OK at its port, and a RELEASE at its holder's exit from RECALLING. -/
def Obligations.RecallCompletionRemovesMapping : Prop :=
  ∀ (r : RecallRecord) (s : State), s.operating = true → s.engineReady = true →
    r.recallId ∈ s.recalls.reported → s.recordById r.recallId = some r →
    ∃ t, exec (.recallCompletionReport r.recallId) s = .next t ∧
      t.recalls.table = s.recalls.table.filter (fun x => !(x.recallId == r.recallId)) ∧
      t.engine.headWaiting = Quad.all false ∧
      (∀ p n, s.engine.teardown.get p = .scanning n true → p ≠ r.port →
        t.engine.teardown.get p = .scanning n false) ∧
      (∀ g, g ≠ r.frame → t.record g = s.record g) ∧
      (∀ p tag, r.role = .reader ∨ (s.record r.frame).holder = none →
        r.origin = some (p, tag) → (s.link p).state = .attached →
        (t.link p).outbound = (s.link p).outbound ++ [commandCompletion tag .ok]) ∧
      (∀ p tag, r.role = .holder → (s.record r.frame).holder = some p →
        (s.record r.frame).leave = some (.release tag) → r.origin = none → (s.link p).state = .attached →
        (t.link p).outbound = (s.link p).outbound ++ [commandCompletion tag .ok]) ∧
      (r.role = .reader → sparseWf FrameRecord.afterReset s.engine.directory = true →
        (t.record r.frame).items = (s.record r.frame).items.filter (fun i => !(i.port == r.port)) ∧
        ((s.record r.frame).state ≠ .shared → (t.record r.frame).state = (s.record r.frame).state) ∧
        ((s.record r.frame).state = .shared → (t.record r.frame).state =
          if (t.record r.frame).hasReader then .shared else .held) ∧
        (∀ h, s.recalls.table.find? (fun x => x.frame == r.frame && x.role == .holder) = some h →
          h.recallId ≠ r.recallId →
          let last := (s.record r.frame).state = .recalling ∧ (t.record r.frame).hasReader = false ∧
            h.phase = .draining ∧ h.drained = some true
          (last → h.recallId ∈ t.recalls.reported) ∧
          (¬last → t.recalls.reported = s.recalls.reported.filter fun n => !(n == r.recallId)))) ∧
      (r.role = .holder → sparseWf FrameRecord.afterReset s.engine.directory = true →
        (t.record r.frame).holder = none ∧ (t.record r.frame).items = [] ∧ (t.record r.frame).leave = none ∧
        (t.record r.frame).quarantineOnExit = false ∧
        (t.record r.frame).damaged = (s.record r.frame).damaged ∧
        (t.record r.frame).count = (s.record r.frame).count ∧
        (∀ p, (s.record r.frame).holder = some p → t.engine.held.get p = s.engine.held.get p - 1) ∧
        ((s.record r.frame).damaged = true → (t.record r.frame).state = .quarantined ∧
          t.flight.faults = s.flight.faults ++ [.quarantined r.frame .damage]) ∧
        ((s.record r.frame).damaged = false → (s.record r.frame).quarantineOnExit = true →
          (t.record r.frame).state = .quarantined ∧
          t.flight.faults = s.flight.faults ++ [.quarantined r.frame .management]) ∧
        ((s.record r.frame).damaged = false → (s.record r.frame).quarantineOnExit = false →
          (t.record r.frame).state = .scrubbing ∧ t.flight = s.flight ∧
          (r.frame ∈ t.scrub.queue ∨ t.scrub.current = some r.frame)))

/-! ### Deadlines and teardown in the Allocation Engine -/

/-- A parked claim whose deadline has come leaves the Claim Queue and completes EXPIRED (R61). An offer whose deadline
has come leaves the Offer Table, its GRANT completes EXPIRED with the grant id, and the target's unsent OFFER notice is
removed, or a WITHDRAWN notice is appended if the OFFER was sent and there is room (R79). That a deadline has come when
it is at most the model's clock is the model's choice (assumption log, 6). -/
def Obligations.DeadlinesEndClaimsAndOffers : Prop :=
  ∀ s : State, s.operating = true → s.engineReady = true →
    (∀ c : ParkedClaim, s.engine.claims.find? (fun x => x.port == c.port && x.tag == c.tag) = some c →
      c.deadline ≤ s.now → (s.link c.port).state = .attached →
      ∃ t, exec (.claimDeadline c.port c.tag) s = .next t ∧
        (∀ x ∈ t.engine.claims, ¬(x.port = c.port ∧ x.tag = c.tag)) ∧
        ((s.link c.port).outbound ++ [commandCompletion c.tag .expired]) <+: (t.link c.port).outbound ∧
        (s.engine.claims.head? ≠ some c → t = (s.setLink c.port { s.link c.port with
            outbound := (s.link c.port).outbound ++ [commandCompletion c.tag .expired] }).setEngine
          { s.engine with claims := s.engine.claims.filter fun x => !(x.port == c.port && x.tag == c.tag) })) ∧
    (∀ o : Offer, s.engine.offers.find? (fun x => x.grantId == o.grantId) = some o → o.deadline ≤ s.now →
      ∃ t, exec (.offerDeadline o.grantId) s = .next t ∧
        t.engine = { s.engine with offers := s.engine.offers.filter fun x => !(x.grantId == o.grantId) } ∧
        (t.link o.fromPort).outbound = (if (s.link o.fromPort).state = .attached then
          (s.link o.fromPort).outbound ++ [grantCompletion o.tag .expired o.grantId]
          else (s.link o.fromPort).outbound) ∧
        (o.sent = true → (s.link o.toPort).state = .attached → (s.link o.toPort).notices.length < 32 →
          (t.link o.toPort).notices = (s.link o.toPort).notices ++ [.withdrawn o.grantId .expiry]) ∧
        (o.sent = true → 32 ≤ (s.link o.toPort).notices.length →
          (t.link o.toPort).notices = (s.link o.toPort).notices) ∧
        (o.sent = false → ∀ n ∈ (t.link o.toPort).notices, n.isOffer o.grantId = false))

/-- The Allocation Engine takes a teardown (R63, R80, R86): no claim of the port is parked and no offer names it; the GRANT
of an offer to the port completes TARGET_GONE at its holder, the completions of the port's own commands are discarded, and
the target of an offer from it is informed (its unsent OFFER removed, or a WITHDRAWN appended where there is room); its scan
stands at frame 1, and no directory record changes but of a frame that left the Free List for a waiting claim. -/
def Obligations.EngineTakesTeardownEndsClaimsAndOffers : Prop :=
  ∀ (p : PortId) (s : State), s.operating = true → s.engineReady = true → s.engine.teardown.get p = .handed →
    s.engine.freeList.Nodup →
    ∃ t, exec (.engineTakesTeardown p) s = .next t ∧ t.engine.teardown.get p = .scanning 1 false ∧
      (∀ c ∈ t.engine.claims, c.port ≠ p) ∧ (∀ o ∈ t.engine.offers, o.fromPort ≠ p ∧ o.toPort ≠ p) ∧
      (∀ o ∈ s.engine.offers, o.toPort = p → o.fromPort ≠ p → (s.link o.fromPort).state = .attached →
        grantCompletion o.tag .targetGone o.grantId ∈ (t.link o.fromPort).outbound) ∧
      ((s.link p).state ≠ .attached → (t.link p).outbound = (s.link p).outbound) ∧
      (∀ o ∈ s.engine.offers, o.fromPort = p →
        let q := o.toPort
        (o.sent = false → ∀ n ∈ (t.link q).notices, n.isOffer o.grantId = false) ∧
        (o.sent = true → (s.link q).state = .attached →
          (s.link q).notices.length +
            s.engine.offers.countP (fun x => x.fromPort == p && x.toPort == q && x.sent) ≤ 32 →
          .withdrawn o.grantId .withdrawal ∈ (t.link q).notices) ∧
        ((∀ x ∈ s.engine.offers, x.fromPort = p → x.toPort = q → x.sent = true) → 32 ≤ (s.link q).notices.length →
          (t.link q).notices = (s.link q).notices)) ∧
      (∀ f, ¬(f ∈ s.engine.freeList ∧ f ∉ t.engine.freeList) → t.record f = s.record f) ∧ t.requests = s.requests ∧
      t.caches = s.caches

/-- A turn of the teardown scan (R52): it stops at the first frame from where it stood on in which the port has an
ACTIVE item; there it recalls a reader's item with reason PORT_GONE, or takes the holder's frame into RECALLING, or
waits for records; with no such frame left it has finished. Teardown ends when the Link Port holds all three reports
(R176, R177), in the event that makes the last of them, a LINE_RESULT, a TEARDOWN_SCAN or a RECALL_COMPLETION_REPORT: the port
goes to DISABLED if disable is pending, else to IDLE over an UP link, else to OFFLINE, and the session number stays. That the scan may finish in the turn of frame F - 1 is read from the rule (assumption log, 18). -/
def Obligations.TeardownScansThenEnds : Prop :=
  (∀ (p : PortId) (n : Nat) (w : Bool) (s : State), s.operating = true → s.serves p = true →
    (s.link p).state = .detaching → s.engine.teardown.get p = .scanning n w →
    sparseWf FrameRecord.afterReset s.engine.directory = true →
    (∀ (f : Nat) (i : MapItem), n ≤ f → f < s.frames →
      (∀ g, n ≤ g → g < f → ∀ j ∈ (s.record g).activeItems, j.port ≠ p) →
      (s.record f).activeItems.find? (fun j => j.port == p) = some i →
      let need := match i.role with
        | .reader => 1
        | .holder => 1 + (s.record f).activeReaders.length
      (s.freeRecords < need → exec (.teardownScan p) s = .next (s.setEngine { s.engine with
        pointer := sourceOf p, teardown := s.engine.teardown.set p (.scanning f true) })) ∧
      (need ≤ s.freeRecords → ∃ t, exec (.teardownScan p) s = .next t ∧
        (f + 1 < s.frames → t.engine.teardown.get p = .scanning (f + 1) false) ∧
        (∀ g, g ≠ f → t.record g = s.record g) ∧
        (i.role = .reader → t.record f = (s.record f).turnLeaving p ∧
          t.recalls.table.drop s.recalls.table.length =
            [{ recallId := s.recalls.counter, frame := f, port := p, hpn := i.hpn, role := .reader,
               reason := .portGone, notify := false, phase := .unmapping, noticeSent := none, deadline := none,
               origin := none, drained := none }]) ∧
        (i.role = .holder → (t.record f).state = .recalling ∧ (t.record f).leave = some .teardown ∧
          (∀ j ∈ (t.record f).items, j.phase = .leaving) ∧
          (t.recalls.table.drop s.recalls.table.length).map (fun r => (r.port, r.hpn, r.reason, r.notify)) =
            (s.record f).activeItems.map fun j => match j.role with
              | .holder => (j.port, j.hpn, RecallReason.portGone, false)
              | .reader => (j.port, j.hpn, RecallReason.holderGone, true)))) ∧
    ((∀ g, n ≤ g → g < s.frames → ∀ j ∈ (s.record g).activeItems, j.port ≠ p) →
      ∃ t, exec (.teardownScan p) s = .next t ∧
        (s.hasItem p = true → t.engine.teardown.get p = .finished ∧ t.link p = s.link p) ∧
        (s.hasItem p = false → (t.link p).engineReport = true ∨ (t.link p).state ≠ .detaching) ∧
        t.engine.directory = s.engine.directory ∧ t.recalls = s.recalls)) ∧
  ∀ (p : PortId) (s : State), (s.link p).state = .detaching →
    let l := s.link p
    let ended : LinkPort := { l with
      state := if l.disablePending then .disabled else if l.link = .up then .idle else .offline,
      disablePending := false, cause := none, queueEmptyReport := false, engineReport := false,
      recallReport := false }
    (l.queueEmptyReport = true → l.engineReport = true → l.recallReport = true →
      (checkTeardownEnd p s).link p = ended) ∧
    (l.queueEmptyReport = false ∨ l.engineReport = false ∨ l.recallReport = false → checkTeardownEnd p s = s) ∧
    (s.operating = true →
      (∀ e f g n got r pl, l.engineReport = true → l.recallReport = true → s.queue p = [e] → e.tag = r.tag →
        placeOf e.kind = some pl → e.state = .issued f g n got → pl.count ≤ n + 1 →
        s.nextLineResult p r.tag r.line = some r →
        ∃ t, exec (.lineResult p r.tag r.line) s = .next t ∧ t.link p = ended ∧ t.engine.teardown.get p = .idle) ∧
      (∀ n w, l.queueEmptyReport = true → l.recallReport = true → s.serves p = true →
        s.engine.teardown.get p = .scanning n w → s.hasItem p = false →
        sparseWf FrameRecord.afterReset s.engine.directory = true →
        ∃ t, exec (.teardownScan p) s = .next t ∧ t.link p = ended ∧ t.engine.teardown.get p = .idle) ∧
      (∀ r : RecallRecord, l.queueEmptyReport = true → s.engine.teardown.get p = .finished → s.engineReady = true →
        r.port = p → r.recallId ∈ s.recalls.reported → s.recordById r.recallId = some r →
        (∀ x ∈ s.recalls.table, x.port = p → x.recallId = r.recallId) →
        ∃ t, exec (.recallCompletionReport r.recallId) s = .next t ∧
          (t.hasItem p = false → t.link p = ended ∧ t.engine.teardown.get p = .idle)))

/-! ### Scrubbing and frame health -/

/-- The scrub-end report (R13, R16, R22, R59, R154): a frame marked damaged or with an uncorrectable line goes to
QUARANTINED with cause SCRUB; any other becomes FREE at the Free List's tail, and a head of the Claim Queue that the
list now serves leaves the queue, refused QUOTA if it would go over the quota (R60), and granted otherwise (R57): the
list's first frames are HELD by its port with their valid map writes asked for. The Scrub Engine goes IDLE or on to the next frame. -/
def Obligations.ScrubEndFreesOrQuarantines : Prop :=
  ∀ (f : Nat) (s : State), s.operating = true → s.engineReady = true → s.device = .run →
    s.scrub.current = some f → s.scrub.ended = true → (s.record f).state = .scrubbing →
    ∃ t, exec .scrubEndReport s = .next t ∧
      ((s.record f).damaged = false → s.scrub.uncorrectableSeen = false →
        ((∀ c, s.engine.claims.head? = some c → s.engine.freeList.length + 1 < c.count) →
          t.record f = { s.record f with state := .free } ∧ t.engine.claims = s.engine.claims ∧
          t.engine.freeList = s.engine.freeList ++ [f] ∧ t.flight = s.flight) ∧
        (∀ c rest, s.engine.claims = c :: rest → c.count ≤ s.engine.freeList.length + 1 →
          t.engine.claims <:+ rest ∧
          let frees := s.engine.freeList ++ [f]
          let beyond := s.mgmt.settings.quota.get c.port < s.engine.held.get c.port + c.count
          (beyond → (s.link c.port).state = .attached → commandCompletion c.tag .quota ∈ (t.link c.port).outbound) ∧
          (¬beyond → frees.Nodup → { port := c.port, tag := c.tag, left := c.count } ∈ t.engine.granted ∧
            ∀ k g, k < c.count → frees[k]? = some g →
              (t.record g).state = .held ∧ (t.record g).holder = some c.port ∧ g ∉ t.engine.freeList ∧
              (t.record g).items = [{
                port := c.port, hpn := c.hpn + k, access := .readWrite, role := .holder, phase := .active }] ∧
              t.writeAsked {
                port := c.port, hpn := c.hpn + k, value := .valid g .readWrite, producer := .claim c.port c.tag }))) ∧
      ((s.record f).damaged = true ∨ s.scrub.uncorrectableSeen = true →
        t.record f = { s.record f with state := .quarantined, damaged := true } ∧
        t.engine.freeList = s.engine.freeList ∧ t.engine.claims = s.engine.claims ∧
        t.flight = { s.flight with faults := s.flight.faults ++ [.quarantined f .scrub] }) ∧
      (s.scrub.queue = [] → t.scrub.phase = .idle ∧ t.scrub.current = none) ∧
      (∀ g rest, s.scrub.queue = g :: rest → t.scrub.phase = .zero ∧ t.scrub.current = some g ∧
        t.scrub.nextLine = 0 ∧ t.scrub.uncorrectableSeen = false ∧ t.scrub.queue = rest) ∧
      t.scrub.outstanding = s.scrub.outstanding

/-- The engine takes an ECC report (R18, R19, R22). Correctable: the count rises, saturating at 255, and marks an
unmarked frame with a DAMAGED record when it reaches the threshold. Uncorrectable: the frame is marked, its count
stays. A FREE frame that becomes marked goes to QUARANTINED with cause DAMAGE and leaves the Free List. -/
def Obligations.EccReportsMarkFrames : Prop :=
  ∀ (f line : Nat) (s : State), s.operating = true → s.engineReady = true →
    sparseWf FrameRecord.afterReset s.engine.directory = true →
    let quarantines (t : State) : Prop :=
      t.engine.freeList = s.engine.freeList.filter (fun g => !(g == f))
    ((f, line) ∈ s.flight.correctable →
      let n := min 255 ((s.record f).count + 1)
      let marks := s.mgmt.settings.threshold ≤ n ∧ (s.record f).damaged = false
      ∃ t, exec (.correctableReport f line) s = .next t ∧
        t.flight.correctable = s.flight.correctable.erase (f, line) ∧
        (∀ g, g ≠ f → t.record g = s.record g) ∧ t.links = s.links ∧ t.recalls = s.recalls ∧
        (¬marks → t.record f = { s.record f with count := n } ∧ t.engine.freeList = s.engine.freeList ∧
          t.flight.faults = s.flight.faults) ∧
        (marks → (s.record f).state ≠ .free → t.record f = { s.record f with count := n, damaged := true } ∧
          t.engine.freeList = s.engine.freeList ∧ t.flight.faults = s.flight.faults ++ [.damaged f n]) ∧
        (marks → (s.record f).state = .free →
          t.record f = { s.record f with count := n, damaged := true, state := .quarantined } ∧ quarantines t ∧
          t.flight.faults = s.flight.faults ++ [.damaged f n, .quarantined f .damage])) ∧
    ((f, line) ∈ s.flight.uncorrectable →
      ∃ t, exec (.uncorrectableReport f line) s = .next t ∧
        t.flight.uncorrectable = s.flight.uncorrectable.erase (f, line) ∧
        (∀ g, g ≠ f → t.record g = s.record g) ∧ t.links = s.links ∧ t.recalls = s.recalls ∧
        ((s.record f).damaged = true ∨ (s.record f).state ≠ .free →
          t.record f = { s.record f with damaged := true } ∧ t.engine.freeList = s.engine.freeList ∧
          t.flight.faults = s.flight.faults) ∧
        ((s.record f).damaged = false → (s.record f).state = .free →
          t.record f = { s.record f with damaged := true, state := .quarantined } ∧ quarantines t ∧
          t.flight.faults = s.flight.faults ++ [.quarantined f .damage]))

/-- The Scrub Engine's accesses (R151, R152, R154, R155): a grant sends one ZERO write or one VERIFY read of the next
line, and the grant of the last ZERO write begins VERIFY. Of the results, outstanding falls by each; a VERIFY result of
the current scrub is counted and an uncorrectable one noted, and the 32,768th ends the scrub. A result behind an earlier
one of the same line is not taken before it (R134). -/
def Obligations.ScrubAccessesAreSentAndCounted : Prop :=
  ∀ s : State, s.operating = true →
    (∀ (c : ChannelId) (f : Nat) (round : Round), s.granted c .scrub = some round → s.scrub.current = some f →
      let verify := decide (s.scrub.phase = .verify)
      let sent : Access64 := {
        owner := .scrub s.scrub.number verify, frame := f, line := s.scrub.nextLine,
        kind := if verify then .read else .fullWrite (List.replicate 64 0) }
      exec (.scrubAccessGrant c) s = .next
        ((s.setChannel c { queue := (s.channel c).queue ++ [sent], round := round }).setScrub
          (if s.scrub.phase = .zero ∧ s.scrub.nextLine + 1 = 32768 then
            { s.scrub with phase := .verify, nextLine := 0, verified := 0, outstanding := s.scrub.outstanding + 1 }
          else { s.scrub with nextLine := s.scrub.nextLine + 1, outstanding := s.scrub.outstanding + 1 }))) ∧
    (∀ (k : Nat) (r : ScrubResult), s.flight.scrubResults[k]? = some r →
      (∃ x ∈ s.flight.scrubResults.take k, x.frame = r.frame ∧ x.line = r.line) →
      exec (.scrubResult k) s = .next s) ∧
    (∀ (k : Nat) (r : ScrubResult), s.flight.scrubResults[k]? = some r →
      (∀ x ∈ s.flight.scrubResults.take k, ¬(x.frame = r.frame ∧ x.line = r.line)) →
      ∃ t, exec (.scrubResult k) s = .next t ∧ t.scrub.outstanding = s.scrub.outstanding - 1 ∧
        t.flight = { s.flight with scrubResults := s.flight.scrubResults.eraseIdx k } ∧ t.engine = s.engine ∧
        (r.number = s.scrub.number → s.scrub.phase = .verify → r.verify = true →
          t.scrub.verified = s.scrub.verified + 1 ∧
          t.scrub.uncorrectableSeen = (s.scrub.uncorrectableSeen || r.uncorrectable) ∧
          t.scrub.ended = decide (s.scrub.verified + 1 = 32768)) ∧
        (r.number ≠ s.scrub.number ∨ s.scrub.phase ≠ .verify ∨ r.verify = false →
          t.scrub = { s.scrub with outstanding := s.scrub.outstanding - 1 }))

/-! ### Maps -/

/-- MAP_CLEAR (R46, R157, R159): each grant writes the next line of frame 0 invalid; the one of the last line makes the
device RUN, and the Scrub Engine takes the head of its queue. -/
def Obligations.MapClearWritesEveryLine : Prop :=
  ∀ (n : Nat) (round : Round) (s : State), s.operating = true → s.granted 0 .map = some round →
    s.mapUnit.clearNext = some n →
    let s1 := s.setChannel 0 { queue := (s.channel 0).queue ++
      [{ owner := .mapWrite, frame := 0, line := n, kind := .mapWrite .invalid }], round := round }
    (n < 32767 → exec .mapClearWrite s = .next (s1.setMapUnit { s.mapUnit with clearNext := some (n + 1) })) ∧
    (n = 32767 → s.scrub.phase = .idle → ∀ f rest, s.scrub.queue = f :: rest →
      exec .mapClearWrite s = .next (((s1.setMapUnit { s.mapUnit with clearNext := none }).setDevice .run).setScrub
        { s.scrub with queue := rest, phase := .zero, current := some f, nextLine := 0, verified := 0,
                       uncorrectableSeen := false, number := s.scrub.number + 1, ended := false }))

/-- A grant of the Map Unit outside MAP_CLEAR sends the earlier to arrive of the head map write and the oldest unsent
read (R29, R30). A read is issued. A write is performed: its port's cache entry for the page goes, no request stays
bound through the page, and its producer is told: the last write of a claim completes it, an ACCEPT completes with its
GRANT, a recall record moves to DRAINING (R42, R45, R57, R77, R100) and is checked at once: with no entry of its port ISSUED
to the frame a READER record is reported complete, and a HOLDER record is reported if the frame has no reader and marked
drained otherwise (R101, R103). The read of the page issued earlier is stale then,
and no other becomes so. A repair whose own write it is, or that gave way to it, ends: its MAP_REPAIRED record is handed
over with its detail, it leaves the list, its walk reads again, and the repair first in the list is no longer waiting for
its search (R34, R35). -/
def Obligations.MapGrantSendsOlderAccess : Prop :=
  ∀ (round : Round) (s : State), s.operating = true → s.granted 0 .map = some round → s.mapUnit.clearNext = none →
    (∀ (r : MapRead), s.mapUnit.unsentRead = some r →
      (∀ w, s.mapUnit.queue.head? = some w → r.arrival ≤ w.arrival) →
      ∃ t, exec .mapAccessGrant s = .next t ∧
        t.channel 0 = {
          queue := (s.channel 0).queue ++ [{
          owner := .mapRead r.port r.hpn, frame := 0, line := r.port.val * 8192 + r.hpn, kind := .read }],
          round := round } ∧
        t.mapUnit = { s.mapUnit with
          reads := s.mapUnit.reads.map fun x =>
            if x.port = r.port ∧ x.hpn = r.hpn then { x with issued := true } else x } ∧
        t.caches = s.caches ∧ t.recalls = s.recalls ∧ t.engine = s.engine) ∧
    (∀ (w : QueuedWrite) (rest : List QueuedWrite), s.mapUnit.queue = w :: rest →
      (∀ r, s.mapUnit.unsentRead = some r → w.arrival < r.arrival) →
      let m := w.write
      ∃ t, exec .mapAccessGrant s = .next t ∧
        t.channel 0 = {
          queue := (s.channel 0).queue ++ [{
          owner := .mapWrite, frame := 0, line := m.port.val * 8192 + m.hpn, kind := .mapWrite m.value }],
          round := round } ∧
        (∀ c ∈ t.cache m.port, c.hpn ≠ m.hpn) ∧
        (((s.queue m.port).map ReqEntry.tag).Nodup →
          ∀ e ∈ t.queue m.port, ∀ f, e.namesHpn m.hpn = true → e.state ≠ .bound f) ∧
        (∀ q tag g, m.producer = .claim q tag → (s.link q).state = .attached →
          s.engine.granted.find? (fun x => x.port == q && x.tag == tag) = some g → g.left = 1 →
          commandCompletion tag .ok ∈ (t.link q).outbound) ∧
        (∀ q tag holder grantTag gid, m.producer = .accept q tag holder grantTag gid →
          ((s.link q).state = .attached → commandCompletion tag .ok ∈ (t.link q).outbound) ∧
          ((s.link holder).state = .attached →
            grantCompletion grantTag .ok gid ∈ (t.link holder).outbound)) ∧
        (∀ rid r, m.producer = .unmap rid → s.recordById rid = some r → ((s.queue m.port).map ReqEntry.tag).Nodup →
          let entered (drained : Option Bool) : Prop :=
            t.recordById rid = some { r with phase := .draining, drained := drained }
          let busy := ∃ x ∈ s.queue r.port, x.issuedTo r.frame = true
          let alone := (s.record r.frame).hasReader = false
          (r.role = .reader → entered none) ∧
          (r.role = .holder → (busy ∨ alone → entered (some false)) ∧ (¬busy → ¬alone → entered (some true))) ∧
          (¬busy → r.role = .reader ∨ alone → rid ∈ t.recalls.reported) ∧
          (busy ∨ r.role = .holder ∧ ¬alone → t.recalls.reported = s.recalls.reported)) ∧
        ((∀ x ∈ s.mapUnit.repairs, ¬(x.port = m.port ∧ x.hpn = m.hpn)) → m.producer ≠ .repair →
          s.hasWalk m.port m.hpn = true → t.flight.faults = s.flight.faults ∧
          ((∃ x ∈ s.mapUnit.reads, x.port = m.port ∧ x.hpn = m.hpn ∧ x.issued = true) →
            t.isStale m.port m.hpn = true) ∧
          ((∀ x ∈ s.mapUnit.reads, x.port = m.port → x.hpn = m.hpn → x.issued = false) →
            t.isStale m.port m.hpn = s.isStale m.port m.hpn)) ∧
        (∀ detail : RepairDetail,
          (m.producer = .repair ∧ (m.value = .invalid ∧ detail = .invalid ∨
            ∃ f a, m.value = .valid f a ∧ detail = .valid f)) ∨
          (m.producer ≠ .repair ∧ detail = .superseded ∧
            { port := m.port, hpn := m.hpn, phase := .superseded w.arrival } ∈ s.mapUnit.repairs) →
          t.flight.faults = s.flight.faults ++ [.mapRepaired m.port m.hpn detail] ∧
          (∀ x ∈ t.mapUnit.repairs, ¬(x.port = m.port ∧ x.hpn = m.hpn)) ∧
          (∀ x, t.mapUnit.repairs.head? = some x → x.phase ≠ .queued) ∧
          (s.hasWalk m.port m.hpn = true → t.isStale m.port m.hpn = false ∧
            ∃ x ∈ t.mapUnit.reads, x.port = m.port ∧ x.hpn = m.hpn ∧ x.issued = false)) ∧
        t.dram = s.dram ∧ t.engine.directory = s.engine.directory)

/-- The Map Unit takes the result of a map read (R31). Data, not stale, in a session: the walk leaves the queue, a valid
entry is installed as the most recent and the waiting requests take the access check, an invalid one ends them UNMAPPED
(R37, R41, R44); every entry of the retry list then tries its translation again, oldest first, and one that stays on the
list finds the Walk Queue full again (R38). Stale: the walk reads again (R38). Uncorrectable and not stale: a repair joins the list, and starts its
search at frame 1 if it is the first (R33). -/
def Obligations.MapReadResultsAreTaken : Prop :=
  ∀ (p : PortId) (hpn : Nat) (v : Option MapValue) (s : State), s.operating = true →
    s.flight.mapResults.find? (fun r => r.port == p && r.hpn == hpn) =
      some { port := p, hpn := hpn, value := v } →
    ∃ t, exec (.mapReadResult p hpn) s = .next t ∧
      (∀ x ∈ t.flight.mapResults, ¬(x.port = p ∧ x.hpn = hpn)) ∧
      (s.isStale p hpn = true → t.isStale p hpn = false ∧
        t.mapUnit.reads = (s.mapUnit.reads.filter fun r => !(r.port == p && r.hpn == hpn)) ++
          [{ port := p, hpn := hpn, issued := false, arrival := s.mapUnit.arrivals }] ∧
        t.mapUnit.repairs = s.mapUnit.repairs ∧ t.caches = s.caches) ∧
      (s.isStale p hpn = false → v = none → t.walker = s.walker ∧ t.caches = s.caches ∧
        (s.mapUnit.repairs = [] →
          t.mapUnit.repairs = [{ port := p, hpn := hpn, phase := .searching 1 }]) ∧
        (∀ r rest, s.mapUnit.repairs = r :: rest → r.phase ≠ .queued →
          t.mapUnit.repairs = s.mapUnit.repairs ++ [{ port := p, hpn := hpn, phase := .queued }])) ∧
      (∀ x, s.isStale p hpn = false → v = some x →
        (∃ new, t.walker.walks = s.walker.walks.filter (fun w => !(w.port == p && w.hpn == hpn)) ++ new ∧
          (s.walker.retry = [] → new = [])) ∧
        ((s.link p).state = .attached → ((s.queue p).map ReqEntry.tag).Nodup →
          (∀ f a, x = .valid f a →
            { hpn := hpn, frame := f, access := a } ∈ t.cache p ∧ (t.cache p).length ≤ 24 ∧
            (s.walker.retry = [] → (t.cache p).head? = some { hpn := hpn, frame := f, access := a }) ∧
            (∀ (k : Nat) (e : ReqEntry), (s.queue p)[k]? = some e → e.state = .walking → e.namesHpn hpn = true →
              (t.queue p)[k]? = some { e with
                state := if a = .readWrite ∨ isWriting e.kind = false then .bound f
                  else .done .protection Gathered.nothing })) ∧
          (x = .invalid → (s.walker.retry = [] → t.cache p = s.cache p) ∧
            (∀ (k : Nat) (e : ReqEntry), (s.queue p)[k]? = some e → e.state = .walking → e.namesHpn hpn = true →
              (t.queue p)[k]? = some { e with state := .done .unmapped Gathered.nothing }))) ∧
        (∀ q tag e pl, (q, tag) ∈ t.walker.retry → t.entry q tag = some e → placeOf e.kind = some pl →
          e.state = .waiting ∧ (t.cache q).find? (fun c => c.hpn == pl.hpn) = none ∧
            t.hasWalk q pl.hpn = false ∧ 8 ≤ t.walker.walks.length) ∧
        (∀ q tag e pl more, s.walker.retry = (q, tag) :: more → (∀ q, ((s.queue q).map ReqEntry.tag).Nodup) →
          s.entry q tag = some e → e.state = .waiting → placeOf e.kind = some pl → (q, pl.hpn) ≠ (p, hpn) →
          (∀ c, (s.cache q).find? (fun c => c.hpn == pl.hpn) = some c → q ≠ p →
            t.entry q tag = some { e with
              state := if c.access = .readWrite ∨ isWriting e.kind = false then .bound c.frame
                else .done .protection Gathered.nothing }) ∧
          ((s.cache q).find? (fun c => c.hpn == pl.hpn) = none → s.hasWalk p hpn = true → s.walker.walks.length ≤ 8 →
            t.entry q tag = some { e with state := .walking } ∧ t.hasWalk q pl.hpn = true ∧
            (s.hasWalk q pl.hpn = false → ∃ r ∈ t.mapUnit.reads,
              r.port = q ∧ r.hpn = pl.hpn ∧ r.issued = false))))

/-- A step of the repair search (R33, R34): an ACTIVE item found gives a valid repair write, a LEAVING one an invalid
one; otherwise the search goes on to the next frame, and past frame F - 1 it writes invalid. -/
def Obligations.RepairSearchReadsRecords : Prop :=
  ∀ (r : Repair) (rest : List Repair) (n : Nat) (s : State), s.operating = true → s.engineReady = true →
    s.writesWaitOnlyWhenFull → s.mapUnit.repairs = r :: rest → r.phase = .searching n →
    let found := (s.record n).items.find? fun i => i.port == r.port && i.hpn == r.hpn
    let asks (v : MapValue) : Prop := ∃ t, exec .repairSearchStep s = .next t ∧ t.engine = s.engine ∧
      t.writeAsked { port := r.port, hpn := r.hpn, value := v, producer := .repair }
    (∀ i, found = some i → i.phase = .active → asks (.valid n i.access)) ∧
    (∀ i, found = some i → i.phase = .leaving → asks .invalid) ∧
    (found = none → n + 1 < s.frames → exec .repairSearchStep s =
      .next (s.setMapUnit { s.mapUnit with repairs := { r with phase := .searching (n + 1) } :: rest })) ∧
    (found = none → s.frames ≤ n + 1 → asks .invalid)

/-! ### Channels and arbiters -/

/-- The arbiter of a populated channel with a free place (R143 to R148). When the Map Unit has an access for channel 0,
it gets the place whatever the others have, and the round does not change. Otherwise, while a port has an access, the
round order is the start port, the following ports, wrapping, then the Scrub Engine; the grant goes to the first of them
that has an access and has not used its allowance, the Scrub Engine's being one grant a round, and its grants used rise
by one. The next round begins only when none of them may be granted: its start port is the following port and its
allowances are the weights in force. While no port has an access, the Scrub Engine's grant leaves the round as it is.
There is one grantee, and none without a place. That the first round takes the weights in force at its first grant is the
model's reading (assumption log, 19). -/
def Obligations.ArbiterFollowsRounds : Prop :=
  (∀ s : State, s.operating = true → 0 < s.pop.channels → (s.channel 0).queue.length < 16 →
    s.mapHasAccess = true → s.granted 0 .map = some (s.channel 0).round ∧
      (∀ p, exec (.portAccessGrant 0 p) s = .next s) ∧ exec (.scrubAccessGrant 0) s = .next s) ∧
  ∀ (c : ChannelId) (s : State),
    (∀ g h a b, s.granted c g = some a → s.granted c h = some b → g = h ∧ a = b) ∧
    (s.operating = false ∨ s.pop.channels ≤ c.val ∨ 16 ≤ (s.channel c).queue.length → ∀ g, s.granted c g = none) ∧
    (s.operating = true → c.val < s.pop.channels → (s.channel c).queue.length < 16 →
      (c = 0 → s.mapHasAccess = false) →
      let has := s.portHasAccess c
      let now := (s.channel c).round.current s.mgmt.settings.weight
      let next : Round := {
        begun := true, start := now.start + 1, allowance := s.mgmt.settings.weight, used := Quad.all 0,
        scrubUsed := false }
      let mayTake (r : Round) (p : PortId) : Prop := has p = true ∧ r.used.get p < r.allowance.get p
      let scrubMay (r : Round) : Prop := s.scrubHasAccess c = true ∧ r.scrubUsed = false
      let spent (r : Round) : Prop := (∀ p, ¬mayTake r p) ∧ ¬scrubMay r
      let decides (r : Round) : Prop :=
        (∀ k : Fin 4, mayTake r (r.start + k) → (∀ j, j < k → ¬mayTake r (r.start + j)) →
          s.granted c (.port (r.start + k)) =
            some { r with used := r.used.set (r.start + k) (r.used.get (r.start + k) + 1) }) ∧
        ((∀ p, ¬mayTake r p) → scrubMay r → s.granted c .scrub = some { r with scrubUsed := true })
      ((∃ p, has p = true) → (¬spent now → decides now) ∧ (spent now → decides next)) ∧
      ((∀ p, has p = false) → s.scrubHasAccess c = true → s.granted c .scrub = some (s.channel c).round))

/-- A READ access hands back the line's 64 bytes, or UNCORRECTABLE with the line kept as it was; a FULL WRITE replaces
the line's bytes, cannot fail and reports nothing, and the line reads clean after it (R135, R136, R139, R140). No other
byte, map entry or line condition changes. The line is the one that R131 gives for the latched population. That a map
write carries the entry's value and is a FULL WRITE is the model's choice (assumption log, 9). -/
def Obligations.ReadsAndFullWritesByRule : Prop :=
  (∀ (pop : Population) (f l : Nat), lineAddr pop f l =
    f % pop.channels * (8192 * 32768) + (f / pop.channels * 32768 + l)) ∧
  ∀ (c : ChannelId) (i : Nat) (a : Access64) (s : State), s.operating = true → s.carriedOut c i = some a →
    a.frame < s.frames → s.dram.wf = true →
    (∀ e, a.kind = .read →
      ∃ t, exec (.channelRead c i e) s = .next t ∧ accessCompleted c i s t ∧
        ((s.dram.isBad (s.lineOf a) = true ∨ e = .uncorrectable) →
          reportedUncorrectable a s t ∧ resultHanded a .uncorrectable s t) ∧
        (s.dram.isBad (s.lineOf a) = false → e ≠ .uncorrectable →
          t.dram = s.dram ∧ reportedReadable a e s t ∧
          resultHanded a (if e = .correctable then .corrected (s.dram.readLine (s.lineOf a))
            else .clean (s.dram.readLine (s.lineOf a))) s t)) ∧
    (∀ data, a.kind = .fullWrite data → data.length = 64 →
      ∃ t, exec (.channelFullWrite c i) s = .next t ∧ accessCompleted c i s t ∧
        reportedReadable a .clean s t ∧ resultHanded a .written s t ∧
        t.dram.readLine (s.lineOf a) = data ∧
        (∀ x, x < byteAddr (s.lineOf a) ∨ byteAddr (s.lineOf a) + 64 ≤ x →
          Memory.read t.dram.mem x = Memory.read s.dram.mem x) ∧
        t.dram.isBad (s.lineOf a) = false ∧ (∀ n, n ≠ s.lineOf a → t.dram.isBad n = s.dram.isBad n) ∧
        t.dram.maps = s.dram.maps) ∧
    (∀ v, a.kind = .mapWrite v → a.owner = .mapWrite →
      ∃ t, exec (.channelFullWrite c i) s = .next t ∧ accessCompleted c i s t ∧ t.flight = s.flight ∧
        t.dram.readMap a.line = v ∧ (∀ l, l ≠ a.line → t.dram.readMap l = s.dram.readMap l) ∧
        t.dram.mem = s.dram.mem ∧ t.dram.isBad a.line = false ∧
        ∀ n, n ≠ a.line → t.dram.isBad n = s.dram.isBad n)

/-- A PARTIAL WRITE merges the enabled bytes into the line; a CSWAP stores the new value in its granule exactly when the
granule equals the compare value, and hands back the old value and whether it swapped; both store nothing and answer
UNCORRECTABLE on an uncorrectable line, and report a correctable one (R137, R138, R139, R140). -/
def Obligations.PartialWritesAndSwapsByRule : Prop :=
  ∀ (c : ChannelId) (i : Nat) (a : Access64) (e : EccCondition) (s : State), s.operating = true →
    s.carriedOut c i = some a → a.frame < s.frames → s.dram.wf = true →
    let bad := s.dram.isBad (s.lineOf a) = true ∨ e = .uncorrectable
    let base := byteAddr (s.lineOf a)
    let failed (t : State) : Prop := reportedUncorrectable a s t ∧ resultHanded a .uncorrectable s t
    let elsewhere (t : State) : Prop := (∀ x, x < base ∨ base + 64 ≤ x →
      Memory.read t.dram.mem x = Memory.read s.dram.mem x) ∧ t.dram.maps = s.dram.maps ∧
      ∀ n, t.dram.isBad n = s.dram.isBad n
    (∀ data mask, a.kind = .partialWrite data mask → data.length = 64 → mask.length = 64 →
      ∃ t, exec (.channelPartialWrite c i e) s = .next t ∧ accessCompleted c i s t ∧ (bad → failed t) ∧
        (¬bad → reportedReadable a e s t ∧ resultHanded a .written s t ∧ elsewhere t ∧
          (∀ j b, j < 64 → data[j]? = some b → Memory.read t.dram.mem (base + j) =
            if mask[j]? = some true then b else Memory.read s.dram.mem (base + j)))) ∧
    (∀ g cmp new, a.kind = .cswap g cmp new → g ≤ 7 → new.length = 8 →
      let old := Memory.readBytes s.dram.mem (base + 8 * g) 8
      ∃ t, exec (.channelCswap c i e) s = .next t ∧ accessCompleted c i s t ∧ (bad → failed t) ∧
        (¬bad → reportedReadable a e s t ∧ resultHanded a (.swap old (decide (old = cmp))) s t ∧ elsewhere t ∧
          (old ≠ cmp → sameMemory s t) ∧
          (old = cmp → Memory.readBytes t.dram.mem (base + 8 * g) 8 = new ∧
            ∀ x, x < base + 8 * g ∨ base + 8 * g + 8 ≤ x →
              Memory.read t.dram.mem x = Memory.read s.dram.mem x)))

/-! ### What a Link Port sends -/

/-- COMPLETION_SEND and NOTICE_SEND (R93, R124, R167, R169, R171): the head is sent for one credit. A completion's tag is
outstanding no more; a memory request's entry is retired and its credit returned with one CREDIT-RETURN; a DETACH
begins teardown. A notice's send is reported to its producer, and the place it frees takes the notice of the record
first in the pending list. Without a credit nothing is sent. `sent` is the model's own list of the messages sent
(assumption log, 12). -/
def Obligations.SendsUseCredits : Prop :=
  ∀ (p : PortId) (s : State), s.operating = true → (s.link p).state = .attached → (s.link p).link = .up →
    let l := s.link p
    (l.completionCredits = 0 → exec (.completionSend p) s = .next s) ∧
    (l.noticeCredits = 0 → exec (.noticeSend p) s = .next s) ∧
    (∀ c rest, l.outbound = c :: rest → l.completionCredits ≠ 0 →
      let sent : LinkPort := { l with
        outbound := rest, completionCredits := l.completionCredits - 1, tags := l.tags.filter (fun t => !(t == c.tag)),
        sent := l.sent ++ [.completion c] }
      let retired := (s.queue p).filter fun e => !(e.tag == c.tag)
      (c.answers = .command → exec (.completionSend p) s = .next (s.setLink p sent)) ∧
      (c.answers = .request → exec (.completionSend p) s = .next ((s.setQueue p retired).setLink p { sent with
        requestCredits := l.requestCredits + (l.requestReturns + 1), requestReturns := 0,
        commandCredits := l.commandCredits + l.commandReturns, commandReturns := 0,
        sent := l.sent ++ [.completion c, .creditReturn (l.requestReturns + 1) l.commandReturns] })) ∧
      (c.answers = .detach → ∃ t, exec (.completionSend p) s = .next t ∧
        teardownBegun p .detach ((s.setQueue p retired).setLink p sent) t)) ∧
    (∀ n rest, l.notices = n :: rest → l.noticeCredits ≠ 0 →
      ∃ t, exec (.noticeSend p) s = .next t ∧ (t.link p).sent = l.sent ++ [.notice n] ∧
        (t.link p).noticeCredits = l.noticeCredits - 1 ∧ (t.link p).outbound = l.outbound ∧
        (∀ rid hpn reason, n = .recallNotice rid hpn reason → t.engine = s.engine ∧
          ∀ r, t.recordById rid = some r → r.noticeSent = some true) ∧
        (∀ gid q hpn a, n = .offer gid q hpn a → ∀ o ∈ t.engine.offers, o.grantId = gid → o.sent = true) ∧
        (s.recalls.pendingLists.get p = [] → (t.link p).notices = rest) ∧
        (∀ rid more r, s.recalls.pendingLists.get p = rid :: more → s.recordById rid = some r → rest.length < 32 →
          (t.link p).notices = rest ++ [.recallNotice rid r.hpn r.reason] ∧
          t.recalls.pendingLists.get p = more ∧ (t.recordById rid).map RecallRecord.phase = some .notified))

/-! ### Management -/

/-- The Fault Log (R189, R190, R191): an append takes the counter's value as its sequence number, discards the oldest
record of a full log and asserts ALERT_N; LOG-READ moves the oldest record into the result and releases ALERT_N when
the log is left empty, and returns no record from an empty log. -/
def Obligations.FaultLogAppendsAndReads : Prop :=
  ∀ s : State, s.operating = true →
    (∀ k r, s.flight.faults[k]? = some r → exec (.faultRecordAppend k) s =
      .next ((s.setFlight { s.flight with faults := s.flight.faults.eraseIdx k }).setMgmt { s.mgmt with
        log := (if s.mgmt.log.length < 32 then s.mgmt.log else s.mgmt.log.tail) ++
          [{ sequence := s.mgmt.sequence, info := r }],
        sequence := (s.mgmt.sequence + 1) % 65536, alert := true })) ∧
    (∀ id, (∀ i r, s.mgmt.buffer ≠ .running i r) →
      (s.mgmt.log = [] → exec (.logRead id) s = .next (s.setMgmt { s.mgmt with
        buffer := .ready id .logRead .ok [], refused := none, miso := [0, 0] })) ∧
      (∀ r rest, s.mgmt.log = r :: rest → exec (.logRead id) s = .next (s.setMgmt { s.mgmt with
        buffer := .ready id .logRead .ok r.bytes, refused := none, miso := [0, 0], log := rest,
        alert := !rest.isEmpty })))

/-- The request buffer (R178, R179, R180, R193). Table 11-5 gives the request of a transaction by its kind and its
length; any other kind or length is malformed. The argument check fails for the requests `fails` lists. A request that
finds the buffer RUNNING is refused and its id kept; another is taken, answered BAD_ARGUMENT at once if its check fails,
and otherwise placed in the management slot, handed to its Link Port, or run at once as its own command is. A result
transaction shifts out 0x00 and then the frame of R193 of the buffer as it stood, and clears the refused id. The model's
choices: the two commands stand for whole transactions (log 10), `miso` holds what one shifts out (log 11), and the bits
of an incomplete last byte are dropped (log 32). -/
def Obligations.RequestBufferTakesAndReturns : Prop :=
  let fails (frames : Nat) (r : MgmtReq) : Prop :=
    (∃ p, 3 < p ∧ (r = .getPortStatus p ∨ r = .portDisable p ∨ r = .portEnable p ∨ r = .portReset p ∨
      (∃ q, r = .setQuota p q) ∨ ∃ w, r = .setWeight p w)) ∨
    (∃ f, frames ≤ f ∧ (r = .queryFrame f ∨ r = .evict f ∨ r = .quarantine f ∨ r = .returnFrame f)) ∨
    (∃ p q, r = .setQuota p q ∧ 8192 < q) ∨
    (∃ p w, r = .setWeight p w ∧ ¬(1 ≤ w ∧ w ≤ 15)) ∨
    (∃ k ms, r = .setTimeout k ms ∧
      ¬((k = 0 ∧ 1 ≤ ms ∧ ms ≤ 1000) ∨ (k = 1 ∧ 10 ≤ ms ∧ ms ≤ 10000) ∨ (k = 2 ∧ ms ≤ 10000))) ∨
    (∃ n, r = .setThreshold n ∧ ¬(1 ≤ n ∧ n ≤ 255)) ∨
    ∃ m, r = .malformed m
  let runAtOnce (id : Nat) (r : MgmtReq) (c : Instr) : Prop :=
    (∃ p q, r = .setQuota p q ∧ c = .setQuota id p q) ∨ (∃ p w, r = .setWeight p w ∧ c = .setWeight id p w) ∨
    (∃ k ms, r = .setTimeout k ms ∧ c = .setTimeout id k ms) ∨ (∃ n, r = .setThreshold n ∧ c = .setThreshold id n) ∨
    (r = .logRead ∧ c = .logRead id) ∨ (r = .chipReset ∧ c = .chipReset id)
  let readAs (bytes : List Byte) (id : Nat) (r : MgmtReq) : Prop := parseMgmtTransaction bytes = .request id r
  let flags (refused : Option Nat) : Byte := if refused.isSome then 2 else 0
  let refusedId (refused : Option Nat) : Byte := BitVec.ofNat 8 (refused.getD 0)
  let frame (b : Buffer) (refused : Option Nat) : List Byte :=
    match b with
    | .empty => [0, flags refused, 0, refusedId refused, 0, 0, 0]
    | .running id _ => [1, 1 + flags refused, BitVec.ofNat 8 id, refusedId refused, 0, 0, 0]
    | .ready id _ st data => [2, 1 + flags refused, BitVec.ofNat 8 id, refusedId refused,
        (match st with | .ok => 0 | .busy => 1 | .badArgument => 2 | .wrongState => 3),
        BitVec.ofNat 8 data.length, BitVec.ofNat 8 (data.length / 256)] ++ data
  (∀ id a b c : Byte, let i := id.toNat; let ab := a.toNat + 256 * b.toNat; let bc := b.toNat + 256 * c.toNat
    readAs [0x01, id] i .getPoolStatus ∧ readAs [0x02, id, a] i (.getPortStatus a.toNat) ∧
    readAs [0x03, id, a, b] i (.queryFrame ab) ∧ readAs [0x04, id, a, b] i (.evict ab) ∧
    readAs [0x05, id, a, b] i (.quarantine ab) ∧ readAs [0x06, id, a, b] i (.returnFrame ab) ∧
    readAs [0x07, id, a, b, c] i (.setQuota a.toNat bc) ∧ readAs [0x08, id, a, b] i (.setWeight a.toNat b.toNat) ∧
    readAs [0x09, id, a, b, c] i (.setTimeout a.toNat bc) ∧ readAs [0x0A, id, a] i (.setThreshold a.toNat) ∧
    readAs [0x0B, id, a] i (.portDisable a.toNat) ∧ readAs [0x0C, id, a] i (.portEnable a.toNat) ∧
    readAs [0x0D, id, a] i (.portReset a.toNat) ∧ readAs [0x0E, id] i .logRead ∧ readAs [0x0F, id] i .chipReset) ∧
  readAs [0x01] 0 .getPoolStatus ∧ readAs [0x0E] 0 .logRead ∧ readAs [0x0F] 0 .chipReset ∧
  (∀ (k : Byte) (rest : List Byte), k ≠ 0 →
    (k.toNat, (rest.drop 1).length) ∉ [(1, 0), (2, 1), (3, 2), (4, 2), (5, 2), (6, 2), (7, 3), (8, 2), (9, 3), (10, 1),
      (11, 1), (12, 1), (13, 1), (14, 0), (15, 0)] →
    ∃ m, readAs (k :: rest) ((rest.head?.map BitVec.toNat).getD 0) (.malformed m)) ∧
  ∀ s : State, s.operating = true →
    (∀ bytes id r, parseMgmtTransaction bytes = .request id r →
      let m := { s.mgmt with miso := List.replicate bytes.length 0 }
      (∀ i x, s.mgmt.buffer = .running i x →
        exec (.mgmtRequestTransaction bytes) s = .next (s.setMgmt { m with refused := some id })) ∧
      (∀ c, runAtOnce id r c → 1 < bytes.length → exec (.mgmtRequestTransaction bytes) s = exec c s) ∧
      ((∀ i x, s.mgmt.buffer ≠ .running i x) →
        (fails s.frames r → exec (.mgmtRequestTransaction bytes) s =
          .next (s.setMgmt { m with buffer := .ready id r .badArgument [], refused := none })) ∧
        (∀ f, f < s.frames → r = .queryFrame f ∨ r = .evict f ∨ r = .quarantine f ∨ r = .returnFrame f →
          exec (.mgmtRequestTransaction bytes) s = .next ((s.setMgmt { m with
            buffer := .running id r, refused := none }).setEngine { s.engine with slot := some r })) ∧
        (∀ p : PortId, r = .getPoolStatus ∨ r = .getPortStatus p.val →
          exec (.mgmtRequestTransaction bytes) s = .next ((s.setMgmt { m with
            buffer := .running id r, refused := none }).setEngine { s.engine with slot := some r })) ∧
        (∀ (p : PortId) (x : PortRequest), (r = .portReset p.val ∧ x = .reset p) ∨
          (r = .portDisable p.val ∧ x = .disable p) ∨ (r = .portEnable p.val ∧ x = .enable p) →
          exec (.mgmtRequestTransaction bytes) s = .next (s.setMgmt { m with
            buffer := .running id r, refused := none, portSlot := some x })))) ∧
    (∀ n, n ≠ 0 → exec (.resultTransaction n) s = .next (s.setMgmt { s.mgmt with
      miso := (0 :: frame s.mgmt.buffer s.mgmt.refused ++ List.replicate n 0).take n, refused := none })) ∧
    exec (.resultTransaction 0) s = .next s

/-- GET-POOL-STATUS, GET-PORT-STATUS and QUERY-FRAME report the values the rules list, empty the slot and change
nothing else (R53, R183, R184, R185). Byte 3 of a QUERY-FRAME result is the RELEASE's tag; where the frame has no RELEASE to
name, R193 gives it no value and it is free (assumption log, 36). -/
def Obligations.StatusRequestsReportState : Prop :=
  ∀ (id : Nat) (s : State),
    let count (st : FrameState) : Nat := (List.range' 1 (s.frames - 1)).countP fun f => decide ((s.record f).state = st)
    (s.servesRequest id .getPoolStatus → exec .getPoolStatus s = .next (s.answered id .getPoolStatus .ok
      (statusBytes [s.device.code, s.frames, s.pop.channels, s.pop.channelSize, count .free, count .scrubbing,
        count .held, count .shared, count .recalling, count .quarantined, s.engine.freeList.length,
        s.scrub.queue.length, s.scrub.phase.code, s.scrub.current.getD 0, s.engine.claims.length,
        s.engine.offers.length, s.recalls.table.length, s.mgmt.log.length, s.mgmt.sequence]))) ∧
    (∀ p : PortId, s.servesRequest id (.getPortStatus p.val) → exec .getPortStatus s =
      .next (s.answered id (.getPortStatus p.val) .ok (statusBytes (
        let l := s.link p
        [l.link.code, l.state.code, l.session, yesNo l.disablePending, (l.cause.map TeardownCause.code).getD 65535,
          l.requestCredits, l.commandCredits, l.completionCredits, l.noticeCredits, l.commands.length,
          l.notices.length, l.outbound.length] ++ queueCounts (s.queue p) ++
        [s.engine.held.get p, s.parked p, s.mgmt.settings.quota.get p, s.mgmt.settings.weight.get p,
          s.recalls.table.countP fun r => r.port == p])))) ∧
    (∀ f, s.servesRequest id (.queryFrame f) → exec .queryFrame s =
      .next (s.answered id (.queryFrame f) .ok (s.record f).bytes))

/-- EVICT, QUARANTINE and RETURN by frame state (R14, R15, R186): the effect and the result of each row of the
table. A frame that enters RECALLING has every offer on it withdrawn, its GRANT completed WITHDRAWN and its target informed
(R80). -/
def Obligations.FrameRequestsFollowFrameState : Prop :=
  ∀ (id f : Nat) (s : State), sparseWf FrameRecord.afterReset s.engine.directory = true →
    let r := s.record f
    let recalled (c : Instr) (req : MgmtReq) (flag : Bool) : Prop :=
      (s.freeRecords < r.activeItems.length → exec c s = .next (s.answered id req .busy [])) ∧
      (r.activeItems.length ≤ s.freeRecords → ∃ t, exec c s = .next t ∧
        t.mgmt.buffer = .ready id req .ok [] ∧ t.engine.slot = none ∧
        t.record f = { r with
          state := .recalling, leave := some .evict, quarantineOnExit := flag,
          items := r.items.map fun i => { i with phase := .leaving } } ∧
        (∀ g, g ≠ f → t.record g = s.record g) ∧ offersWithdrawn f s t ∧
        (t.recalls.table.drop s.recalls.table.length).map
            (fun x => (x.frame, x.port, x.hpn, x.role, x.reason, x.notify)) =
          r.activeItems.map (fun i => (f, i.port, i.hpn, i.role, RecallReason.evict, true)))
    let quarantined (t : State) : Prop :=
      t.mgmt.buffer = .ready id (.quarantine f) .ok [] ∧ t.engine.slot = none ∧
      t.record f = { r with state := .quarantined } ∧ (∀ g, g ≠ f → t.record g = s.record g) ∧
      t.flight = { s.flight with faults := s.flight.faults ++ [.quarantined f .management] } ∧ t.recalls = s.recalls
    (s.servesRequest id (.evict f) →
      (r.state = .held ∨ r.state = .shared → recalled .evict (.evict f) false) ∧
      (r.state ≠ .held → r.state ≠ .shared → exec .evict s = .next (s.answered id (.evict f) .wrongState []))) ∧
    (s.servesRequest id (.quarantine f) →
      (r.state = .reserved → exec .quarantine s = .next (s.answered id (.quarantine f) .wrongState [])) ∧
      (r.state = .free → ∃ t, exec .quarantine s = .next t ∧ quarantined t ∧
        t.engine.freeList = s.engine.freeList.filter (fun g => !(g == f)) ∧ t.scrub = s.scrub) ∧
      (r.state = .scrubbing → s.scrub.current ≠ some f → ∃ t, exec .quarantine s = .next t ∧ quarantined t ∧
        t.engine.freeList = s.engine.freeList ∧
        t.scrub = { s.scrub with queue := s.scrub.queue.filter (fun g => !(g == f)) }) ∧
      (r.state = .scrubbing → s.scrub.current = some f → ∃ t, exec .quarantine s = .next t ∧ quarantined t ∧
        t.scrub.ended = false ∧ t.scrub.outstanding = s.scrub.outstanding ∧
        (s.scrub.queue = [] → t.scrub.current = none ∧ t.scrub.phase = .idle) ∧
        (∀ g rest, s.scrub.queue = g :: rest → s.device = .run → t.scrub.current = some g ∧
          t.scrub.phase = .zero ∧ t.scrub.nextLine = 0 ∧ t.scrub.queue = rest)) ∧
      (r.state = .held ∨ r.state = .shared → recalled .quarantine (.quarantine f) true) ∧
      (r.state = .recalling → ∃ t, exec .quarantine s = .next t ∧ t.record f = { r with quarantineOnExit := true } ∧
        (∀ g, g ≠ f → t.record g = s.record g) ∧ t.mgmt.buffer = .ready id (.quarantine f) .ok [] ∧
        t.flight = s.flight ∧ t.recalls = s.recalls) ∧
      (r.state = .quarantined → exec .quarantine s = .next (s.answered id (.quarantine f) .ok []))) ∧
    (s.servesRequest id (.returnFrame f) →
      (r.state = .quarantined → ∃ t, exec .returnFrame s = .next t ∧
        t.record f = { r with state := .scrubbing, damaged := false, count := 0 } ∧
        (∀ g, g ≠ f → t.record g = s.record g) ∧ t.mgmt.buffer = .ready id (.returnFrame f) .ok [] ∧
        (s.scrub.phase = .idle → s.device = .run → s.scrub.queue = [] → t.scrub.current = some f) ∧
        (s.scrub.phase ≠ .idle ∨ s.device ≠ .run → t.scrub = { s.scrub with queue := s.scrub.queue ++ [f] })) ∧
      (r.state ≠ .quarantined → exec .returnFrame s = .next (s.answered id (.returnFrame f) .wrongState [])))

/-- The SET requests (R178, R180, R181): a value within its range is written and answered OK in the event of taking, one
outside its range is answered BAD_ARGUMENT and leaves the setting, and a request that finds the buffer RUNNING is
refused. -/
def Obligations.SetRequestsWriteSettings : Prop :=
  ∀ (id : Nat) (s : State), s.operating = true →
    let x := s.mgmt.settings
    let outcome (c : Instr) (r : MgmtReq) (n : Nat) (valid : Prop) (x' : Settings) : Prop :=
      let m := { s.mgmt with miso := List.replicate n 0 }
      (∀ i y, s.mgmt.buffer = .running i y → exec c s = .next (s.setMgmt { m with refused := some id })) ∧
      ((∀ i y, s.mgmt.buffer ≠ .running i y) →
        (valid → exec c s = .next (s.setMgmt { m with
          settings := x', buffer := .ready id r .ok [], refused := none })) ∧
        (¬valid → exec c s = .next (s.setMgmt { m with
          buffer := .ready id r .badArgument [], refused := none })))
    (∀ (p : PortId) q, outcome (.setQuota id p.val q) (.setQuota p.val q) 5 (q ≤ 8192)
      { x with quota := x.quota.set p q }) ∧
    (∀ (p : PortId) w, outcome (.setWeight id p.val w) (.setWeight p.val w) 4 (1 ≤ w ∧ w ≤ 15)
      { x with weight := x.weight.set p w }) ∧
    (∀ n v, 3 < n → outcome (.setQuota id n v) (.setQuota n v) 5 False x ∧
      outcome (.setWeight id n v) (.setWeight n v) 4 False x) ∧
    (∀ ms, outcome (.setTimeout id 0 ms) (.setTimeout 0 ms) 5 (1 ≤ ms ∧ ms ≤ 1000) { x with recallMs := ms } ∧
      outcome (.setTimeout id 1 ms) (.setTimeout 1 ms) 5 (10 ≤ ms ∧ ms ≤ 10000) { x with offerMs := ms } ∧
      outcome (.setTimeout id 2 ms) (.setTimeout 2 ms) 5 (ms ≤ 10000) { x with claimMs := ms }) ∧
    (∀ k ms, 2 < k → outcome (.setTimeout id k ms) (.setTimeout k ms) 5 False x) ∧
    (∀ n, outcome (.setThreshold id n) (.setThreshold n) 3 (1 ≤ n ∧ n ≤ 255) { x with threshold := n })

/-! ### The whole part -/

/-- The part after power-on meets every invariant stated below. -/
def Obligations.ResetMeetsInvariants : Prop :=
  State.reset.dram.wf = true ∧ State.reset.mgmt.logInOrder ∧ State.reset.withinCapacity ∧
    State.reset.sessionsInOrder ∧ State.reset.frameZeroApart ∧ State.reset.requestsInOrder ∧
    State.reset.framesInOrder ∧ State.reset.mapsInOrder

/-- Every step keeps the canonical form of pool memory, map lines and line conditions, which is the model's own
(assumption log, 4). -/
def Obligations.StepKeepsDramCanonical : Prop :=
  ∀ s t : State, step s = .next t → s.dram.wf = true → t.dram.wf = true

/-- Every step keeps the Fault Log in order: numbered in a row, at most 32 records, ALERT_N asserted exactly while it
holds one (R189, R191). -/
def Obligations.StepKeepsFaultLogInOrder : Prop :=
  ∀ s t : State, step s = .next t → s.mgmt.logInOrder → t.mgmt.logInOrder

/-- Every step keeps every table and queue within its capacity: Claim Queue, Offer Table, Recall Table, Request and Command
Queues, Map Write Queue, outstanding map reads, repairs, Walk Queue, Translation Caches, Notice Queues, Channel Queues,
scrub accesses and Fault Log; and map writes waiting only while their queue is full (R28, R31, R33, R36, R40, R58, R71,
R87, R108, R132, R150, R162, R170, R189). The premises are the other invariants stated here, which
rule out states that no run reaches; walksInOrder is a part of mapsInOrder. -/
def Obligations.StepKeepsCapacities : Prop :=
  ∀ s t : State, step s = .next t → s.framesInOrder → s.walksInOrder → s.sessionsInOrder → s.requestsInOrder →
    s.withinCapacity → t.withinCapacity

/-- Every step keeps the sessions in order: the command credits balance, no return stays pending, a port outside a
session holds none of a session's things, and port states agree with link states (R162, R163, R167, R170). -/
def Obligations.StepKeepsSessionsInOrder : Prop :=
  ∀ s t : State, step s = .next t → s.sessionsInOrder → t.sessionsInOrder

/-- Every step keeps frame 0 apart: its record as the reset wrote it, and no list, offer, record, report or scan naming
it (R2). -/
def Obligations.StepKeepsFrameZeroApart : Prop :=
  ∀ s t : State, step s = .next t → s.frameZeroApart → t.frameZeroApart

/-- Every step keeps the Request Queues in order (R108, R123, R128, R165, R167): their tags distinct and outstanding, in a
session the request credits held, the returns pending and the entries 32 together, and the DONE entries those whose
completions wait to be sent; as long as no pool command's completion carries the tag of a queued request, which R165
keeps (assumption log, 26). -/
def Obligations.StepKeepsRequestsInOrder : Prop :=
  ∀ s t : State, step s = .next t → s.requestsInOrder →
    (∀ p, ∀ c ∈ (s.link p).outbound, c.answers = .command → ∀ e ∈ s.queue p, e.tag ≠ c.tag) →
    t.requestsInOrder

/-- Every step keeps the frames in order (R6, R17): the Free List exactly the FREE frames, each once; the Scrub Queue and
the current frame exactly the SCRUBBING ones, each once, and a current frame just while the Scrub Engine is not IDLE
(R150); held(P) the number of frames whose holder is P. -/
def Obligations.StepKeepsFramesInOrder : Prop :=
  ∀ s t : State, step s = .next t → s.framesInOrder → t.framesInOrder

/-- Every step keeps the maps in agreement with the directory (R27, R40): a valid entry, performed or asked for, is matched
by the item of its port and page with the same frame and access, the last write of an ACTIVE item's entry makes it valid,
an entry without an item is invalid, and every Translation Cache entry equals the map entry as performed. The premises
are invariants stated on their own. -/
def Obligations.StepKeepsMapsInOrder : Prop :=
  ∀ s t : State, step s = .next t → s.framesInOrder → s.sessionsInOrder → s.withinCapacity → s.dram.wf = true →
    s.mapsInOrder → t.mapsInOrder

/-- A byte of pool memory changes only by a write access that a channel carries out, and then lies in that access's
line, or by a reset (R133, R135 to R138, R148). -/
def Obligations.OnlyWritesAndResetsChangeMemory : Prop :=
  ∀ (c : Instr) (s t : State) (x : Nat), exec c s = .next t →
    Memory.read t.dram.mem x ≠ Memory.read s.dram.mem x →
    (∃ (d : ChannelId) (i : Nat) (a : Access64), s.carriedOut d i = some a ∧
      byteAddr (s.lineOf a) ≤ x ∧ x < byteAddr (s.lineOf a) + 64 ∧
      (c = .channelFullWrite d i ∨ ∃ e, c = .channelPartialWrite d i e ∨ c = .channelCswap d i e)) ∨
    (∃ pins, c = .powerOn pins ∨ c = .resetNAssert pins) ∨ (∃ id, c = .chipReset id) ∨
    ∃ bytes id, c = .mgmtRequestTransaction bytes ∧ parseMgmtTransaction bytes = .request id .chipReset
end

