-- ==== Sys2Proof/Laws/Memory.lean ====
section
/-! SUPPORT. The laws of the sparse tables and of pool memory: reading what was written, reading elsewhere, and
that every operation keeps the canonical form; and that a line number names one line. -/

namespace Sys2Proof.Machine

/-- Reading a table after a write gives the value written at that key and what stood elsewhere. -/
theorem sparseGet_sparsePut {α : Type} [DecidableEq α] (d : Nat → α) (m : List (Nat × α)) (k : Nat) (v : α)
    (hw : sparseWf d m = true) (j : Nat) :
    sparseGet d (sparsePut d m k v) j = if j = k then v else sparseGet d m j := by
  induction m with
  | nil =>
    by_cases hj : j = k
    · subst hj; by_cases hv : v = d j <;> simp [sparsePut, sparseGet, hv]
    · have h3 : ¬ k = j := fun h => hj h.symm
      by_cases hv : v = d k <;> simp [sparsePut, sparseGet, hv, hj, h3]
  | cons e t ih =>
    simp only [sparseWf, Bool.and_eq_true, decide_eq_true_eq, List.all_eq_true] at hw
    obtain ⟨⟨he, ht⟩, hwt⟩ := hw
    have above : ∀ x, x ≤ e.1 → sparseGet d t x = d x := by
      intro x hx
      have : ∀ l : List (Nat × α), (∀ e' ∈ l, e.1 < e'.1) → sparseGet d l x = d x := by
        intro l hl
        induction l with
        | nil => rfl
        | cons a l ihl =>
          have ha := hl a (by simp)
          have : a.1 ≠ x := by omega
          simp [sparseGet, this, ihl (fun e' he' => hl e' (by simp [he']))]
      exact this t ht
    by_cases h1 : k < e.1
    · by_cases hv : v = d k
      · by_cases hj : j = k
        · subst hj
          have h2 : e.1 ≠ j := by omega
          simp [sparsePut, h1, hv, sparseGet, h2, above j (by omega)]
        · simp [sparsePut, h1, hv, hj]
      · by_cases hj : j = k
        · subst hj; simp [sparsePut, h1, hv, sparseGet]
        · have h3 : ¬ k = j := fun h => hj h.symm
          simp [sparsePut, h1, hv, hj, sparseGet, h3]
    · by_cases h2 : k = e.1
      · subst h2
        by_cases hv : v = d e.1
        · by_cases hj : j = e.1
          · subst hj; simp [sparsePut, hv, above e.1 (le_refl _)]
          · have h3 : ¬ e.1 = j := fun h => hj h.symm
            simp [sparsePut, hv, hj, sparseGet, h3]
        · by_cases hj : j = e.1
          · subst hj; simp [sparsePut, hv, sparseGet]
          · have h3 : ¬ e.1 = j := fun h => hj h.symm
            simp [sparsePut, hv, hj, sparseGet, h3]
      · have := ih hwt
        by_cases hj : e.1 = j
        · have h4 : ¬ j = k := by omega
          simp only [sparsePut, if_neg h1, if_neg h2, sparseGet, if_pos hj, if_neg h4]
        · simp [sparsePut, h1, h2, sparseGet, hj, this]

/-- A write keeps the keys above a bound that is below the key written. -/
theorem sparsePut_keys {α : Type} [DecidableEq α] (d : Nat → α) (m : List (Nat × α)) (k : Nat) (v : α) (b : Nat)
    (hb : b < k) (hm : ∀ e ∈ m, b < e.1) : ∀ e ∈ sparsePut d m k v, b < e.1 := by
  induction m with
  | nil => intro e he; by_cases hv : v = d k <;> simp_all [sparsePut]
  | cons a t ih =>
    intro e he
    have ih' := ih (fun x hx => hm x (by simp [hx]))
    have ha := hm a (by simp)
    have ht : ∀ x ∈ t, b < x.1 := fun x hx => hm x (by simp [hx])
    simp only [sparsePut] at he
    split at he
    · split at he
      · exact hm e he
      · rcases List.mem_cons.1 he with h | h
        · rw [h]; exact hb
        · exact hm e h
    · split at he
      · split at he
        · exact ht e he
        · rcases List.mem_cons.1 he with h | h
          · rw [h]; exact hb
          · exact ht e h
      · rcases List.mem_cons.1 he with h | h
        · rw [h]; exact ha
        · exact ih' e h

/-- A write keeps the canonical form. -/
theorem sparsePut_wf {α : Type} [DecidableEq α] (d : Nat → α) (m : List (Nat × α)) (k : Nat) (v : α)
    (hw : sparseWf d m = true) : sparseWf d (sparsePut d m k v) = true := by
  induction m with
  | nil => by_cases hv : v = d k <;> simp [sparsePut, sparseWf, hv]
  | cons e t ih =>
    simp only [sparseWf, Bool.and_eq_true, decide_eq_true_eq, List.all_eq_true] at hw
    obtain ⟨⟨he, ht⟩, hwt⟩ := hw
    have hcons : sparseWf d (e :: t) = true := by
      simp only [sparseWf, Bool.and_eq_true, decide_eq_true_eq, List.all_eq_true]; exact ⟨⟨he, ht⟩, hwt⟩
    simp only [sparsePut]
    split
    · rename_i h1
      split
      · exact hcons
      · rename_i hv
        have h2 : sparseWf d ((k, v) :: (e :: t)) = true := by
          rw [sparseWf]
          simp only [Bool.and_eq_true, decide_eq_true_eq, List.all_eq_true]
          refine ⟨⟨hv, ?_⟩, hcons⟩
          intro x hx
          rcases List.mem_cons.1 hx with h | h
          · subst h; exact h1
          · exact lt_trans h1 (ht x h)
        exact h2
    · split
      · rename_i h2
        split
        · exact hwt
        · rename_i hv
          rw [sparseWf]
          simp only [Bool.and_eq_true, decide_eq_true_eq, List.all_eq_true]
          refine ⟨⟨hv, ?_⟩, hwt⟩
          intro x hx
          rw [h2]; exact ht x hx
      · rename_i h1 h2
        rw [sparseWf]
        simp only [Bool.and_eq_true, decide_eq_true_eq, List.all_eq_true]
        exact ⟨⟨he, sparsePut_keys d t k v e.1 (by omega) ht⟩, ih hwt⟩

/-! ### Pool memory -/

/-- Reading a byte after writing one. -/
theorem Memory.read_write (m : Memory) (a b : Nat) (v : Byte) (hw : Memory.wf m = true) :
    Memory.read (Memory.write m a v) b = if b = a then v else Memory.read m b :=
  sparseGet_sparsePut Memory.unlisted m a v hw b

/-- A write of one byte keeps the canonical form. -/
theorem Memory.write_wf (m : Memory) (a : Nat) (v : Byte) (hw : Memory.wf m = true) :
    Memory.wf (Memory.write m a v) = true :=
  sparsePut_wf Memory.unlisted m a v hw

/-- A write of bytes keeps the canonical form. -/
theorem Memory.writeBytes_wf (bs : List Byte) (m : Memory) (a : Nat) (hw : Memory.wf m = true) :
    Memory.wf (Memory.writeBytes m a bs) = true := by
  induction bs generalizing m a with
  | nil => exact hw
  | cons b bs ih => exact ih _ _ (Memory.write_wf m a b hw)

/-- Bytes below the first one written read as before. -/
theorem Memory.read_writeBytes_below (bs : List Byte) (m : Memory) (a x : Nat) (hw : Memory.wf m = true)
    (hx : x < a) : Memory.read (Memory.writeBytes m a bs) x = Memory.read m x := by
  induction bs generalizing m a with
  | nil => rfl
  | cons b bs ih =>
    have h : x ≠ a := by omega
    rw [Memory.writeBytes, ih _ _ (Memory.write_wf m a b hw) (by omega), Memory.read_write m a x b hw, if_neg h]

/-- Reading after a write of bytes: the byte written at its place, and what stood elsewhere. -/
theorem Memory.read_writeBytes (bs : List Byte) (m : Memory) (a x : Nat) (hw : Memory.wf m = true) :
    Memory.read (Memory.writeBytes m a bs) x =
      if a ≤ x ∧ x < a + bs.length then bs.getD (x - a) 0 else Memory.read m x := by
  induction bs generalizing m a with
  | nil => simp [Memory.writeBytes]
  | cons b bs ih =>
    by_cases hx : x = a
    · subst hx
      rw [Memory.writeBytes, Memory.read_writeBytes_below bs _ _ _ (Memory.write_wf m x b hw) (by omega),
        Memory.read_write m x x b hw]
      simp
    · rw [Memory.writeBytes, ih _ _ (Memory.write_wf m a b hw), Memory.read_write m a x b hw, if_neg hx]
      by_cases h : a + 1 ≤ x ∧ x < a + 1 + bs.length
      · have h2 : a ≤ x ∧ x < a + (b :: bs).length := by simp; omega
        rw [if_pos h, if_pos h2]
        have h3 : x - a = (x - (a + 1)) + 1 := by omega
        rw [h3]; simp
      · have h2 : ¬ (a ≤ x ∧ x < a + (b :: bs).length) := by simp; omega
        rw [if_neg h, if_neg h2]

/-! ### Lines of DRAM -/

/-- Storing a line keeps the canonical form. -/
theorem Dram.storeLine_wf (d : Dram) (n : Nat) (bs : List Byte) (hw : d.wf = true) :
    (d.storeLine n bs).wf = true := by
  simp only [Dram.wf, Bool.and_eq_true] at hw ⊢
  exact ⟨⟨Memory.writeBytes_wf _ _ _ hw.1.1, hw.1.2⟩, sparsePut_wf _ _ _ _ hw.2⟩

/-- Storing a map entry keeps the canonical form. -/
theorem Dram.storeMap_wf (d : Dram) (l : Nat) (v : MapValue) (hw : d.wf = true) : (d.storeMap l v).wf = true := by
  simp only [Dram.wf, Bool.and_eq_true] at hw ⊢
  exact ⟨⟨hw.1.1, sparsePut_wf _ _ _ _ hw.1.2⟩, sparsePut_wf _ _ _ _ hw.2⟩

/-- Marking a line uncorrectable keeps the canonical form. -/
theorem Dram.markBad_wf (d : Dram) (n : Nat) (hw : d.wf = true) : (d.markBad n).wf = true := by
  simp only [Dram.wf, Bool.and_eq_true] at hw ⊢
  exact ⟨hw.1, sparsePut_wf _ _ _ _ hw.2⟩

/-- DRAM at power-on is in canonical form. -/
theorem Dram.atPowerOn_wf : Dram.atPowerOn.wf = true := rfl

/-- The memory of the reset state is in canonical form. -/
theorem State.reset_memory_wf : State.reset.dram.wf = true := rfl

/-- Marking a line uncorrectable leaves every byte and every map entry. -/
@[simp] theorem Dram.markBad_mem (d : Dram) (n : Nat) : (d.markBad n).mem = d.mem := rfl

/-- Storing a map entry leaves every byte. -/
@[simp] theorem Dram.storeMap_mem (d : Dram) (l : Nat) (v : MapValue) : (d.storeMap l v).mem = d.mem := rfl

/-- Every byte after a line is stored. -/
theorem Dram.read_storeLine (d : Dram) (n : Nat) (bs : List Byte) (hw : d.wf = true) (x : Nat) :
    Memory.read (d.storeLine n bs).mem x =
      if byteAddr n ≤ x ∧ x < byteAddr n + (bs.take Config.lineBytes).length then
        (bs.take Config.lineBytes).getD (x - byteAddr n) 0
      else Memory.read d.mem x := by
  simp only [Dram.wf, Bool.and_eq_true] at hw
  exact Memory.read_writeBytes _ _ _ _ hw.1.1

/-! ### Line numbers -/

/-- Two lines of frames of the pool have one number only when they are the same line of the same frame (R131). -/
theorem lineAddr_inj {pop : Population} {f g l m : Nat} (hc : 0 < pop.channels)
    (hf : f < 8192 * pop.channels) (hg : g < 8192 * pop.channels)
    (hl : l < 32768) (hm : m < 32768) (h : lineAddr pop f l = lineAddr pop g m) : f = g ∧ l = m := by
  have hf' : f / pop.channels < 8192 := (Nat.div_lt_iff_lt_mul hc).2 hf
  have hg' : g / pop.channels < 8192 := (Nat.div_lt_iff_lt_mul hc).2 hg
  simp only [lineAddr, channelLine, Config.maxChannelFrames, Config.linesPerFrame] at h
  have h1 : f % pop.channels = g % pop.channels := by omega
  have h2 : f / pop.channels = g / pop.channels := by omega
  refine ⟨?_, by omega⟩
  rw [← Nat.div_add_mod f pop.channels, ← Nat.div_add_mod g pop.channels, h1, h2]

/-- A line of frame 0 has its own number on every population. -/
@[simp] theorem lineAddr_zero (pop : Population) (l : Nat) : lineAddr pop 0 l = l := by
  simp [lineAddr, channelLine]

end Sys2Proof.Machine
end

