-- ==== Sys2Proof/Laws/State.lean ====
section
/-! SUPPORT. One lemma per field per update of the state, each true by definition, so that no later proof unfolds
a record update. -/

namespace Sys2Proof.Machine

/-! ### setLink -/

@[simp] theorem State.setLink_supplyValid (s : State) (p : PortId) (x : LinkPort) : (s.setLink p x).supplyValid = s.supplyValid := rfl
@[simp] theorem State.setLink_resetAsserted (s : State) (p : PortId) (x : LinkPort) : (s.setLink p x).resetAsserted = s.resetAsserted := rfl
@[simp] theorem State.setLink_pop (s : State) (p : PortId) (x : LinkPort) : (s.setLink p x).pop = s.pop := rfl
@[simp] theorem State.setLink_device (s : State) (p : PortId) (x : LinkPort) : (s.setLink p x).device = s.device := rfl
@[simp] theorem State.setLink_links (s : State) (p : PortId) (x : LinkPort) : (s.setLink p x).links = s.links.set p x := rfl
@[simp] theorem State.setLink_requests (s : State) (p : PortId) (x : LinkPort) : (s.setLink p x).requests = s.requests := rfl
@[simp] theorem State.setLink_caches (s : State) (p : PortId) (x : LinkPort) : (s.setLink p x).caches = s.caches := rfl
@[simp] theorem State.setLink_walker (s : State) (p : PortId) (x : LinkPort) : (s.setLink p x).walker = s.walker := rfl
@[simp] theorem State.setLink_mapUnit (s : State) (p : PortId) (x : LinkPort) : (s.setLink p x).mapUnit = s.mapUnit := rfl
@[simp] theorem State.setLink_engine (s : State) (p : PortId) (x : LinkPort) : (s.setLink p x).engine = s.engine := rfl
@[simp] theorem State.setLink_recalls (s : State) (p : PortId) (x : LinkPort) : (s.setLink p x).recalls = s.recalls := rfl
@[simp] theorem State.setLink_channels (s : State) (p : PortId) (x : LinkPort) : (s.setLink p x).channels = s.channels := rfl
@[simp] theorem State.setLink_scrub (s : State) (p : PortId) (x : LinkPort) : (s.setLink p x).scrub = s.scrub := rfl
@[simp] theorem State.setLink_mgmt (s : State) (p : PortId) (x : LinkPort) : (s.setLink p x).mgmt = s.mgmt := rfl
@[simp] theorem State.setLink_flight (s : State) (p : PortId) (x : LinkPort) : (s.setLink p x).flight = s.flight := rfl
@[simp] theorem State.setLink_dram (s : State) (p : PortId) (x : LinkPort) : (s.setLink p x).dram = s.dram := rfl
@[simp] theorem State.setLink_now (s : State) (p : PortId) (x : LinkPort) : (s.setLink p x).now = s.now := rfl
@[simp] theorem State.setLink_freeCount (s : State) (p : PortId) (x : LinkPort) : (s.setLink p x).freeCount = s.freeCount := rfl
@[simp] theorem State.setLink_pending (s : State) (p : PortId) (x : LinkPort) : (s.setLink p x).pending = s.pending := rfl

@[simp] theorem State.setLink_queue (s : State) (p : PortId) (x : LinkPort) (q : PortId) : (s.setLink p x).queue q = s.queue q := rfl
@[simp] theorem State.setLink_cache (s : State) (p : PortId) (x : LinkPort) (q : PortId) : (s.setLink p x).cache q = s.cache q := rfl
@[simp] theorem State.setLink_channel (s : State) (p : PortId) (x : LinkPort) (q : ChannelId) : (s.setLink p x).channel q = s.channel q := rfl
@[simp] theorem State.setLink_record (s : State) (p : PortId) (x : LinkPort) (f : Nat) : (s.setLink p x).record f = s.record f := rfl
@[simp] theorem State.setLink_recordById (s : State) (p : PortId) (x : LinkPort) (r : Nat) : (s.setLink p x).recordById r = s.recordById r := rfl
@[simp] theorem State.setLink_frames (s : State) (p : PortId) (x : LinkPort) : (s.setLink p x).frames = s.frames := rfl
@[simp] theorem State.setLink_operating (s : State) (p : PortId) (x : LinkPort) : (s.setLink p x).operating = s.operating := rfl

/-! ### setQueue -/

@[simp] theorem State.setQueue_supplyValid (s : State) (p : PortId) (x : List ReqEntry) : (s.setQueue p x).supplyValid = s.supplyValid := rfl
@[simp] theorem State.setQueue_resetAsserted (s : State) (p : PortId) (x : List ReqEntry) : (s.setQueue p x).resetAsserted = s.resetAsserted := rfl
@[simp] theorem State.setQueue_pop (s : State) (p : PortId) (x : List ReqEntry) : (s.setQueue p x).pop = s.pop := rfl
@[simp] theorem State.setQueue_device (s : State) (p : PortId) (x : List ReqEntry) : (s.setQueue p x).device = s.device := rfl
@[simp] theorem State.setQueue_links (s : State) (p : PortId) (x : List ReqEntry) : (s.setQueue p x).links = s.links := rfl
@[simp] theorem State.setQueue_requests (s : State) (p : PortId) (x : List ReqEntry) : (s.setQueue p x).requests = s.requests.set p x := rfl
@[simp] theorem State.setQueue_caches (s : State) (p : PortId) (x : List ReqEntry) : (s.setQueue p x).caches = s.caches := rfl
@[simp] theorem State.setQueue_walker (s : State) (p : PortId) (x : List ReqEntry) : (s.setQueue p x).walker = s.walker := rfl
@[simp] theorem State.setQueue_mapUnit (s : State) (p : PortId) (x : List ReqEntry) : (s.setQueue p x).mapUnit = s.mapUnit := rfl
@[simp] theorem State.setQueue_engine (s : State) (p : PortId) (x : List ReqEntry) : (s.setQueue p x).engine = s.engine := rfl
@[simp] theorem State.setQueue_recalls (s : State) (p : PortId) (x : List ReqEntry) : (s.setQueue p x).recalls = s.recalls := rfl
@[simp] theorem State.setQueue_channels (s : State) (p : PortId) (x : List ReqEntry) : (s.setQueue p x).channels = s.channels := rfl
@[simp] theorem State.setQueue_scrub (s : State) (p : PortId) (x : List ReqEntry) : (s.setQueue p x).scrub = s.scrub := rfl
@[simp] theorem State.setQueue_mgmt (s : State) (p : PortId) (x : List ReqEntry) : (s.setQueue p x).mgmt = s.mgmt := rfl
@[simp] theorem State.setQueue_flight (s : State) (p : PortId) (x : List ReqEntry) : (s.setQueue p x).flight = s.flight := rfl
@[simp] theorem State.setQueue_dram (s : State) (p : PortId) (x : List ReqEntry) : (s.setQueue p x).dram = s.dram := rfl
@[simp] theorem State.setQueue_now (s : State) (p : PortId) (x : List ReqEntry) : (s.setQueue p x).now = s.now := rfl
@[simp] theorem State.setQueue_freeCount (s : State) (p : PortId) (x : List ReqEntry) : (s.setQueue p x).freeCount = s.freeCount := rfl
@[simp] theorem State.setQueue_pending (s : State) (p : PortId) (x : List ReqEntry) : (s.setQueue p x).pending = s.pending := rfl

@[simp] theorem State.setQueue_link (s : State) (p : PortId) (x : List ReqEntry) (q : PortId) : (s.setQueue p x).link q = s.link q := rfl
@[simp] theorem State.setQueue_cache (s : State) (p : PortId) (x : List ReqEntry) (q : PortId) : (s.setQueue p x).cache q = s.cache q := rfl
@[simp] theorem State.setQueue_channel (s : State) (p : PortId) (x : List ReqEntry) (q : ChannelId) : (s.setQueue p x).channel q = s.channel q := rfl
@[simp] theorem State.setQueue_record (s : State) (p : PortId) (x : List ReqEntry) (f : Nat) : (s.setQueue p x).record f = s.record f := rfl
@[simp] theorem State.setQueue_recordById (s : State) (p : PortId) (x : List ReqEntry) (r : Nat) : (s.setQueue p x).recordById r = s.recordById r := rfl
@[simp] theorem State.setQueue_frames (s : State) (p : PortId) (x : List ReqEntry) : (s.setQueue p x).frames = s.frames := rfl
@[simp] theorem State.setQueue_operating (s : State) (p : PortId) (x : List ReqEntry) : (s.setQueue p x).operating = s.operating := rfl

/-! ### setCache -/

@[simp] theorem State.setCache_supplyValid (s : State) (p : PortId) (x : List CacheEntry) : (s.setCache p x).supplyValid = s.supplyValid := rfl
@[simp] theorem State.setCache_resetAsserted (s : State) (p : PortId) (x : List CacheEntry) : (s.setCache p x).resetAsserted = s.resetAsserted := rfl
@[simp] theorem State.setCache_pop (s : State) (p : PortId) (x : List CacheEntry) : (s.setCache p x).pop = s.pop := rfl
@[simp] theorem State.setCache_device (s : State) (p : PortId) (x : List CacheEntry) : (s.setCache p x).device = s.device := rfl
@[simp] theorem State.setCache_links (s : State) (p : PortId) (x : List CacheEntry) : (s.setCache p x).links = s.links := rfl
@[simp] theorem State.setCache_requests (s : State) (p : PortId) (x : List CacheEntry) : (s.setCache p x).requests = s.requests := rfl
@[simp] theorem State.setCache_caches (s : State) (p : PortId) (x : List CacheEntry) : (s.setCache p x).caches = s.caches.set p x := rfl
@[simp] theorem State.setCache_walker (s : State) (p : PortId) (x : List CacheEntry) : (s.setCache p x).walker = s.walker := rfl
@[simp] theorem State.setCache_mapUnit (s : State) (p : PortId) (x : List CacheEntry) : (s.setCache p x).mapUnit = s.mapUnit := rfl
@[simp] theorem State.setCache_engine (s : State) (p : PortId) (x : List CacheEntry) : (s.setCache p x).engine = s.engine := rfl
@[simp] theorem State.setCache_recalls (s : State) (p : PortId) (x : List CacheEntry) : (s.setCache p x).recalls = s.recalls := rfl
@[simp] theorem State.setCache_channels (s : State) (p : PortId) (x : List CacheEntry) : (s.setCache p x).channels = s.channels := rfl
@[simp] theorem State.setCache_scrub (s : State) (p : PortId) (x : List CacheEntry) : (s.setCache p x).scrub = s.scrub := rfl
@[simp] theorem State.setCache_mgmt (s : State) (p : PortId) (x : List CacheEntry) : (s.setCache p x).mgmt = s.mgmt := rfl
@[simp] theorem State.setCache_flight (s : State) (p : PortId) (x : List CacheEntry) : (s.setCache p x).flight = s.flight := rfl
@[simp] theorem State.setCache_dram (s : State) (p : PortId) (x : List CacheEntry) : (s.setCache p x).dram = s.dram := rfl
@[simp] theorem State.setCache_now (s : State) (p : PortId) (x : List CacheEntry) : (s.setCache p x).now = s.now := rfl
@[simp] theorem State.setCache_freeCount (s : State) (p : PortId) (x : List CacheEntry) : (s.setCache p x).freeCount = s.freeCount := rfl
@[simp] theorem State.setCache_pending (s : State) (p : PortId) (x : List CacheEntry) : (s.setCache p x).pending = s.pending := rfl

@[simp] theorem State.setCache_link (s : State) (p : PortId) (x : List CacheEntry) (q : PortId) : (s.setCache p x).link q = s.link q := rfl
@[simp] theorem State.setCache_queue (s : State) (p : PortId) (x : List CacheEntry) (q : PortId) : (s.setCache p x).queue q = s.queue q := rfl
@[simp] theorem State.setCache_channel (s : State) (p : PortId) (x : List CacheEntry) (q : ChannelId) : (s.setCache p x).channel q = s.channel q := rfl
@[simp] theorem State.setCache_record (s : State) (p : PortId) (x : List CacheEntry) (f : Nat) : (s.setCache p x).record f = s.record f := rfl
@[simp] theorem State.setCache_recordById (s : State) (p : PortId) (x : List CacheEntry) (r : Nat) : (s.setCache p x).recordById r = s.recordById r := rfl
@[simp] theorem State.setCache_frames (s : State) (p : PortId) (x : List CacheEntry) : (s.setCache p x).frames = s.frames := rfl
@[simp] theorem State.setCache_operating (s : State) (p : PortId) (x : List CacheEntry) : (s.setCache p x).operating = s.operating := rfl

/-! ### setWalker -/

@[simp] theorem State.setWalker_supplyValid (s : State) (x : Walker) : (s.setWalker x).supplyValid = s.supplyValid := rfl
@[simp] theorem State.setWalker_resetAsserted (s : State) (x : Walker) : (s.setWalker x).resetAsserted = s.resetAsserted := rfl
@[simp] theorem State.setWalker_pop (s : State) (x : Walker) : (s.setWalker x).pop = s.pop := rfl
@[simp] theorem State.setWalker_device (s : State) (x : Walker) : (s.setWalker x).device = s.device := rfl
@[simp] theorem State.setWalker_links (s : State) (x : Walker) : (s.setWalker x).links = s.links := rfl
@[simp] theorem State.setWalker_requests (s : State) (x : Walker) : (s.setWalker x).requests = s.requests := rfl
@[simp] theorem State.setWalker_caches (s : State) (x : Walker) : (s.setWalker x).caches = s.caches := rfl
@[simp] theorem State.setWalker_walker (s : State) (x : Walker) : (s.setWalker x).walker = x := rfl
@[simp] theorem State.setWalker_mapUnit (s : State) (x : Walker) : (s.setWalker x).mapUnit = s.mapUnit := rfl
@[simp] theorem State.setWalker_engine (s : State) (x : Walker) : (s.setWalker x).engine = s.engine := rfl
@[simp] theorem State.setWalker_recalls (s : State) (x : Walker) : (s.setWalker x).recalls = s.recalls := rfl
@[simp] theorem State.setWalker_channels (s : State) (x : Walker) : (s.setWalker x).channels = s.channels := rfl
@[simp] theorem State.setWalker_scrub (s : State) (x : Walker) : (s.setWalker x).scrub = s.scrub := rfl
@[simp] theorem State.setWalker_mgmt (s : State) (x : Walker) : (s.setWalker x).mgmt = s.mgmt := rfl
@[simp] theorem State.setWalker_flight (s : State) (x : Walker) : (s.setWalker x).flight = s.flight := rfl
@[simp] theorem State.setWalker_dram (s : State) (x : Walker) : (s.setWalker x).dram = s.dram := rfl
@[simp] theorem State.setWalker_now (s : State) (x : Walker) : (s.setWalker x).now = s.now := rfl
@[simp] theorem State.setWalker_freeCount (s : State) (x : Walker) : (s.setWalker x).freeCount = s.freeCount := rfl
@[simp] theorem State.setWalker_pending (s : State) (x : Walker) : (s.setWalker x).pending = s.pending := rfl

@[simp] theorem State.setWalker_link (s : State) (x : Walker) (q : PortId) : (s.setWalker x).link q = s.link q := rfl
@[simp] theorem State.setWalker_queue (s : State) (x : Walker) (q : PortId) : (s.setWalker x).queue q = s.queue q := rfl
@[simp] theorem State.setWalker_cache (s : State) (x : Walker) (q : PortId) : (s.setWalker x).cache q = s.cache q := rfl
@[simp] theorem State.setWalker_channel (s : State) (x : Walker) (q : ChannelId) : (s.setWalker x).channel q = s.channel q := rfl
@[simp] theorem State.setWalker_record (s : State) (x : Walker) (f : Nat) : (s.setWalker x).record f = s.record f := rfl
@[simp] theorem State.setWalker_recordById (s : State) (x : Walker) (r : Nat) : (s.setWalker x).recordById r = s.recordById r := rfl
@[simp] theorem State.setWalker_frames (s : State) (x : Walker) : (s.setWalker x).frames = s.frames := rfl
@[simp] theorem State.setWalker_operating (s : State) (x : Walker) : (s.setWalker x).operating = s.operating := rfl

/-! ### setMapUnit -/

@[simp] theorem State.setMapUnit_supplyValid (s : State) (x : MapUnit) : (s.setMapUnit x).supplyValid = s.supplyValid := rfl
@[simp] theorem State.setMapUnit_resetAsserted (s : State) (x : MapUnit) : (s.setMapUnit x).resetAsserted = s.resetAsserted := rfl
@[simp] theorem State.setMapUnit_pop (s : State) (x : MapUnit) : (s.setMapUnit x).pop = s.pop := rfl
@[simp] theorem State.setMapUnit_device (s : State) (x : MapUnit) : (s.setMapUnit x).device = s.device := rfl
@[simp] theorem State.setMapUnit_links (s : State) (x : MapUnit) : (s.setMapUnit x).links = s.links := rfl
@[simp] theorem State.setMapUnit_requests (s : State) (x : MapUnit) : (s.setMapUnit x).requests = s.requests := rfl
@[simp] theorem State.setMapUnit_caches (s : State) (x : MapUnit) : (s.setMapUnit x).caches = s.caches := rfl
@[simp] theorem State.setMapUnit_walker (s : State) (x : MapUnit) : (s.setMapUnit x).walker = s.walker := rfl
@[simp] theorem State.setMapUnit_mapUnit (s : State) (x : MapUnit) : (s.setMapUnit x).mapUnit = x := rfl
@[simp] theorem State.setMapUnit_engine (s : State) (x : MapUnit) : (s.setMapUnit x).engine = s.engine := rfl
@[simp] theorem State.setMapUnit_recalls (s : State) (x : MapUnit) : (s.setMapUnit x).recalls = s.recalls := rfl
@[simp] theorem State.setMapUnit_channels (s : State) (x : MapUnit) : (s.setMapUnit x).channels = s.channels := rfl
@[simp] theorem State.setMapUnit_scrub (s : State) (x : MapUnit) : (s.setMapUnit x).scrub = s.scrub := rfl
@[simp] theorem State.setMapUnit_mgmt (s : State) (x : MapUnit) : (s.setMapUnit x).mgmt = s.mgmt := rfl
@[simp] theorem State.setMapUnit_flight (s : State) (x : MapUnit) : (s.setMapUnit x).flight = s.flight := rfl
@[simp] theorem State.setMapUnit_dram (s : State) (x : MapUnit) : (s.setMapUnit x).dram = s.dram := rfl
@[simp] theorem State.setMapUnit_now (s : State) (x : MapUnit) : (s.setMapUnit x).now = s.now := rfl
@[simp] theorem State.setMapUnit_freeCount (s : State) (x : MapUnit) : (s.setMapUnit x).freeCount = s.freeCount := rfl
@[simp] theorem State.setMapUnit_pending (s : State) (x : MapUnit) : (s.setMapUnit x).pending = s.pending := rfl

@[simp] theorem State.setMapUnit_link (s : State) (x : MapUnit) (q : PortId) : (s.setMapUnit x).link q = s.link q := rfl
@[simp] theorem State.setMapUnit_queue (s : State) (x : MapUnit) (q : PortId) : (s.setMapUnit x).queue q = s.queue q := rfl
@[simp] theorem State.setMapUnit_cache (s : State) (x : MapUnit) (q : PortId) : (s.setMapUnit x).cache q = s.cache q := rfl
@[simp] theorem State.setMapUnit_channel (s : State) (x : MapUnit) (q : ChannelId) : (s.setMapUnit x).channel q = s.channel q := rfl
@[simp] theorem State.setMapUnit_record (s : State) (x : MapUnit) (f : Nat) : (s.setMapUnit x).record f = s.record f := rfl
@[simp] theorem State.setMapUnit_recordById (s : State) (x : MapUnit) (r : Nat) : (s.setMapUnit x).recordById r = s.recordById r := rfl
@[simp] theorem State.setMapUnit_frames (s : State) (x : MapUnit) : (s.setMapUnit x).frames = s.frames := rfl
@[simp] theorem State.setMapUnit_operating (s : State) (x : MapUnit) : (s.setMapUnit x).operating = s.operating := rfl

/-! ### setEngine -/

@[simp] theorem State.setEngine_supplyValid (s : State) (x : Engine) : (s.setEngine x).supplyValid = s.supplyValid := rfl
@[simp] theorem State.setEngine_resetAsserted (s : State) (x : Engine) : (s.setEngine x).resetAsserted = s.resetAsserted := rfl
@[simp] theorem State.setEngine_pop (s : State) (x : Engine) : (s.setEngine x).pop = s.pop := rfl
@[simp] theorem State.setEngine_device (s : State) (x : Engine) : (s.setEngine x).device = s.device := rfl
@[simp] theorem State.setEngine_links (s : State) (x : Engine) : (s.setEngine x).links = s.links := rfl
@[simp] theorem State.setEngine_requests (s : State) (x : Engine) : (s.setEngine x).requests = s.requests := rfl
@[simp] theorem State.setEngine_caches (s : State) (x : Engine) : (s.setEngine x).caches = s.caches := rfl
@[simp] theorem State.setEngine_walker (s : State) (x : Engine) : (s.setEngine x).walker = s.walker := rfl
@[simp] theorem State.setEngine_mapUnit (s : State) (x : Engine) : (s.setEngine x).mapUnit = s.mapUnit := rfl
@[simp] theorem State.setEngine_engine (s : State) (x : Engine) : (s.setEngine x).engine = x := rfl
@[simp] theorem State.setEngine_recalls (s : State) (x : Engine) : (s.setEngine x).recalls = s.recalls := rfl
@[simp] theorem State.setEngine_channels (s : State) (x : Engine) : (s.setEngine x).channels = s.channels := rfl
@[simp] theorem State.setEngine_scrub (s : State) (x : Engine) : (s.setEngine x).scrub = s.scrub := rfl
@[simp] theorem State.setEngine_mgmt (s : State) (x : Engine) : (s.setEngine x).mgmt = s.mgmt := rfl
@[simp] theorem State.setEngine_flight (s : State) (x : Engine) : (s.setEngine x).flight = s.flight := rfl
@[simp] theorem State.setEngine_dram (s : State) (x : Engine) : (s.setEngine x).dram = s.dram := rfl
@[simp] theorem State.setEngine_now (s : State) (x : Engine) : (s.setEngine x).now = s.now := rfl
@[simp] theorem State.setEngine_freeCount (s : State) (x : Engine) : (s.setEngine x).freeCount = s.freeCount := rfl
@[simp] theorem State.setEngine_pending (s : State) (x : Engine) : (s.setEngine x).pending = s.pending := rfl

@[simp] theorem State.setEngine_link (s : State) (x : Engine) (q : PortId) : (s.setEngine x).link q = s.link q := rfl
@[simp] theorem State.setEngine_queue (s : State) (x : Engine) (q : PortId) : (s.setEngine x).queue q = s.queue q := rfl
@[simp] theorem State.setEngine_cache (s : State) (x : Engine) (q : PortId) : (s.setEngine x).cache q = s.cache q := rfl
@[simp] theorem State.setEngine_channel (s : State) (x : Engine) (q : ChannelId) : (s.setEngine x).channel q = s.channel q := rfl
@[simp] theorem State.setEngine_recordById (s : State) (x : Engine) (r : Nat) : (s.setEngine x).recordById r = s.recordById r := rfl
@[simp] theorem State.setEngine_frames (s : State) (x : Engine) : (s.setEngine x).frames = s.frames := rfl
@[simp] theorem State.setEngine_operating (s : State) (x : Engine) : (s.setEngine x).operating = s.operating := rfl

/-! ### setRecalls -/

@[simp] theorem State.setRecalls_supplyValid (s : State) (x : RecallUnit) : (s.setRecalls x).supplyValid = s.supplyValid := rfl
@[simp] theorem State.setRecalls_resetAsserted (s : State) (x : RecallUnit) : (s.setRecalls x).resetAsserted = s.resetAsserted := rfl
@[simp] theorem State.setRecalls_pop (s : State) (x : RecallUnit) : (s.setRecalls x).pop = s.pop := rfl
@[simp] theorem State.setRecalls_device (s : State) (x : RecallUnit) : (s.setRecalls x).device = s.device := rfl
@[simp] theorem State.setRecalls_links (s : State) (x : RecallUnit) : (s.setRecalls x).links = s.links := rfl
@[simp] theorem State.setRecalls_requests (s : State) (x : RecallUnit) : (s.setRecalls x).requests = s.requests := rfl
@[simp] theorem State.setRecalls_caches (s : State) (x : RecallUnit) : (s.setRecalls x).caches = s.caches := rfl
@[simp] theorem State.setRecalls_walker (s : State) (x : RecallUnit) : (s.setRecalls x).walker = s.walker := rfl
@[simp] theorem State.setRecalls_mapUnit (s : State) (x : RecallUnit) : (s.setRecalls x).mapUnit = s.mapUnit := rfl
@[simp] theorem State.setRecalls_engine (s : State) (x : RecallUnit) : (s.setRecalls x).engine = s.engine := rfl
@[simp] theorem State.setRecalls_recalls (s : State) (x : RecallUnit) : (s.setRecalls x).recalls = x := rfl
@[simp] theorem State.setRecalls_channels (s : State) (x : RecallUnit) : (s.setRecalls x).channels = s.channels := rfl
@[simp] theorem State.setRecalls_scrub (s : State) (x : RecallUnit) : (s.setRecalls x).scrub = s.scrub := rfl
@[simp] theorem State.setRecalls_mgmt (s : State) (x : RecallUnit) : (s.setRecalls x).mgmt = s.mgmt := rfl
@[simp] theorem State.setRecalls_flight (s : State) (x : RecallUnit) : (s.setRecalls x).flight = s.flight := rfl
@[simp] theorem State.setRecalls_dram (s : State) (x : RecallUnit) : (s.setRecalls x).dram = s.dram := rfl
@[simp] theorem State.setRecalls_now (s : State) (x : RecallUnit) : (s.setRecalls x).now = s.now := rfl
@[simp] theorem State.setRecalls_freeCount (s : State) (x : RecallUnit) : (s.setRecalls x).freeCount = s.freeCount := rfl
@[simp] theorem State.setRecalls_pending (s : State) (x : RecallUnit) : (s.setRecalls x).pending = s.pending := rfl

@[simp] theorem State.setRecalls_link (s : State) (x : RecallUnit) (q : PortId) : (s.setRecalls x).link q = s.link q := rfl
@[simp] theorem State.setRecalls_queue (s : State) (x : RecallUnit) (q : PortId) : (s.setRecalls x).queue q = s.queue q := rfl
@[simp] theorem State.setRecalls_cache (s : State) (x : RecallUnit) (q : PortId) : (s.setRecalls x).cache q = s.cache q := rfl
@[simp] theorem State.setRecalls_channel (s : State) (x : RecallUnit) (q : ChannelId) : (s.setRecalls x).channel q = s.channel q := rfl
@[simp] theorem State.setRecalls_record (s : State) (x : RecallUnit) (f : Nat) : (s.setRecalls x).record f = s.record f := rfl
@[simp] theorem State.setRecalls_frames (s : State) (x : RecallUnit) : (s.setRecalls x).frames = s.frames := rfl
@[simp] theorem State.setRecalls_operating (s : State) (x : RecallUnit) : (s.setRecalls x).operating = s.operating := rfl

/-! ### setChannel -/

@[simp] theorem State.setChannel_supplyValid (s : State) (p : ChannelId) (x : Channel) : (s.setChannel p x).supplyValid = s.supplyValid := rfl
@[simp] theorem State.setChannel_resetAsserted (s : State) (p : ChannelId) (x : Channel) : (s.setChannel p x).resetAsserted = s.resetAsserted := rfl
@[simp] theorem State.setChannel_pop (s : State) (p : ChannelId) (x : Channel) : (s.setChannel p x).pop = s.pop := rfl
@[simp] theorem State.setChannel_device (s : State) (p : ChannelId) (x : Channel) : (s.setChannel p x).device = s.device := rfl
@[simp] theorem State.setChannel_links (s : State) (p : ChannelId) (x : Channel) : (s.setChannel p x).links = s.links := rfl
@[simp] theorem State.setChannel_requests (s : State) (p : ChannelId) (x : Channel) : (s.setChannel p x).requests = s.requests := rfl
@[simp] theorem State.setChannel_caches (s : State) (p : ChannelId) (x : Channel) : (s.setChannel p x).caches = s.caches := rfl
@[simp] theorem State.setChannel_walker (s : State) (p : ChannelId) (x : Channel) : (s.setChannel p x).walker = s.walker := rfl
@[simp] theorem State.setChannel_mapUnit (s : State) (p : ChannelId) (x : Channel) : (s.setChannel p x).mapUnit = s.mapUnit := rfl
@[simp] theorem State.setChannel_engine (s : State) (p : ChannelId) (x : Channel) : (s.setChannel p x).engine = s.engine := rfl
@[simp] theorem State.setChannel_recalls (s : State) (p : ChannelId) (x : Channel) : (s.setChannel p x).recalls = s.recalls := rfl
@[simp] theorem State.setChannel_channels (s : State) (p : ChannelId) (x : Channel) : (s.setChannel p x).channels = s.channels.set p x := rfl
@[simp] theorem State.setChannel_scrub (s : State) (p : ChannelId) (x : Channel) : (s.setChannel p x).scrub = s.scrub := rfl
@[simp] theorem State.setChannel_mgmt (s : State) (p : ChannelId) (x : Channel) : (s.setChannel p x).mgmt = s.mgmt := rfl
@[simp] theorem State.setChannel_flight (s : State) (p : ChannelId) (x : Channel) : (s.setChannel p x).flight = s.flight := rfl
@[simp] theorem State.setChannel_dram (s : State) (p : ChannelId) (x : Channel) : (s.setChannel p x).dram = s.dram := rfl
@[simp] theorem State.setChannel_now (s : State) (p : ChannelId) (x : Channel) : (s.setChannel p x).now = s.now := rfl
@[simp] theorem State.setChannel_freeCount (s : State) (p : ChannelId) (x : Channel) : (s.setChannel p x).freeCount = s.freeCount := rfl
@[simp] theorem State.setChannel_pending (s : State) (p : ChannelId) (x : Channel) : (s.setChannel p x).pending = s.pending := rfl

@[simp] theorem State.setChannel_link (s : State) (p : ChannelId) (x : Channel) (q : PortId) : (s.setChannel p x).link q = s.link q := rfl
@[simp] theorem State.setChannel_queue (s : State) (p : ChannelId) (x : Channel) (q : PortId) : (s.setChannel p x).queue q = s.queue q := rfl
@[simp] theorem State.setChannel_cache (s : State) (p : ChannelId) (x : Channel) (q : PortId) : (s.setChannel p x).cache q = s.cache q := rfl
@[simp] theorem State.setChannel_record (s : State) (p : ChannelId) (x : Channel) (f : Nat) : (s.setChannel p x).record f = s.record f := rfl
@[simp] theorem State.setChannel_recordById (s : State) (p : ChannelId) (x : Channel) (r : Nat) : (s.setChannel p x).recordById r = s.recordById r := rfl
@[simp] theorem State.setChannel_frames (s : State) (p : ChannelId) (x : Channel) : (s.setChannel p x).frames = s.frames := rfl
@[simp] theorem State.setChannel_operating (s : State) (p : ChannelId) (x : Channel) : (s.setChannel p x).operating = s.operating := rfl

/-! ### setScrub -/

@[simp] theorem State.setScrub_supplyValid (s : State) (x : Scrub) : (s.setScrub x).supplyValid = s.supplyValid := rfl
@[simp] theorem State.setScrub_resetAsserted (s : State) (x : Scrub) : (s.setScrub x).resetAsserted = s.resetAsserted := rfl
@[simp] theorem State.setScrub_pop (s : State) (x : Scrub) : (s.setScrub x).pop = s.pop := rfl
@[simp] theorem State.setScrub_device (s : State) (x : Scrub) : (s.setScrub x).device = s.device := rfl
@[simp] theorem State.setScrub_links (s : State) (x : Scrub) : (s.setScrub x).links = s.links := rfl
@[simp] theorem State.setScrub_requests (s : State) (x : Scrub) : (s.setScrub x).requests = s.requests := rfl
@[simp] theorem State.setScrub_caches (s : State) (x : Scrub) : (s.setScrub x).caches = s.caches := rfl
@[simp] theorem State.setScrub_walker (s : State) (x : Scrub) : (s.setScrub x).walker = s.walker := rfl
@[simp] theorem State.setScrub_mapUnit (s : State) (x : Scrub) : (s.setScrub x).mapUnit = s.mapUnit := rfl
@[simp] theorem State.setScrub_engine (s : State) (x : Scrub) : (s.setScrub x).engine = s.engine := rfl
@[simp] theorem State.setScrub_recalls (s : State) (x : Scrub) : (s.setScrub x).recalls = s.recalls := rfl
@[simp] theorem State.setScrub_channels (s : State) (x : Scrub) : (s.setScrub x).channels = s.channels := rfl
@[simp] theorem State.setScrub_scrub (s : State) (x : Scrub) : (s.setScrub x).scrub = x := rfl
@[simp] theorem State.setScrub_mgmt (s : State) (x : Scrub) : (s.setScrub x).mgmt = s.mgmt := rfl
@[simp] theorem State.setScrub_flight (s : State) (x : Scrub) : (s.setScrub x).flight = s.flight := rfl
@[simp] theorem State.setScrub_dram (s : State) (x : Scrub) : (s.setScrub x).dram = s.dram := rfl
@[simp] theorem State.setScrub_now (s : State) (x : Scrub) : (s.setScrub x).now = s.now := rfl
@[simp] theorem State.setScrub_freeCount (s : State) (x : Scrub) : (s.setScrub x).freeCount = s.freeCount := rfl
@[simp] theorem State.setScrub_pending (s : State) (x : Scrub) : (s.setScrub x).pending = s.pending := rfl

@[simp] theorem State.setScrub_link (s : State) (x : Scrub) (q : PortId) : (s.setScrub x).link q = s.link q := rfl
@[simp] theorem State.setScrub_queue (s : State) (x : Scrub) (q : PortId) : (s.setScrub x).queue q = s.queue q := rfl
@[simp] theorem State.setScrub_cache (s : State) (x : Scrub) (q : PortId) : (s.setScrub x).cache q = s.cache q := rfl
@[simp] theorem State.setScrub_channel (s : State) (x : Scrub) (q : ChannelId) : (s.setScrub x).channel q = s.channel q := rfl
@[simp] theorem State.setScrub_record (s : State) (x : Scrub) (f : Nat) : (s.setScrub x).record f = s.record f := rfl
@[simp] theorem State.setScrub_recordById (s : State) (x : Scrub) (r : Nat) : (s.setScrub x).recordById r = s.recordById r := rfl
@[simp] theorem State.setScrub_frames (s : State) (x : Scrub) : (s.setScrub x).frames = s.frames := rfl
@[simp] theorem State.setScrub_operating (s : State) (x : Scrub) : (s.setScrub x).operating = s.operating := rfl

/-! ### setMgmt -/

@[simp] theorem State.setMgmt_supplyValid (s : State) (x : Mgmt) : (s.setMgmt x).supplyValid = s.supplyValid := rfl
@[simp] theorem State.setMgmt_resetAsserted (s : State) (x : Mgmt) : (s.setMgmt x).resetAsserted = s.resetAsserted := rfl
@[simp] theorem State.setMgmt_pop (s : State) (x : Mgmt) : (s.setMgmt x).pop = s.pop := rfl
@[simp] theorem State.setMgmt_device (s : State) (x : Mgmt) : (s.setMgmt x).device = s.device := rfl
@[simp] theorem State.setMgmt_links (s : State) (x : Mgmt) : (s.setMgmt x).links = s.links := rfl
@[simp] theorem State.setMgmt_requests (s : State) (x : Mgmt) : (s.setMgmt x).requests = s.requests := rfl
@[simp] theorem State.setMgmt_caches (s : State) (x : Mgmt) : (s.setMgmt x).caches = s.caches := rfl
@[simp] theorem State.setMgmt_walker (s : State) (x : Mgmt) : (s.setMgmt x).walker = s.walker := rfl
@[simp] theorem State.setMgmt_mapUnit (s : State) (x : Mgmt) : (s.setMgmt x).mapUnit = s.mapUnit := rfl
@[simp] theorem State.setMgmt_engine (s : State) (x : Mgmt) : (s.setMgmt x).engine = s.engine := rfl
@[simp] theorem State.setMgmt_recalls (s : State) (x : Mgmt) : (s.setMgmt x).recalls = s.recalls := rfl
@[simp] theorem State.setMgmt_channels (s : State) (x : Mgmt) : (s.setMgmt x).channels = s.channels := rfl
@[simp] theorem State.setMgmt_scrub (s : State) (x : Mgmt) : (s.setMgmt x).scrub = s.scrub := rfl
@[simp] theorem State.setMgmt_mgmt (s : State) (x : Mgmt) : (s.setMgmt x).mgmt = x := rfl
@[simp] theorem State.setMgmt_flight (s : State) (x : Mgmt) : (s.setMgmt x).flight = s.flight := rfl
@[simp] theorem State.setMgmt_dram (s : State) (x : Mgmt) : (s.setMgmt x).dram = s.dram := rfl
@[simp] theorem State.setMgmt_now (s : State) (x : Mgmt) : (s.setMgmt x).now = s.now := rfl
@[simp] theorem State.setMgmt_freeCount (s : State) (x : Mgmt) : (s.setMgmt x).freeCount = s.freeCount := rfl
@[simp] theorem State.setMgmt_pending (s : State) (x : Mgmt) : (s.setMgmt x).pending = s.pending := rfl

@[simp] theorem State.setMgmt_link (s : State) (x : Mgmt) (q : PortId) : (s.setMgmt x).link q = s.link q := rfl
@[simp] theorem State.setMgmt_queue (s : State) (x : Mgmt) (q : PortId) : (s.setMgmt x).queue q = s.queue q := rfl
@[simp] theorem State.setMgmt_cache (s : State) (x : Mgmt) (q : PortId) : (s.setMgmt x).cache q = s.cache q := rfl
@[simp] theorem State.setMgmt_channel (s : State) (x : Mgmt) (q : ChannelId) : (s.setMgmt x).channel q = s.channel q := rfl
@[simp] theorem State.setMgmt_record (s : State) (x : Mgmt) (f : Nat) : (s.setMgmt x).record f = s.record f := rfl
@[simp] theorem State.setMgmt_recordById (s : State) (x : Mgmt) (r : Nat) : (s.setMgmt x).recordById r = s.recordById r := rfl
@[simp] theorem State.setMgmt_frames (s : State) (x : Mgmt) : (s.setMgmt x).frames = s.frames := rfl
@[simp] theorem State.setMgmt_operating (s : State) (x : Mgmt) : (s.setMgmt x).operating = s.operating := rfl

/-! ### setFlight -/

@[simp] theorem State.setFlight_supplyValid (s : State) (x : InFlight) : (s.setFlight x).supplyValid = s.supplyValid := rfl
@[simp] theorem State.setFlight_resetAsserted (s : State) (x : InFlight) : (s.setFlight x).resetAsserted = s.resetAsserted := rfl
@[simp] theorem State.setFlight_pop (s : State) (x : InFlight) : (s.setFlight x).pop = s.pop := rfl
@[simp] theorem State.setFlight_device (s : State) (x : InFlight) : (s.setFlight x).device = s.device := rfl
@[simp] theorem State.setFlight_links (s : State) (x : InFlight) : (s.setFlight x).links = s.links := rfl
@[simp] theorem State.setFlight_requests (s : State) (x : InFlight) : (s.setFlight x).requests = s.requests := rfl
@[simp] theorem State.setFlight_caches (s : State) (x : InFlight) : (s.setFlight x).caches = s.caches := rfl
@[simp] theorem State.setFlight_walker (s : State) (x : InFlight) : (s.setFlight x).walker = s.walker := rfl
@[simp] theorem State.setFlight_mapUnit (s : State) (x : InFlight) : (s.setFlight x).mapUnit = s.mapUnit := rfl
@[simp] theorem State.setFlight_engine (s : State) (x : InFlight) : (s.setFlight x).engine = s.engine := rfl
@[simp] theorem State.setFlight_recalls (s : State) (x : InFlight) : (s.setFlight x).recalls = s.recalls := rfl
@[simp] theorem State.setFlight_channels (s : State) (x : InFlight) : (s.setFlight x).channels = s.channels := rfl
@[simp] theorem State.setFlight_scrub (s : State) (x : InFlight) : (s.setFlight x).scrub = s.scrub := rfl
@[simp] theorem State.setFlight_mgmt (s : State) (x : InFlight) : (s.setFlight x).mgmt = s.mgmt := rfl
@[simp] theorem State.setFlight_flight (s : State) (x : InFlight) : (s.setFlight x).flight = x := rfl
@[simp] theorem State.setFlight_dram (s : State) (x : InFlight) : (s.setFlight x).dram = s.dram := rfl
@[simp] theorem State.setFlight_now (s : State) (x : InFlight) : (s.setFlight x).now = s.now := rfl
@[simp] theorem State.setFlight_freeCount (s : State) (x : InFlight) : (s.setFlight x).freeCount = s.freeCount := rfl
@[simp] theorem State.setFlight_pending (s : State) (x : InFlight) : (s.setFlight x).pending = s.pending := rfl

@[simp] theorem State.setFlight_link (s : State) (x : InFlight) (q : PortId) : (s.setFlight x).link q = s.link q := rfl
@[simp] theorem State.setFlight_queue (s : State) (x : InFlight) (q : PortId) : (s.setFlight x).queue q = s.queue q := rfl
@[simp] theorem State.setFlight_cache (s : State) (x : InFlight) (q : PortId) : (s.setFlight x).cache q = s.cache q := rfl
@[simp] theorem State.setFlight_channel (s : State) (x : InFlight) (q : ChannelId) : (s.setFlight x).channel q = s.channel q := rfl
@[simp] theorem State.setFlight_record (s : State) (x : InFlight) (f : Nat) : (s.setFlight x).record f = s.record f := rfl
@[simp] theorem State.setFlight_recordById (s : State) (x : InFlight) (r : Nat) : (s.setFlight x).recordById r = s.recordById r := rfl
@[simp] theorem State.setFlight_frames (s : State) (x : InFlight) : (s.setFlight x).frames = s.frames := rfl
@[simp] theorem State.setFlight_operating (s : State) (x : InFlight) : (s.setFlight x).operating = s.operating := rfl

/-! ### setDram -/

@[simp] theorem State.setDram_supplyValid (s : State) (x : Dram) : (s.setDram x).supplyValid = s.supplyValid := rfl
@[simp] theorem State.setDram_resetAsserted (s : State) (x : Dram) : (s.setDram x).resetAsserted = s.resetAsserted := rfl
@[simp] theorem State.setDram_pop (s : State) (x : Dram) : (s.setDram x).pop = s.pop := rfl
@[simp] theorem State.setDram_device (s : State) (x : Dram) : (s.setDram x).device = s.device := rfl
@[simp] theorem State.setDram_links (s : State) (x : Dram) : (s.setDram x).links = s.links := rfl
@[simp] theorem State.setDram_requests (s : State) (x : Dram) : (s.setDram x).requests = s.requests := rfl
@[simp] theorem State.setDram_caches (s : State) (x : Dram) : (s.setDram x).caches = s.caches := rfl
@[simp] theorem State.setDram_walker (s : State) (x : Dram) : (s.setDram x).walker = s.walker := rfl
@[simp] theorem State.setDram_mapUnit (s : State) (x : Dram) : (s.setDram x).mapUnit = s.mapUnit := rfl
@[simp] theorem State.setDram_engine (s : State) (x : Dram) : (s.setDram x).engine = s.engine := rfl
@[simp] theorem State.setDram_recalls (s : State) (x : Dram) : (s.setDram x).recalls = s.recalls := rfl
@[simp] theorem State.setDram_channels (s : State) (x : Dram) : (s.setDram x).channels = s.channels := rfl
@[simp] theorem State.setDram_scrub (s : State) (x : Dram) : (s.setDram x).scrub = s.scrub := rfl
@[simp] theorem State.setDram_mgmt (s : State) (x : Dram) : (s.setDram x).mgmt = s.mgmt := rfl
@[simp] theorem State.setDram_flight (s : State) (x : Dram) : (s.setDram x).flight = s.flight := rfl
@[simp] theorem State.setDram_dram (s : State) (x : Dram) : (s.setDram x).dram = x := rfl
@[simp] theorem State.setDram_now (s : State) (x : Dram) : (s.setDram x).now = s.now := rfl
@[simp] theorem State.setDram_freeCount (s : State) (x : Dram) : (s.setDram x).freeCount = s.freeCount := rfl
@[simp] theorem State.setDram_pending (s : State) (x : Dram) : (s.setDram x).pending = s.pending := rfl

@[simp] theorem State.setDram_link (s : State) (x : Dram) (q : PortId) : (s.setDram x).link q = s.link q := rfl
@[simp] theorem State.setDram_queue (s : State) (x : Dram) (q : PortId) : (s.setDram x).queue q = s.queue q := rfl
@[simp] theorem State.setDram_cache (s : State) (x : Dram) (q : PortId) : (s.setDram x).cache q = s.cache q := rfl
@[simp] theorem State.setDram_channel (s : State) (x : Dram) (q : ChannelId) : (s.setDram x).channel q = s.channel q := rfl
@[simp] theorem State.setDram_record (s : State) (x : Dram) (f : Nat) : (s.setDram x).record f = s.record f := rfl
@[simp] theorem State.setDram_recordById (s : State) (x : Dram) (r : Nat) : (s.setDram x).recordById r = s.recordById r := rfl
@[simp] theorem State.setDram_frames (s : State) (x : Dram) : (s.setDram x).frames = s.frames := rfl
@[simp] theorem State.setDram_operating (s : State) (x : Dram) : (s.setDram x).operating = s.operating := rfl

/-! ### setDevice -/

@[simp] theorem State.setDevice_supplyValid (s : State) (x : DeviceState) : (s.setDevice x).supplyValid = s.supplyValid := rfl
@[simp] theorem State.setDevice_resetAsserted (s : State) (x : DeviceState) : (s.setDevice x).resetAsserted = s.resetAsserted := rfl
@[simp] theorem State.setDevice_pop (s : State) (x : DeviceState) : (s.setDevice x).pop = s.pop := rfl
@[simp] theorem State.setDevice_device (s : State) (x : DeviceState) : (s.setDevice x).device = x := rfl
@[simp] theorem State.setDevice_links (s : State) (x : DeviceState) : (s.setDevice x).links = s.links := rfl
@[simp] theorem State.setDevice_requests (s : State) (x : DeviceState) : (s.setDevice x).requests = s.requests := rfl
@[simp] theorem State.setDevice_caches (s : State) (x : DeviceState) : (s.setDevice x).caches = s.caches := rfl
@[simp] theorem State.setDevice_walker (s : State) (x : DeviceState) : (s.setDevice x).walker = s.walker := rfl
@[simp] theorem State.setDevice_mapUnit (s : State) (x : DeviceState) : (s.setDevice x).mapUnit = s.mapUnit := rfl
@[simp] theorem State.setDevice_engine (s : State) (x : DeviceState) : (s.setDevice x).engine = s.engine := rfl
@[simp] theorem State.setDevice_recalls (s : State) (x : DeviceState) : (s.setDevice x).recalls = s.recalls := rfl
@[simp] theorem State.setDevice_channels (s : State) (x : DeviceState) : (s.setDevice x).channels = s.channels := rfl
@[simp] theorem State.setDevice_scrub (s : State) (x : DeviceState) : (s.setDevice x).scrub = s.scrub := rfl
@[simp] theorem State.setDevice_mgmt (s : State) (x : DeviceState) : (s.setDevice x).mgmt = s.mgmt := rfl
@[simp] theorem State.setDevice_flight (s : State) (x : DeviceState) : (s.setDevice x).flight = s.flight := rfl
@[simp] theorem State.setDevice_dram (s : State) (x : DeviceState) : (s.setDevice x).dram = s.dram := rfl
@[simp] theorem State.setDevice_now (s : State) (x : DeviceState) : (s.setDevice x).now = s.now := rfl
@[simp] theorem State.setDevice_freeCount (s : State) (x : DeviceState) : (s.setDevice x).freeCount = s.freeCount := rfl
@[simp] theorem State.setDevice_pending (s : State) (x : DeviceState) : (s.setDevice x).pending = s.pending := rfl

@[simp] theorem State.setDevice_link (s : State) (x : DeviceState) (q : PortId) : (s.setDevice x).link q = s.link q := rfl
@[simp] theorem State.setDevice_queue (s : State) (x : DeviceState) (q : PortId) : (s.setDevice x).queue q = s.queue q := rfl
@[simp] theorem State.setDevice_cache (s : State) (x : DeviceState) (q : PortId) : (s.setDevice x).cache q = s.cache q := rfl
@[simp] theorem State.setDevice_channel (s : State) (x : DeviceState) (q : ChannelId) : (s.setDevice x).channel q = s.channel q := rfl
@[simp] theorem State.setDevice_record (s : State) (x : DeviceState) (f : Nat) : (s.setDevice x).record f = s.record f := rfl
@[simp] theorem State.setDevice_recordById (s : State) (x : DeviceState) (r : Nat) : (s.setDevice x).recordById r = s.recordById r := rfl
@[simp] theorem State.setDevice_frames (s : State) (x : DeviceState) : (s.setDevice x).frames = s.frames := rfl
@[simp] theorem State.setDevice_operating (s : State) (x : DeviceState) : (s.setDevice x).operating = s.operating := rfl

/-! ### useFree -/

@[simp] theorem State.useFree_supplyValid (s : State) : (s.useFree).supplyValid = s.supplyValid := rfl
@[simp] theorem State.useFree_resetAsserted (s : State) : (s.useFree).resetAsserted = s.resetAsserted := rfl
@[simp] theorem State.useFree_pop (s : State) : (s.useFree).pop = s.pop := rfl
@[simp] theorem State.useFree_device (s : State) : (s.useFree).device = s.device := rfl
@[simp] theorem State.useFree_links (s : State) : (s.useFree).links = s.links := rfl
@[simp] theorem State.useFree_requests (s : State) : (s.useFree).requests = s.requests := rfl
@[simp] theorem State.useFree_caches (s : State) : (s.useFree).caches = s.caches := rfl
@[simp] theorem State.useFree_walker (s : State) : (s.useFree).walker = s.walker := rfl
@[simp] theorem State.useFree_mapUnit (s : State) : (s.useFree).mapUnit = s.mapUnit := rfl
@[simp] theorem State.useFree_engine (s : State) : (s.useFree).engine = s.engine := rfl
@[simp] theorem State.useFree_recalls (s : State) : (s.useFree).recalls = s.recalls := rfl
@[simp] theorem State.useFree_channels (s : State) : (s.useFree).channels = s.channels := rfl
@[simp] theorem State.useFree_scrub (s : State) : (s.useFree).scrub = s.scrub := rfl
@[simp] theorem State.useFree_mgmt (s : State) : (s.useFree).mgmt = s.mgmt := rfl
@[simp] theorem State.useFree_flight (s : State) : (s.useFree).flight = s.flight := rfl
@[simp] theorem State.useFree_dram (s : State) : (s.useFree).dram = s.dram := rfl
@[simp] theorem State.useFree_now (s : State) : (s.useFree).now = s.now := rfl
@[simp] theorem State.useFree_freeCount (s : State) : (s.useFree).freeCount = s.freeCount + 1 := rfl
@[simp] theorem State.useFree_pending (s : State) : (s.useFree).pending = s.pending := rfl

@[simp] theorem State.useFree_link (s : State) (q : PortId) : (s.useFree).link q = s.link q := rfl
@[simp] theorem State.useFree_queue (s : State) (q : PortId) : (s.useFree).queue q = s.queue q := rfl
@[simp] theorem State.useFree_cache (s : State) (q : PortId) : (s.useFree).cache q = s.cache q := rfl
@[simp] theorem State.useFree_channel (s : State) (q : ChannelId) : (s.useFree).channel q = s.channel q := rfl
@[simp] theorem State.useFree_record (s : State) (f : Nat) : (s.useFree).record f = s.record f := rfl
@[simp] theorem State.useFree_recordById (s : State) (r : Nat) : (s.useFree).recordById r = s.recordById r := rfl
@[simp] theorem State.useFree_frames (s : State) : (s.useFree).frames = s.frames := rfl
@[simp] theorem State.useFree_operating (s : State) : (s.useFree).operating = s.operating := rfl

end Sys2Proof.Machine
end

