-- ==== Sys2Proof/Laws/Ops.lean ====
section
/-! SUPPORT. What the shared operations leave alone: the surroundings of the blocks, DRAM, the channels and the
Management Interface; and which result may be taken next. Later proofs cite these and do not unfold the operations. -/

namespace Sys2Proof.Machine

/-- A fold of steps that each keep what `π` reads keeps it. -/
theorem foldl_keeps {α β : Type} (π : State → β) (f : State → α → State) (h : ∀ s a, π (f s a) = π s) (l : List α)
    (s : State) : π (l.foldl f s) = π s := by
  induction l generalizing s with
  | nil => rfl
  | cons a l ih => rw [List.foldl_cons, ih, h]

@[simp] theorem State.setLink_surroundings (s : State) (p : PortId) (x : LinkPort) : (s.setLink p x).surroundings = s.surroundings := rfl
@[simp] theorem State.setQueue_surroundings (s : State) (p : PortId) (x : List ReqEntry) : (s.setQueue p x).surroundings = s.surroundings := rfl
@[simp] theorem State.setCache_surroundings (s : State) (p : PortId) (x : List CacheEntry) : (s.setCache p x).surroundings = s.surroundings := rfl
@[simp] theorem State.setWalker_surroundings (s : State) (x : Walker) : (s.setWalker x).surroundings = s.surroundings := rfl
@[simp] theorem State.setMapUnit_surroundings (s : State) (x : MapUnit) : (s.setMapUnit x).surroundings = s.surroundings := rfl
@[simp] theorem State.setEngine_surroundings (s : State) (x : Engine) : (s.setEngine x).surroundings = s.surroundings := rfl
@[simp] theorem State.setRecalls_surroundings (s : State) (x : RecallUnit) : (s.setRecalls x).surroundings = s.surroundings := rfl
@[simp] theorem State.setScrub_surroundings (s : State) (x : Scrub) : (s.setScrub x).surroundings = s.surroundings := rfl
@[simp] theorem State.setFlight_surroundings (s : State) (x : InFlight) : (s.setFlight x).surroundings = s.surroundings := rfl
@[simp] theorem State.setDevice_surroundings (s : State) (x : DeviceState) : (s.setDevice x).surroundings = s.surroundings := rfl
@[simp] theorem State.useFree_surroundings (s : State) : (s.useFree).surroundings = s.surroundings := rfl
@[simp] theorem State.setMgmt_surroundings (s : State) (x : Mgmt) : (s.setMgmt x).surroundings = s.surroundings := rfl
@[simp] theorem State.setDram_surroundings (s : State) (x : Dram) : (s.setDram x).surroundings = s.surroundings := rfl
@[simp] theorem State.setChannel_surroundings (s : State) (p : ChannelId) (x : Channel) : (s.setChannel p x).surroundings = s.surroundings := rfl

@[simp] theorem handFault_surroundings (i : FaultInfo) (s : State) :
    (handFault i s).surroundings = s.surroundings := by
  rfl
@[simp] theorem handFault_dram (i : FaultInfo) (s : State) :
    (handFault i s).dram = s.dram := by
  rfl
@[simp] theorem handFault_channels (i : FaultInfo) (s : State) :
    (handFault i s).channels = s.channels := by
  rfl
@[simp] theorem handFault_mgmt (i : FaultInfo) (s : State) :
    (handFault i s).mgmt = s.mgmt := by
  rfl

@[simp] theorem send_surroundings (p : PortId) (m : OutMsg) (s : State) :
    (send p m s).surroundings = s.surroundings := by
  rfl
@[simp] theorem send_dram (p : PortId) (m : OutMsg) (s : State) :
    (send p m s).dram = s.dram := by
  rfl
@[simp] theorem send_channels (p : PortId) (m : OutMsg) (s : State) :
    (send p m s).channels = s.channels := by
  rfl
@[simp] theorem send_mgmt (p : PortId) (m : OutMsg) (s : State) :
    (send p m s).mgmt = s.mgmt := by
  rfl

@[simp] theorem handOver_surroundings (p : PortId) (c : Completion) (s : State) :
    (handOver p c s).surroundings = s.surroundings := by
  unfold handOver; split <;> simp
@[simp] theorem handOver_dram (p : PortId) (c : Completion) (s : State) :
    (handOver p c s).dram = s.dram := by
  unfold handOver; split <;> simp
@[simp] theorem handOver_channels (p : PortId) (c : Completion) (s : State) :
    (handOver p c s).channels = s.channels := by
  unfold handOver; split <;> simp
@[simp] theorem handOver_mgmt (p : PortId) (c : Completion) (s : State) :
    (handOver p c s).mgmt = s.mgmt := by
  unfold handOver; split <;> simp

@[simp] theorem returnCredits_surroundings (p : PortId) (s : State) :
    (returnCredits p s).surroundings = s.surroundings := by
  unfold returnCredits; dsimp only; split <;> simp
@[simp] theorem returnCredits_dram (p : PortId) (s : State) :
    (returnCredits p s).dram = s.dram := by
  unfold returnCredits; dsimp only; split <;> simp
@[simp] theorem returnCredits_channels (p : PortId) (s : State) :
    (returnCredits p s).channels = s.channels := by
  unfold returnCredits; dsimp only; split <;> simp
@[simp] theorem returnCredits_mgmt (p : PortId) (s : State) :
    (returnCredits p s).mgmt = s.mgmt := by
  unfold returnCredits; dsimp only; split <;> simp

@[simp] theorem updateRecall_surroundings (r : Nat) (f : RecallRecord → RecallRecord) (s : State) :
    (updateRecall r f s).surroundings = s.surroundings := by
  rfl
@[simp] theorem updateRecall_dram (r : Nat) (f : RecallRecord → RecallRecord) (s : State) :
    (updateRecall r f s).dram = s.dram := by
  rfl
@[simp] theorem updateRecall_channels (r : Nat) (f : RecallRecord → RecallRecord) (s : State) :
    (updateRecall r f s).channels = s.channels := by
  rfl
@[simp] theorem updateRecall_mgmt (r : Nat) (f : RecallRecord → RecallRecord) (s : State) :
    (updateRecall r f s).mgmt = s.mgmt := by
  rfl

@[simp] theorem appendNotice_surroundings (p : PortId) (n : Notice) (s : State) :
    (appendNotice p n s).surroundings = s.surroundings := by
  rfl
@[simp] theorem appendNotice_dram (p : PortId) (n : Notice) (s : State) :
    (appendNotice p n s).dram = s.dram := by
  rfl
@[simp] theorem appendNotice_channels (p : PortId) (n : Notice) (s : State) :
    (appendNotice p n s).channels = s.channels := by
  rfl
@[simp] theorem appendNotice_mgmt (p : PortId) (n : Notice) (s : State) :
    (appendNotice p n s).mgmt = s.mgmt := by
  rfl

@[simp] theorem fillPending_surroundings (p : PortId) (s : State) :
    (fillPending p s).surroundings = s.surroundings := by
  unfold fillPending; dsimp only; (repeat' split) <;> simp
@[simp] theorem fillPending_dram (p : PortId) (s : State) :
    (fillPending p s).dram = s.dram := by
  unfold fillPending; dsimp only; (repeat' split) <;> simp
@[simp] theorem fillPending_channels (p : PortId) (s : State) :
    (fillPending p s).channels = s.channels := by
  unfold fillPending; dsimp only; (repeat' split) <;> simp
@[simp] theorem fillPending_mgmt (p : PortId) (s : State) :
    (fillPending p s).mgmt = s.mgmt := by
  unfold fillPending; dsimp only; (repeat' split) <;> simp

@[simp] theorem removeNotice_surroundings (p : PortId) (f : Notice → Bool) (s : State) :
    (removeNotice p f s).surroundings = s.surroundings := by
  rfl
@[simp] theorem removeNotice_dram (p : PortId) (f : Notice → Bool) (s : State) :
    (removeNotice p f s).dram = s.dram := by
  rfl
@[simp] theorem removeNotice_channels (p : PortId) (f : Notice → Bool) (s : State) :
    (removeNotice p f s).channels = s.channels := by
  rfl
@[simp] theorem removeNotice_mgmt (p : PortId) (f : Notice → Bool) (s : State) :
    (removeNotice p f s).mgmt = s.mgmt := by
  rfl

@[simp] theorem removeNoticeAndFill_surroundings (p : PortId) (f : Notice → Bool) (s : State) :
    (removeNoticeAndFill p f s).surroundings = s.surroundings := by
  unfold removeNoticeAndFill; split <;> simp
@[simp] theorem removeNoticeAndFill_dram (p : PortId) (f : Notice → Bool) (s : State) :
    (removeNoticeAndFill p f s).dram = s.dram := by
  unfold removeNoticeAndFill; split <;> simp
@[simp] theorem removeNoticeAndFill_channels (p : PortId) (f : Notice → Bool) (s : State) :
    (removeNoticeAndFill p f s).channels = s.channels := by
  unfold removeNoticeAndFill; split <;> simp
@[simp] theorem removeNoticeAndFill_mgmt (p : PortId) (f : Notice → Bool) (s : State) :
    (removeNoticeAndFill p f s).mgmt = s.mgmt := by
  unfold removeNoticeAndFill; split <;> simp

@[simp] theorem fillPendingTimes_surroundings (p : PortId) (n : Nat) (s : State) :
    (fillPendingTimes p n s).surroundings = s.surroundings := by
  induction n generalizing s with
  | zero => rfl
  | succ n ih => simp [fillPendingTimes, ih]
@[simp] theorem fillPendingTimes_dram (p : PortId) (n : Nat) (s : State) :
    (fillPendingTimes p n s).dram = s.dram := by
  induction n generalizing s with
  | zero => rfl
  | succ n ih => simp [fillPendingTimes, ih]
@[simp] theorem fillPendingTimes_channels (p : PortId) (n : Nat) (s : State) :
    (fillPendingTimes p n s).channels = s.channels := by
  induction n generalizing s with
  | zero => rfl
  | succ n ih => simp [fillPendingTimes, ih]
@[simp] theorem fillPendingTimes_mgmt (p : PortId) (n : Nat) (s : State) :
    (fillPendingTimes p n s).mgmt = s.mgmt := by
  induction n generalizing s with
  | zero => rfl
  | succ n ih => simp [fillPendingTimes, ih]

@[simp] theorem State.setRecord_surroundings (s : State) (f : Nat) (r : FrameRecord) : (s.setRecord f r).surroundings = s.surroundings := rfl
@[simp] theorem State.setRecord_dram (s : State) (f : Nat) (r : FrameRecord) : (s.setRecord f r).dram = s.dram := rfl
@[simp] theorem State.setRecord_channels (s : State) (f : Nat) (r : FrameRecord) : (s.setRecord f r).channels = s.channels := rfl
@[simp] theorem State.setRecord_mgmt (s : State) (f : Nat) (r : FrameRecord) : (s.setRecord f r).mgmt = s.mgmt := rfl

@[simp] theorem askWrite_surroundings (w : MapWrite) (s : State) :
    (askWrite w s).surroundings = s.surroundings := by
  rfl
@[simp] theorem askWrite_dram (w : MapWrite) (s : State) :
    (askWrite w s).dram = s.dram := by
  rfl
@[simp] theorem askWrite_channels (w : MapWrite) (s : State) :
    (askWrite w s).channels = s.channels := by
  rfl
@[simp] theorem askWrite_mgmt (w : MapWrite) (s : State) :
    (askWrite w s).mgmt = s.mgmt := by
  rfl

@[simp] theorem askRead_surroundings (p : PortId) (h : Nat) (s : State) :
    (askRead p h s).surroundings = s.surroundings := by
  rfl
@[simp] theorem askRead_dram (p : PortId) (h : Nat) (s : State) :
    (askRead p h s).dram = s.dram := by
  rfl
@[simp] theorem askRead_channels (p : PortId) (h : Nat) (s : State) :
    (askRead p h s).channels = s.channels := by
  rfl
@[simp] theorem askRead_mgmt (p : PortId) (h : Nat) (s : State) :
    (askRead p h s).mgmt = s.mgmt := by
  rfl

@[simp] theorem setStale_surroundings (p : PortId) (h : Nat) (b : Bool) (s : State) :
    (setStale p h b s).surroundings = s.surroundings := by
  rfl
@[simp] theorem setStale_dram (p : PortId) (h : Nat) (b : Bool) (s : State) :
    (setStale p h b s).dram = s.dram := by
  rfl
@[simp] theorem setStale_channels (p : PortId) (h : Nat) (b : Bool) (s : State) :
    (setStale p h b s).channels = s.channels := by
  rfl
@[simp] theorem setStale_mgmt (p : PortId) (h : Nat) (b : Bool) (s : State) :
    (setStale p h b s).mgmt = s.mgmt := by
  rfl

@[simp] theorem walkAgain_surroundings (p : PortId) (h : Nat) (s : State) :
    (walkAgain p h s).surroundings = s.surroundings := by
  unfold walkAgain; split <;> simp
@[simp] theorem walkAgain_dram (p : PortId) (h : Nat) (s : State) :
    (walkAgain p h s).dram = s.dram := by
  unfold walkAgain; split <;> simp
@[simp] theorem walkAgain_channels (p : PortId) (h : Nat) (s : State) :
    (walkAgain p h s).channels = s.channels := by
  unfold walkAgain; split <;> simp
@[simp] theorem walkAgain_mgmt (p : PortId) (h : Nat) (s : State) :
    (walkAgain p h s).mgmt = s.mgmt := by
  unfold walkAgain; split <;> simp

@[simp] theorem startHeadRepair_surroundings (s : State) :
    (startHeadRepair s).surroundings = s.surroundings := by
  unfold startHeadRepair; (repeat' split) <;> simp
@[simp] theorem startHeadRepair_dram (s : State) :
    (startHeadRepair s).dram = s.dram := by
  unfold startHeadRepair; (repeat' split) <;> simp
@[simp] theorem startHeadRepair_channels (s : State) :
    (startHeadRepair s).channels = s.channels := by
  unfold startHeadRepair; (repeat' split) <;> simp
@[simp] theorem startHeadRepair_mgmt (s : State) :
    (startHeadRepair s).mgmt = s.mgmt := by
  unfold startHeadRepair; (repeat' split) <;> simp

@[simp] theorem endRepair_surroundings (p : PortId) (h : Nat) (d : RepairDetail) (s : State) :
    (endRepair p h d s).surroundings = s.surroundings := by
  simp [endRepair]
@[simp] theorem endRepair_dram (p : PortId) (h : Nat) (d : RepairDetail) (s : State) :
    (endRepair p h d s).dram = s.dram := by
  simp [endRepair]
@[simp] theorem endRepair_channels (p : PortId) (h : Nat) (d : RepairDetail) (s : State) :
    (endRepair p h d s).channels = s.channels := by
  simp [endRepair]
@[simp] theorem endRepair_mgmt (p : PortId) (h : Nat) (d : RepairDetail) (s : State) :
    (endRepair p h d s).mgmt = s.mgmt := by
  simp [endRepair]

@[simp] theorem setEntryState_surroundings (p : PortId) (t : Nat) (x : ReqState) (s : State) :
    (setEntryState p t x s).surroundings = s.surroundings := by
  rfl
@[simp] theorem setEntryState_dram (p : PortId) (t : Nat) (x : ReqState) (s : State) :
    (setEntryState p t x s).dram = s.dram := by
  rfl
@[simp] theorem setEntryState_channels (p : PortId) (t : Nat) (x : ReqState) (s : State) :
    (setEntryState p t x s).channels = s.channels := by
  rfl
@[simp] theorem setEntryState_mgmt (p : PortId) (t : Nat) (x : ReqState) (s : State) :
    (setEntryState p t x s).mgmt = s.mgmt := by
  rfl

@[simp] theorem handOverAll_surroundings (p : PortId) (cs : List Completion) (s : State) :
    (handOverAll p cs s).surroundings = s.surroundings := by
  exact foldl_keeps State.surroundings _ (fun _ _ => by simp) _ _
@[simp] theorem handOverAll_dram (p : PortId) (cs : List Completion) (s : State) :
    (handOverAll p cs s).dram = s.dram := by
  exact foldl_keeps State.dram _ (fun _ _ => by simp) _ _
@[simp] theorem handOverAll_channels (p : PortId) (cs : List Completion) (s : State) :
    (handOverAll p cs s).channels = s.channels := by
  exact foldl_keeps State.channels _ (fun _ _ => by simp) _ _
@[simp] theorem handOverAll_mgmt (p : PortId) (cs : List Completion) (s : State) :
    (handOverAll p cs s).mgmt = s.mgmt := by
  exact foldl_keeps State.mgmt _ (fun _ _ => by simp) _ _

@[simp] theorem settlePort_surroundings (p : PortId) (b : List ReqEntry) (s : State) :
    (settlePort p b s).surroundings = s.surroundings := by
  simp [settlePort]
@[simp] theorem settlePort_dram (p : PortId) (b : List ReqEntry) (s : State) :
    (settlePort p b s).dram = s.dram := by
  simp [settlePort]
@[simp] theorem settlePort_channels (p : PortId) (b : List ReqEntry) (s : State) :
    (settlePort p b s).channels = s.channels := by
  simp [settlePort]
@[simp] theorem settlePort_mgmt (p : PortId) (b : List ReqEntry) (s : State) :
    (settlePort p b s).mgmt = s.mgmt := by
  simp [settlePort]

@[simp] theorem settleAll_surroundings (s0 : State) (s : State) :
    (settleAll s0 s).surroundings = s.surroundings := by
  exact foldl_keeps State.surroundings _ (fun _ _ => by simp) _ _
@[simp] theorem settleAll_dram (s0 : State) (s : State) :
    (settleAll s0 s).dram = s.dram := by
  exact foldl_keeps State.dram _ (fun _ _ => by simp) _ _
@[simp] theorem settleAll_channels (s0 : State) (s : State) :
    (settleAll s0 s).channels = s.channels := by
  exact foldl_keeps State.channels _ (fun _ _ => by simp) _ _
@[simp] theorem settleAll_mgmt (s0 : State) (s : State) :
    (settleAll s0 s).mgmt = s.mgmt := by
  exact foldl_keeps State.mgmt _ (fun _ _ => by simp) _ _

@[simp] theorem leaveRetry_surroundings (p : PortId) (t : Nat) (s : State) :
    (leaveRetry p t s).surroundings = s.surroundings := by
  rfl
@[simp] theorem leaveRetry_dram (p : PortId) (t : Nat) (s : State) :
    (leaveRetry p t s).dram = s.dram := by
  rfl
@[simp] theorem leaveRetry_channels (p : PortId) (t : Nat) (s : State) :
    (leaveRetry p t s).channels = s.channels := by
  rfl
@[simp] theorem leaveRetry_mgmt (p : PortId) (t : Nat) (s : State) :
    (leaveRetry p t s).mgmt = s.mgmt := by
  rfl

@[simp] theorem joinRetry_surroundings (p : PortId) (t : Nat) (s : State) :
    (joinRetry p t s).surroundings = s.surroundings := by
  unfold joinRetry; split <;> simp
@[simp] theorem joinRetry_dram (p : PortId) (t : Nat) (s : State) :
    (joinRetry p t s).dram = s.dram := by
  unfold joinRetry; split <;> simp
@[simp] theorem joinRetry_channels (p : PortId) (t : Nat) (s : State) :
    (joinRetry p t s).channels = s.channels := by
  unfold joinRetry; split <;> simp
@[simp] theorem joinRetry_mgmt (p : PortId) (t : Nat) (s : State) :
    (joinRetry p t s).mgmt = s.mgmt := by
  unfold joinRetry; split <;> simp

@[simp] theorem createWalk_surroundings (p : PortId) (h : Nat) (s : State) :
    (createWalk p h s).surroundings = s.surroundings := by
  rfl
@[simp] theorem createWalk_dram (p : PortId) (h : Nat) (s : State) :
    (createWalk p h s).dram = s.dram := by
  rfl
@[simp] theorem createWalk_channels (p : PortId) (h : Nat) (s : State) :
    (createWalk p h s).channels = s.channels := by
  rfl
@[simp] theorem createWalk_mgmt (p : PortId) (h : Nat) (s : State) :
    (createWalk p h s).mgmt = s.mgmt := by
  rfl

@[simp] theorem translate_surroundings (p : PortId) (t : Nat) (s : State) :
    (translate p t s).surroundings = s.surroundings := by
  unfold translate; (repeat' split) <;> simp
@[simp] theorem translate_dram (p : PortId) (t : Nat) (s : State) :
    (translate p t s).dram = s.dram := by
  unfold translate; (repeat' split) <;> simp
@[simp] theorem translate_channels (p : PortId) (t : Nat) (s : State) :
    (translate p t s).channels = s.channels := by
  unfold translate; (repeat' split) <;> simp
@[simp] theorem translate_mgmt (p : PortId) (t : Nat) (s : State) :
    (translate p t s).mgmt = s.mgmt := by
  unfold translate; (repeat' split) <;> simp

@[simp] theorem retryOne_surroundings (s : State) (r : PortId × Nat) : (retryOne s r).surroundings = s.surroundings := by
  unfold retryOne; (repeat' split) <;> simp
@[simp] theorem retryOne_dram (s : State) (r : PortId × Nat) : (retryOne s r).dram = s.dram := by
  unfold retryOne; (repeat' split) <;> simp
@[simp] theorem retryOne_channels (s : State) (r : PortId × Nat) : (retryOne s r).channels = s.channels := by
  unfold retryOne; (repeat' split) <;> simp
@[simp] theorem retryOne_mgmt (s : State) (r : PortId × Nat) : (retryOne s r).mgmt = s.mgmt := by
  unfold retryOne; (repeat' split) <;> simp

@[simp] theorem retryAll_surroundings (s : State) :
    (retryAll s).surroundings = s.surroundings := by
  exact foldl_keeps State.surroundings _ (fun _ _ => by simp) _ _
@[simp] theorem retryAll_dram (s : State) :
    (retryAll s).dram = s.dram := by
  exact foldl_keeps State.dram _ (fun _ _ => by simp) _ _
@[simp] theorem retryAll_channels (s : State) :
    (retryAll s).channels = s.channels := by
  exact foldl_keeps State.channels _ (fun _ _ => by simp) _ _
@[simp] theorem retryAll_mgmt (s : State) :
    (retryAll s).mgmt = s.mgmt := by
  exact foldl_keeps State.mgmt _ (fun _ _ => by simp) _ _

@[simp] theorem deliverWalk_surroundings (p : PortId) (h : Nat) (v : MapValue) (s : State) :
    (deliverWalk p h v s).surroundings = s.surroundings := by
  unfold deliverWalk; dsimp only; (repeat' split) <;> simp
@[simp] theorem deliverWalk_dram (p : PortId) (h : Nat) (v : MapValue) (s : State) :
    (deliverWalk p h v s).dram = s.dram := by
  unfold deliverWalk; dsimp only; (repeat' split) <;> simp
@[simp] theorem deliverWalk_channels (p : PortId) (h : Nat) (v : MapValue) (s : State) :
    (deliverWalk p h v s).channels = s.channels := by
  unfold deliverWalk; dsimp only; (repeat' split) <;> simp
@[simp] theorem deliverWalk_mgmt (p : PortId) (h : Nat) (v : MapValue) (s : State) :
    (deliverWalk p h v s).mgmt = s.mgmt := by
  unfold deliverWalk; dsimp only; (repeat' split) <;> simp

@[simp] theorem unbind_surroundings (p : PortId) (h : Nat) (s : State) :
    (unbind p h s).surroundings = s.surroundings := by
  unfold unbind
  exact (foldl_keeps State.surroundings _ (fun _ _ => by simp) _ _).trans
    ((foldl_keeps State.surroundings _ (fun _ _ => by simp) _ _).trans (by simp))
@[simp] theorem unbind_dram (p : PortId) (h : Nat) (s : State) :
    (unbind p h s).dram = s.dram := by
  unfold unbind
  exact (foldl_keeps State.dram _ (fun _ _ => by simp) _ _).trans
    ((foldl_keeps State.dram _ (fun _ _ => by simp) _ _).trans (by simp))
@[simp] theorem unbind_channels (p : PortId) (h : Nat) (s : State) :
    (unbind p h s).channels = s.channels := by
  unfold unbind
  exact (foldl_keeps State.channels _ (fun _ _ => by simp) _ _).trans
    ((foldl_keeps State.channels _ (fun _ _ => by simp) _ _).trans (by simp))
@[simp] theorem unbind_mgmt (p : PortId) (h : Nat) (s : State) :
    (unbind p h s).mgmt = s.mgmt := by
  unfold unbind
  exact (foldl_keeps State.mgmt _ (fun _ _ => by simp) _ _).trans
    ((foldl_keeps State.mgmt _ (fun _ _ => by simp) _ _).trans (by simp))

@[simp] theorem setPending_surroundings (p : PortId) (l : List Nat) (s : State) :
    (setPending p l s).surroundings = s.surroundings := by
  rfl
@[simp] theorem setPending_dram (p : PortId) (l : List Nat) (s : State) :
    (setPending p l s).dram = s.dram := by
  rfl
@[simp] theorem setPending_channels (p : PortId) (l : List Nat) (s : State) :
    (setPending p l s).channels = s.channels := by
  rfl
@[simp] theorem setPending_mgmt (p : PortId) (l : List Nat) (s : State) :
    (setPending p l s).mgmt = s.mgmt := by
  rfl

@[simp] theorem startUnmap_surroundings (r : RecallRecord) (s : State) :
    (startUnmap r s).surroundings = s.surroundings := by
  rfl
@[simp] theorem startUnmap_dram (r : RecallRecord) (s : State) :
    (startUnmap r s).dram = s.dram := by
  rfl
@[simp] theorem startUnmap_channels (r : RecallRecord) (s : State) :
    (startUnmap r s).channels = s.channels := by
  rfl
@[simp] theorem startUnmap_mgmt (r : RecallRecord) (s : State) :
    (startUnmap r s).mgmt = s.mgmt := by
  rfl

@[simp] theorem createRecall_surroundings (f : Nat) (i : MapItem) (x : RecallReason) (n : Bool) (o : Option (PortId × Nat)) (s : State) :
    (createRecall f i x n o s).surroundings = s.surroundings := by
  unfold createRecall; dsimp only; (repeat' split) <;> simp
@[simp] theorem createRecall_dram (f : Nat) (i : MapItem) (x : RecallReason) (n : Bool) (o : Option (PortId × Nat)) (s : State) :
    (createRecall f i x n o s).dram = s.dram := by
  unfold createRecall; dsimp only; (repeat' split) <;> simp
@[simp] theorem createRecall_channels (f : Nat) (i : MapItem) (x : RecallReason) (n : Bool) (o : Option (PortId × Nat)) (s : State) :
    (createRecall f i x n o s).channels = s.channels := by
  unfold createRecall; dsimp only; (repeat' split) <;> simp
@[simp] theorem createRecall_mgmt (f : Nat) (i : MapItem) (x : RecallReason) (n : Bool) (o : Option (PortId × Nat)) (s : State) :
    (createRecall f i x n o s).mgmt = s.mgmt := by
  unfold createRecall; dsimp only; (repeat' split) <;> simp

@[simp] theorem reportComplete_surroundings (r : Nat) (s : State) :
    (reportComplete r s).surroundings = s.surroundings := by
  unfold reportComplete; split <;> simp
@[simp] theorem reportComplete_dram (r : Nat) (s : State) :
    (reportComplete r s).dram = s.dram := by
  unfold reportComplete; split <;> simp
@[simp] theorem reportComplete_channels (r : Nat) (s : State) :
    (reportComplete r s).channels = s.channels := by
  unfold reportComplete; split <;> simp
@[simp] theorem reportComplete_mgmt (r : Nat) (s : State) :
    (reportComplete r s).mgmt = s.mgmt := by
  unfold reportComplete; split <;> simp

@[simp] theorem drainCheck_surroundings (r : Nat) (s : State) :
    (drainCheck r s).surroundings = s.surroundings := by
  unfold drainCheck; (repeat' split) <;> simp
@[simp] theorem drainCheck_dram (r : Nat) (s : State) :
    (drainCheck r s).dram = s.dram := by
  unfold drainCheck; (repeat' split) <;> simp
@[simp] theorem drainCheck_channels (r : Nat) (s : State) :
    (drainCheck r s).channels = s.channels := by
  unfold drainCheck; (repeat' split) <;> simp
@[simp] theorem drainCheck_mgmt (r : Nat) (s : State) :
    (drainCheck r s).mgmt = s.mgmt := by
  unfold drainCheck; (repeat' split) <;> simp

@[simp] theorem drainReport_surroundings (p : PortId) (f : Nat) (s : State) :
    (drainReport p f s).surroundings = s.surroundings := by
  unfold drainReport; split <;> simp
@[simp] theorem drainReport_dram (p : PortId) (f : Nat) (s : State) :
    (drainReport p f s).dram = s.dram := by
  unfold drainReport; split <;> simp
@[simp] theorem drainReport_channels (p : PortId) (f : Nat) (s : State) :
    (drainReport p f s).channels = s.channels := by
  unfold drainReport; split <;> simp
@[simp] theorem drainReport_mgmt (p : PortId) (f : Nat) (s : State) :
    (drainReport p f s).mgmt = s.mgmt := by
  unfold drainReport; split <;> simp

@[simp] theorem unmapPerformed_surroundings (r : Nat) (s : State) :
    (unmapPerformed r s).surroundings = s.surroundings := by
  simp [unmapPerformed]
@[simp] theorem unmapPerformed_dram (r : Nat) (s : State) :
    (unmapPerformed r s).dram = s.dram := by
  simp [unmapPerformed]
@[simp] theorem unmapPerformed_channels (r : Nat) (s : State) :
    (unmapPerformed r s).channels = s.channels := by
  simp [unmapPerformed]
@[simp] theorem unmapPerformed_mgmt (r : Nat) (s : State) :
    (unmapPerformed r s).mgmt = s.mgmt := by
  simp [unmapPerformed]

@[simp] theorem holderMayComplete_surroundings (f : Nat) (s : State) :
    (holderMayComplete f s).surroundings = s.surroundings := by
  unfold holderMayComplete; (repeat' split) <;> simp
@[simp] theorem holderMayComplete_dram (f : Nat) (s : State) :
    (holderMayComplete f s).dram = s.dram := by
  unfold holderMayComplete; (repeat' split) <;> simp
@[simp] theorem holderMayComplete_channels (f : Nat) (s : State) :
    (holderMayComplete f s).channels = s.channels := by
  unfold holderMayComplete; (repeat' split) <;> simp
@[simp] theorem holderMayComplete_mgmt (f : Nat) (s : State) :
    (holderMayComplete f s).mgmt = s.mgmt := by
  unfold holderMayComplete; (repeat' split) <;> simp

@[simp] theorem leavePending_surroundings (r : RecallRecord) (s : State) :
    (leavePending r s).surroundings = s.surroundings := by
  rfl
@[simp] theorem leavePending_dram (r : RecallRecord) (s : State) :
    (leavePending r s).dram = s.dram := by
  rfl
@[simp] theorem leavePending_channels (r : RecallRecord) (s : State) :
    (leavePending r s).channels = s.channels := by
  rfl
@[simp] theorem leavePending_mgmt (r : RecallRecord) (s : State) :
    (leavePending r s).mgmt = s.mgmt := by
  rfl

@[simp] theorem recallsAtTeardown_surroundings (p : PortId) (s : State) :
    (recallsAtTeardown p s).surroundings = s.surroundings := by
  exact foldl_keeps State.surroundings _ (fun _ _ => by simp) _ _
@[simp] theorem recallsAtTeardown_dram (p : PortId) (s : State) :
    (recallsAtTeardown p s).dram = s.dram := by
  exact foldl_keeps State.dram _ (fun _ _ => by simp) _ _
@[simp] theorem recallsAtTeardown_channels (p : PortId) (s : State) :
    (recallsAtTeardown p s).channels = s.channels := by
  exact foldl_keeps State.channels _ (fun _ _ => by simp) _ _
@[simp] theorem recallsAtTeardown_mgmt (p : PortId) (s : State) :
    (recallsAtTeardown p s).mgmt = s.mgmt := by
  exact foldl_keeps State.mgmt _ (fun _ _ => by simp) _ _

@[simp] theorem movePointer_surroundings (i : Fin 5) (s : State) :
    (movePointer i s).surroundings = s.surroundings := by
  rfl
@[simp] theorem movePointer_dram (i : Fin 5) (s : State) :
    (movePointer i s).dram = s.dram := by
  rfl
@[simp] theorem movePointer_channels (i : Fin 5) (s : State) :
    (movePointer i s).channels = s.channels := by
  rfl
@[simp] theorem movePointer_mgmt (i : Fin 5) (s : State) :
    (movePointer i s).mgmt = s.mgmt := by
  rfl

@[simp] theorem takeCommand_surroundings (p : PortId) (s : State) :
    (takeCommand p s).surroundings = s.surroundings := by
  rfl
@[simp] theorem takeCommand_dram (p : PortId) (s : State) :
    (takeCommand p s).dram = s.dram := by
  rfl
@[simp] theorem takeCommand_channels (p : PortId) (s : State) :
    (takeCommand p s).channels = s.channels := by
  rfl
@[simp] theorem takeCommand_mgmt (p : PortId) (s : State) :
    (takeCommand p s).mgmt = s.mgmt := by
  rfl

@[simp] theorem refuseCommand_surroundings (p : PortId) (t : Nat) (x : Status) (s : State) :
    (refuseCommand p t x s).surroundings = s.surroundings := by
  simp [refuseCommand]
@[simp] theorem refuseCommand_dram (p : PortId) (t : Nat) (x : Status) (s : State) :
    (refuseCommand p t x s).dram = s.dram := by
  simp [refuseCommand]
@[simp] theorem refuseCommand_channels (p : PortId) (t : Nat) (x : Status) (s : State) :
    (refuseCommand p t x s).channels = s.channels := by
  simp [refuseCommand]
@[simp] theorem refuseCommand_mgmt (p : PortId) (t : Nat) (x : Status) (s : State) :
    (refuseCommand p t x s).mgmt = s.mgmt := by
  simp [refuseCommand]

@[simp] theorem deferCommand_surroundings (p : PortId) (s : State) :
    (deferCommand p s).surroundings = s.surroundings := by
  rfl
@[simp] theorem deferCommand_dram (p : PortId) (s : State) :
    (deferCommand p s).dram = s.dram := by
  rfl
@[simp] theorem deferCommand_channels (p : PortId) (s : State) :
    (deferCommand p s).channels = s.channels := by
  rfl
@[simp] theorem deferCommand_mgmt (p : PortId) (s : State) :
    (deferCommand p s).mgmt = s.mgmt := by
  rfl

@[simp] theorem clearWaiting_surroundings (s : State) :
    (clearWaiting s).surroundings = s.surroundings := by
  rfl
@[simp] theorem clearWaiting_dram (s : State) :
    (clearWaiting s).dram = s.dram := by
  rfl
@[simp] theorem clearWaiting_channels (s : State) :
    (clearWaiting s).channels = s.channels := by
  rfl
@[simp] theorem clearWaiting_mgmt (s : State) :
    (clearWaiting s).mgmt = s.mgmt := by
  rfl

@[simp] theorem placeResult_surroundings (x : MgmtStatus) (d : List Byte) (s : State) :
    (placeResult x d s).surroundings = s.surroundings := by
  unfold placeResult; split <;> simp
@[simp] theorem placeResult_dram (x : MgmtStatus) (d : List Byte) (s : State) :
    (placeResult x d s).dram = s.dram := by
  unfold placeResult; split <;> simp
@[simp] theorem placeResult_channels (x : MgmtStatus) (d : List Byte) (s : State) :
    (placeResult x d s).channels = s.channels := by
  unfold placeResult; split <;> simp

@[simp] theorem answerSlot_surroundings (x : MgmtStatus) (d : List Byte) (s : State) :
    (answerSlot x d s).surroundings = s.surroundings := by
  simp [answerSlot]
@[simp] theorem answerSlot_dram (x : MgmtStatus) (d : List Byte) (s : State) :
    (answerSlot x d s).dram = s.dram := by
  simp [answerSlot]
@[simp] theorem answerSlot_channels (x : MgmtStatus) (d : List Byte) (s : State) :
    (answerSlot x d s).channels = s.channels := by
  simp [answerSlot]

@[simp] theorem takeScrub_surroundings (s : State) :
    (takeScrub s).surroundings = s.surroundings := by
  unfold takeScrub; (repeat' split) <;> simp
@[simp] theorem takeScrub_dram (s : State) :
    (takeScrub s).dram = s.dram := by
  unfold takeScrub; (repeat' split) <;> simp
@[simp] theorem takeScrub_channels (s : State) :
    (takeScrub s).channels = s.channels := by
  unfold takeScrub; (repeat' split) <;> simp
@[simp] theorem takeScrub_mgmt (s : State) :
    (takeScrub s).mgmt = s.mgmt := by
  unfold takeScrub; (repeat' split) <;> simp

@[simp] theorem joinScrub_surroundings (f : Nat) (s : State) :
    (joinScrub f s).surroundings = s.surroundings := by
  simp [joinScrub]
@[simp] theorem joinScrub_dram (f : Nat) (s : State) :
    (joinScrub f s).dram = s.dram := by
  simp [joinScrub]
@[simp] theorem joinScrub_channels (f : Nat) (s : State) :
    (joinScrub f s).channels = s.channels := by
  simp [joinScrub]
@[simp] theorem joinScrub_mgmt (f : Nat) (s : State) :
    (joinScrub f s).mgmt = s.mgmt := by
  simp [joinScrub]

@[simp] theorem scrubIdle_surroundings (s : State) :
    (scrubIdle s).surroundings = s.surroundings := by
  rfl
@[simp] theorem scrubIdle_dram (s : State) :
    (scrubIdle s).dram = s.dram := by
  rfl
@[simp] theorem scrubIdle_channels (s : State) :
    (scrubIdle s).channels = s.channels := by
  rfl
@[simp] theorem scrubIdle_mgmt (s : State) :
    (scrubIdle s).mgmt = s.mgmt := by
  rfl

@[simp] theorem lendFrame_surroundings (p : PortId) (h f : Nat) (s : State) :
    (lendFrame p h f s).surroundings = s.surroundings := by
  rfl
@[simp] theorem lendFrame_dram (p : PortId) (h f : Nat) (s : State) :
    (lendFrame p h f s).dram = s.dram := by
  rfl
@[simp] theorem lendFrame_channels (p : PortId) (h f : Nat) (s : State) :
    (lendFrame p h f s).channels = s.channels := by
  rfl
@[simp] theorem lendFrame_mgmt (p : PortId) (h f : Nat) (s : State) :
    (lendFrame p h f s).mgmt = s.mgmt := by
  rfl

@[simp] theorem grantClaim_surroundings (p : PortId) (t h n : Nat) (s : State) :
    (grantClaim p t h n s).surroundings = s.surroundings := by
  unfold grantClaim
  exact (foldl_keeps State.surroundings _ (fun _ _ => by simp) _ _).trans
    ((foldl_keeps State.surroundings _ (fun _ _ => by simp) _ _).trans (by simp))
@[simp] theorem grantClaim_dram (p : PortId) (t h n : Nat) (s : State) :
    (grantClaim p t h n s).dram = s.dram := by
  unfold grantClaim
  exact (foldl_keeps State.dram _ (fun _ _ => by simp) _ _).trans
    ((foldl_keeps State.dram _ (fun _ _ => by simp) _ _).trans (by simp))
@[simp] theorem grantClaim_channels (p : PortId) (t h n : Nat) (s : State) :
    (grantClaim p t h n s).channels = s.channels := by
  unfold grantClaim
  exact (foldl_keeps State.channels _ (fun _ _ => by simp) _ _).trans
    ((foldl_keeps State.channels _ (fun _ _ => by simp) _ _).trans (by simp))
@[simp] theorem grantClaim_mgmt (p : PortId) (t h n : Nat) (s : State) :
    (grantClaim p t h n s).mgmt = s.mgmt := by
  unfold grantClaim
  exact (foldl_keeps State.mgmt _ (fun _ _ => by simp) _ _).trans
    ((foldl_keeps State.mgmt _ (fun _ _ => by simp) _ _).trans (by simp))

@[simp] theorem examineClaims_surroundings (cs : List ParkedClaim) (s : State) :
    (examineClaims cs s).surroundings = s.surroundings := by
  induction cs generalizing s with
  | nil => rfl
  | cons c cs ih =>
    unfold examineClaims
    split
    · rfl
    · dsimp only
      split <;> simp [ih]
@[simp] theorem examineClaims_dram (cs : List ParkedClaim) (s : State) :
    (examineClaims cs s).dram = s.dram := by
  induction cs generalizing s with
  | nil => rfl
  | cons c cs ih =>
    unfold examineClaims
    split
    · rfl
    · dsimp only
      split <;> simp [ih]
@[simp] theorem examineClaims_channels (cs : List ParkedClaim) (s : State) :
    (examineClaims cs s).channels = s.channels := by
  induction cs generalizing s with
  | nil => rfl
  | cons c cs ih =>
    unfold examineClaims
    split
    · rfl
    · dsimp only
      split <;> simp [ih]
@[simp] theorem examineClaims_mgmt (cs : List ParkedClaim) (s : State) :
    (examineClaims cs s).mgmt = s.mgmt := by
  induction cs generalizing s with
  | nil => rfl
  | cons c cs ih =>
    unfold examineClaims
    split
    · rfl
    · dsimp only
      split <;> simp [ih]

@[simp] theorem examineHead_surroundings (s : State) :
    (examineHead s).surroundings = s.surroundings := by
  simp [examineHead]
@[simp] theorem examineHead_dram (s : State) :
    (examineHead s).dram = s.dram := by
  simp [examineHead]
@[simp] theorem examineHead_channels (s : State) :
    (examineHead s).channels = s.channels := by
  simp [examineHead]
@[simp] theorem examineHead_mgmt (s : State) :
    (examineHead s).mgmt = s.mgmt := by
  simp [examineHead]

@[simp] theorem removeClaims_surroundings (g : ParkedClaim → Bool) (s : State) :
    (removeClaims g s).surroundings = s.surroundings := by
  unfold removeClaims; dsimp only; split <;> simp
@[simp] theorem removeClaims_dram (g : ParkedClaim → Bool) (s : State) :
    (removeClaims g s).dram = s.dram := by
  unfold removeClaims; dsimp only; split <;> simp
@[simp] theorem removeClaims_channels (g : ParkedClaim → Bool) (s : State) :
    (removeClaims g s).channels = s.channels := by
  unfold removeClaims; dsimp only; split <;> simp
@[simp] theorem removeClaims_mgmt (g : ParkedClaim → Bool) (s : State) :
    (removeClaims g s).mgmt = s.mgmt := by
  unfold removeClaims; dsimp only; split <;> simp

@[simp] theorem resolveOffer_surroundings (o : Offer) (x : Status) (s : State) :
    (resolveOffer o x s).surroundings = s.surroundings := by
  simp [resolveOffer]
@[simp] theorem resolveOffer_dram (o : Offer) (x : Status) (s : State) :
    (resolveOffer o x s).dram = s.dram := by
  simp [resolveOffer]
@[simp] theorem resolveOffer_channels (o : Offer) (x : Status) (s : State) :
    (resolveOffer o x s).channels = s.channels := by
  simp [resolveOffer]
@[simp] theorem resolveOffer_mgmt (o : Offer) (x : Status) (s : State) :
    (resolveOffer o x s).mgmt = s.mgmt := by
  simp [resolveOffer]

@[simp] theorem informTarget_surroundings (b : Bool) (o : Offer) (c : WithdrawnCause) (s : State) :
    (informTarget b o c s).surroundings = s.surroundings := by
  unfold informTarget; (repeat' split) <;> simp
@[simp] theorem informTarget_dram (b : Bool) (o : Offer) (c : WithdrawnCause) (s : State) :
    (informTarget b o c s).dram = s.dram := by
  unfold informTarget; (repeat' split) <;> simp
@[simp] theorem informTarget_channels (b : Bool) (o : Offer) (c : WithdrawnCause) (s : State) :
    (informTarget b o c s).channels = s.channels := by
  unfold informTarget; (repeat' split) <;> simp
@[simp] theorem informTarget_mgmt (b : Bool) (o : Offer) (c : WithdrawnCause) (s : State) :
    (informTarget b o c s).mgmt = s.mgmt := by
  unfold informTarget; (repeat' split) <;> simp

@[simp] theorem withdrawOffer_surroundings (b : Bool) (o : Offer) (s : State) :
    (withdrawOffer b o s).surroundings = s.surroundings := by
  simp [withdrawOffer]
@[simp] theorem withdrawOffer_dram (b : Bool) (o : Offer) (s : State) :
    (withdrawOffer b o s).dram = s.dram := by
  simp [withdrawOffer]
@[simp] theorem withdrawOffer_channels (b : Bool) (o : Offer) (s : State) :
    (withdrawOffer b o s).channels = s.channels := by
  simp [withdrawOffer]
@[simp] theorem withdrawOffer_mgmt (b : Bool) (o : Offer) (s : State) :
    (withdrawOffer b o s).mgmt = s.mgmt := by
  simp [withdrawOffer]

@[simp] theorem withdrawFrameOffers_surroundings (f : Nat) (s : State) :
    (withdrawFrameOffers f s).surroundings = s.surroundings := by
  exact foldl_keeps State.surroundings _ (fun _ _ => by simp) _ _
@[simp] theorem withdrawFrameOffers_dram (f : Nat) (s : State) :
    (withdrawFrameOffers f s).dram = s.dram := by
  exact foldl_keeps State.dram _ (fun _ _ => by simp) _ _
@[simp] theorem withdrawFrameOffers_channels (f : Nat) (s : State) :
    (withdrawFrameOffers f s).channels = s.channels := by
  exact foldl_keeps State.channels _ (fun _ _ => by simp) _ _
@[simp] theorem withdrawFrameOffers_mgmt (f : Nat) (s : State) :
    (withdrawFrameOffers f s).mgmt = s.mgmt := by
  exact foldl_keeps State.mgmt _ (fun _ _ => by simp) _ _

@[simp] theorem enterRecalling_surroundings (f : Nat) (l : LeaveReason) (q : Bool) (w : MapItem → RecallReason × Bool) (s : State) :
    (enterRecalling f l q w s).surroundings = s.surroundings := by
  simp only [enterRecalling, withdrawFrameOffers_surroundings]
  exact (foldl_keeps State.surroundings _ (fun _ _ => by simp) _ _).trans (by simp)
@[simp] theorem enterRecalling_dram (f : Nat) (l : LeaveReason) (q : Bool) (w : MapItem → RecallReason × Bool) (s : State) :
    (enterRecalling f l q w s).dram = s.dram := by
  simp only [enterRecalling, withdrawFrameOffers_dram]
  exact (foldl_keeps State.dram _ (fun _ _ => by simp) _ _).trans (by simp)
@[simp] theorem enterRecalling_channels (f : Nat) (l : LeaveReason) (q : Bool) (w : MapItem → RecallReason × Bool) (s : State) :
    (enterRecalling f l q w s).channels = s.channels := by
  simp only [enterRecalling, withdrawFrameOffers_channels]
  exact (foldl_keeps State.channels _ (fun _ _ => by simp) _ _).trans (by simp)
@[simp] theorem enterRecalling_mgmt (f : Nat) (l : LeaveReason) (q : Bool) (w : MapItem → RecallReason × Bool) (s : State) :
    (enterRecalling f l q w s).mgmt = s.mgmt := by
  simp only [enterRecalling, withdrawFrameOffers_mgmt]
  exact (foldl_keeps State.mgmt _ (fun _ _ => by simp) _ _).trans (by simp)

@[simp] theorem quarantineFrame_surroundings (f : Nat) (c : QuarantineCause) (s : State) :
    (quarantineFrame f c s).surroundings = s.surroundings := by
  rfl
@[simp] theorem quarantineFrame_dram (f : Nat) (c : QuarantineCause) (s : State) :
    (quarantineFrame f c s).dram = s.dram := by
  rfl
@[simp] theorem quarantineFrame_channels (f : Nat) (c : QuarantineCause) (s : State) :
    (quarantineFrame f c s).channels = s.channels := by
  rfl
@[simp] theorem quarantineFrame_mgmt (f : Nat) (c : QuarantineCause) (s : State) :
    (quarantineFrame f c s).mgmt = s.mgmt := by
  rfl

@[simp] theorem markDamaged_surroundings (f : Nat) (s : State) :
    (markDamaged f s).surroundings = s.surroundings := by
  unfold markDamaged; dsimp only; split <;> simp
@[simp] theorem markDamaged_dram (f : Nat) (s : State) :
    (markDamaged f s).dram = s.dram := by
  unfold markDamaged; dsimp only; split <;> simp
@[simp] theorem markDamaged_channels (f : Nat) (s : State) :
    (markDamaged f s).channels = s.channels := by
  unfold markDamaged; dsimp only; split <;> simp
@[simp] theorem markDamaged_mgmt (f : Nat) (s : State) :
    (markDamaged f s).mgmt = s.mgmt := by
  unfold markDamaged; dsimp only; split <;> simp

@[simp] theorem exitRecalling_surroundings (f : Nat) (s : State) :
    (exitRecalling f s).surroundings = s.surroundings := by
  unfold exitRecalling; dsimp only; (repeat' split) <;> simp
@[simp] theorem exitRecalling_dram (f : Nat) (s : State) :
    (exitRecalling f s).dram = s.dram := by
  unfold exitRecalling; dsimp only; (repeat' split) <;> simp
@[simp] theorem exitRecalling_channels (f : Nat) (s : State) :
    (exitRecalling f s).channels = s.channels := by
  unfold exitRecalling; dsimp only; (repeat' split) <;> simp
@[simp] theorem exitRecalling_mgmt (f : Nat) (s : State) :
    (exitRecalling f s).mgmt = s.mgmt := by
  unfold exitRecalling; dsimp only; (repeat' split) <;> simp

@[simp] theorem checkTeardownEnd_surroundings (p : PortId) (s : State) :
    (checkTeardownEnd p s).surroundings = s.surroundings := by
  unfold checkTeardownEnd; dsimp only; split <;> simp
@[simp] theorem checkTeardownEnd_dram (p : PortId) (s : State) :
    (checkTeardownEnd p s).dram = s.dram := by
  unfold checkTeardownEnd; dsimp only; split <;> simp
@[simp] theorem checkTeardownEnd_channels (p : PortId) (s : State) :
    (checkTeardownEnd p s).channels = s.channels := by
  unfold checkTeardownEnd; dsimp only; split <;> simp
@[simp] theorem checkTeardownEnd_mgmt (p : PortId) (s : State) :
    (checkTeardownEnd p s).mgmt = s.mgmt := by
  unfold checkTeardownEnd; dsimp only; split <;> simp

@[simp] theorem engineTeardownReport_surroundings (p : PortId) (s : State) :
    (engineTeardownReport p s).surroundings = s.surroundings := by
  unfold engineTeardownReport; split <;> simp
@[simp] theorem engineTeardownReport_dram (p : PortId) (s : State) :
    (engineTeardownReport p s).dram = s.dram := by
  unfold engineTeardownReport; split <;> simp
@[simp] theorem engineTeardownReport_channels (p : PortId) (s : State) :
    (engineTeardownReport p s).channels = s.channels := by
  unfold engineTeardownReport; split <;> simp
@[simp] theorem engineTeardownReport_mgmt (p : PortId) (s : State) :
    (engineTeardownReport p s).mgmt = s.mgmt := by
  unfold engineTeardownReport; split <;> simp

@[simp] theorem recallTeardownReport_surroundings (p : PortId) (s : State) :
    (recallTeardownReport p s).surroundings = s.surroundings := by
  unfold recallTeardownReport; split <;> simp
@[simp] theorem recallTeardownReport_dram (p : PortId) (s : State) :
    (recallTeardownReport p s).dram = s.dram := by
  unfold recallTeardownReport; split <;> simp
@[simp] theorem recallTeardownReport_channels (p : PortId) (s : State) :
    (recallTeardownReport p s).channels = s.channels := by
  unfold recallTeardownReport; split <;> simp
@[simp] theorem recallTeardownReport_mgmt (p : PortId) (s : State) :
    (recallTeardownReport p s).mgmt = s.mgmt := by
  unfold recallTeardownReport; split <;> simp

@[simp] theorem queueTeardownReport_surroundings (p : PortId) (s : State) :
    (queueTeardownReport p s).surroundings = s.surroundings := by
  unfold queueTeardownReport; split <;> simp
@[simp] theorem queueTeardownReport_dram (p : PortId) (s : State) :
    (queueTeardownReport p s).dram = s.dram := by
  unfold queueTeardownReport; split <;> simp
@[simp] theorem queueTeardownReport_channels (p : PortId) (s : State) :
    (queueTeardownReport p s).channels = s.channels := by
  unfold queueTeardownReport; split <;> simp
@[simp] theorem queueTeardownReport_mgmt (p : PortId) (s : State) :
    (queueTeardownReport p s).mgmt = s.mgmt := by
  unfold queueTeardownReport; split <;> simp

@[simp] theorem discardRequests_surroundings (p : PortId) (s : State) :
    (discardRequests p s).surroundings = s.surroundings := by
  rfl
@[simp] theorem discardRequests_dram (p : PortId) (s : State) :
    (discardRequests p s).dram = s.dram := by
  rfl
@[simp] theorem discardRequests_channels (p : PortId) (s : State) :
    (discardRequests p s).channels = s.channels := by
  rfl
@[simp] theorem discardRequests_mgmt (p : PortId) (s : State) :
    (discardRequests p s).mgmt = s.mgmt := by
  rfl

@[simp] theorem beginTeardown_surroundings (p : PortId) (c : TeardownCause) (s : State) :
    (beginTeardown p c s).surroundings = s.surroundings := by
  simp [beginTeardown]
@[simp] theorem beginTeardown_dram (p : PortId) (c : TeardownCause) (s : State) :
    (beginTeardown p c s).dram = s.dram := by
  simp [beginTeardown]
@[simp] theorem beginTeardown_channels (p : PortId) (c : TeardownCause) (s : State) :
    (beginTeardown p c s).channels = s.channels := by
  simp [beginTeardown]
@[simp] theorem beginTeardown_mgmt (p : PortId) (c : TeardownCause) (s : State) :
    (beginTeardown p c s).mgmt = s.mgmt := by
  simp [beginTeardown]

@[simp] theorem violation_surroundings (p : PortId) (k : Violation) (s : State) :
    (violation p k s).surroundings = s.surroundings := by
  simp [violation]
@[simp] theorem violation_dram (p : PortId) (k : Violation) (s : State) :
    (violation p k s).dram = s.dram := by
  simp [violation]
@[simp] theorem violation_channels (p : PortId) (k : Violation) (s : State) :
    (violation p k s).channels = s.channels := by
  simp [violation]
@[simp] theorem violation_mgmt (p : PortId) (k : Violation) (s : State) :
    (violation p k s).mgmt = s.mgmt := by
  simp [violation]

/-! ### What may be taken next -/

/-- The result of a line that may be taken next (R134): it is in flight with this tag and line, and no result before it
is of the same frame and line. -/
theorem nextLineResult_spec {s : State} {p : PortId} {tag line : Nat} {r : LineResult}
    (h : s.nextLineResult p tag line = some r) :
    r.tag = tag ∧ r.line = line ∧ ∃ before after, s.flight.lineResults.get p = before ++ r :: after ∧
      ∀ x ∈ before, ¬(x.tag = tag ∧ x.line = line) ∧ ¬(x.frame = r.frame ∧ x.line = line) := by
  unfold State.nextLineResult at h
  split at h
  · cases h
  · rename_i r0 h0
    split at h
    · rename_i r1 h1
      split at h
      · rename_i ht
        cases h
        obtain ⟨e0, before, after, hb, hn⟩ := List.find?_eq_some_iff_append.1 h0
        obtain ⟨e1, before', after', hb', hn'⟩ := List.find?_eq_some_iff_append.1 h1
        simp only [Bool.and_eq_true, beq_iff_eq] at e0 e1
        refine ⟨e0.1, e0.2, before, after, hb, fun x hx => ⟨?_, ?_⟩⟩
        · have := hn x hx
          simp only [Bool.not_eq_true', Bool.and_eq_false_iff, beq_eq_false_iff_ne] at this
          exact fun hxx => this.elim (fun h => h hxx.1) (fun h => h hxx.2)
        · intro hxx
          have hx' := hn x hx
          -- `x` stands before `r`, so the first result of the line is at `x` or before it, and is not `tag`'s
          rcases List.append_eq_append_iff.1 (hb.symm.trans hb') with ⟨as, ha, hc⟩ | ⟨bs, ha, hc⟩
          · have : x ∈ before' := ha ▸ List.mem_append_left _ hx
            have := hn' x this
            simp [hxx] at this
          · cases bs with
            | nil =>
              have : x ∈ before' := by rw [ha] at hx; simpa using hx
              have := hn' x this
              simp [hxx] at this
            | cons b bs =>
              simp at hc
              have : r1 ∈ before := by rw [ha, hc.1]; simp
              have := hn r1 this
              simp [e1, ht] at this
      · cases h
    · cases h

/-- A result in flight without an earlier one of its line, or of its tag and line, may be taken next (R134). -/
theorem nextLineResult_of_first {s : State} {p : PortId} {r : LineResult} {before after : List LineResult}
    (h : s.flight.lineResults.get p = before ++ r :: after)
    (hb : ∀ x ∈ before, ¬(x.tag = r.tag ∧ x.line = r.line) ∧ ¬(x.frame = r.frame ∧ x.line = r.line)) :
    s.nextLineResult p r.tag r.line = some r := by
  have h1 : (s.flight.lineResults.get p).find? (fun x => x.tag == r.tag && x.line == r.line) = some r := by
    rw [List.find?_eq_some_iff_append]
    exact ⟨by simp, before, after, h, fun x hx => by simpa [← not_and_or] using (hb x hx).1⟩
  have h2 : (s.flight.lineResults.get p).find? (fun x => x.frame == r.frame && x.line == r.line) = some r := by
    rw [List.find?_eq_some_iff_append]
    exact ⟨by simp, before, after, h, fun x hx => by simpa [← not_and_or] using (hb x hx).2⟩
  simp [State.nextLineResult, h1, h2]

/-- The scrub result that may be taken next (R134): it is in flight, and none before it is of its frame and line. -/
theorem nextScrubResult_spec {s : State} {i : Nat} {r : ScrubResult} :
    s.nextScrubResult i = some r ↔ s.flight.scrubResults[i]? = some r ∧
      ∀ x ∈ s.flight.scrubResults.take i, ¬(x.frame = r.frame ∧ x.line = r.line) := by
  unfold State.nextScrubResult
  cases h : s.flight.scrubResults[i]? with
  | none => simp
  | some r0 =>
    constructor
    · intro hs
      simp only at hs
      split at hs
      · cases hs
      · rename_i hn
        cases hs
        refine ⟨rfl, fun x hx he => hn (List.any_eq_true.2 ⟨x, hx, by simp [he]⟩)⟩
    · rintro ⟨e, hx⟩
      cases e
      refine if_neg ?_
      rw [List.any_eq_true]
      rintro ⟨x, hm, he⟩
      exact hx x hm (by simpa using he)

end Sys2Proof.Machine
end

