-- ==== Sys2Proof/Laws/Quad.lean ====
section
/-! SUPPORT. The laws of the four-place tables: reading what was written, and reading another place. -/

namespace Sys2Proof

@[simp] theorem Quad.get_all {α : Type} (x : α) (i : Fin 4) : (Quad.all x).get i = x := by
  fin_cases i <;> rfl

@[simp] theorem Quad.get_set_same {α : Type} (q : Quad α) (i : Fin 4) (x : α) : (q.set i x).get i = x := by
  fin_cases i <;> rfl

@[simp] theorem Quad.get_set_ne {α : Type} (q : Quad α) {i j : Fin 4} (x : α) (h : j ≠ i) :
    (q.set i x).get j = q.get j := by
  fin_cases i <;> fin_cases j <;> first | rfl | exact absurd rfl h

theorem Quad.get_set {α : Type} (q : Quad α) (i j : Fin 4) (x : α) :
    (q.set i x).get j = if j = i then x else q.get j := by
  by_cases h : j = i
  · subst h; simp
  · simp [h]

@[simp] theorem Quad.set_set {α : Type} (q : Quad α) (i : Fin 4) (x y : α) : (q.set i x).set i y = q.set i y := by
  fin_cases i <;> rfl

@[simp] theorem Quad.set_get_self {α : Type} (q : Quad α) (i : Fin 4) : q.set i (q.get i) = q := by
  fin_cases i <;> rfl

/-- Two tables that agree at every place are equal. -/
theorem Quad.ext_get {α : Type} {q r : Quad α} (h : ∀ i, q.get i = r.get i) : q = r := by
  cases q; cases r
  have h0 := h 0; have h1 := h 1; have h2 := h 2; have h3 := h 3
  simp only [Quad.get] at h0 h1 h2 h3
  simp_all

namespace Machine

@[simp] theorem State.setLink_link_same (s : State) (p : PortId) (x : LinkPort) : (s.setLink p x).link p = x := by
  simp [State.link, State.setLink]

@[simp] theorem State.setLink_link_ne (s : State) {p q : PortId} (x : LinkPort) (h : q ≠ p) :
    (s.setLink p x).link q = s.link q := by
  simp [State.link, State.setLink, h]

@[simp] theorem State.setQueue_queue_same (s : State) (p : PortId) (x : List ReqEntry) :
    (s.setQueue p x).queue p = x := by
  simp [State.queue, State.setQueue]

@[simp] theorem State.setQueue_queue_ne (s : State) {p q : PortId} (x : List ReqEntry) (h : q ≠ p) :
    (s.setQueue p x).queue q = s.queue q := by
  simp [State.queue, State.setQueue, h]

@[simp] theorem State.setCache_cache_same (s : State) (p : PortId) (x : List CacheEntry) :
    (s.setCache p x).cache p = x := by
  simp [State.cache, State.setCache]

@[simp] theorem State.setCache_cache_ne (s : State) {p q : PortId} (x : List CacheEntry) (h : q ≠ p) :
    (s.setCache p x).cache q = s.cache q := by
  simp [State.cache, State.setCache, h]

@[simp] theorem State.setChannel_channel_same (s : State) (c : ChannelId) (x : Channel) :
    (s.setChannel c x).channel c = x := by
  simp [State.channel, State.setChannel]

@[simp] theorem State.setChannel_channel_ne (s : State) {c d : ChannelId} (x : Channel) (h : d ≠ c) :
    (s.setChannel c x).channel d = s.channel d := by
  simp [State.channel, State.setChannel, h]

end Machine
end Sys2Proof
end

