-- ==== Sys2Proof/Tests/Slice0.lean ====
section
/-! SUPPORT. Small tests: terms that WellFormed refuses, single steps against the manual's rules and tables, and
for every statement with premises a concrete state and operands that meet them. -/

namespace Sys2Proof.Tests

open Sys2Proof Sys2Proof.Machine

/-! ### A small part: one channel of four frames -/

/-- A Link Port in its first session. -/
def session : LinkPort :=
  { LinkPort.afterReset [] with
    link := .up, state := .attached, session := 1, requestCredits := 32, commandCredits := 4, completionCredits := 2,
    noticeCredits := 2 }

/-- The HOLDER item of Port 0. -/
def holderItem (hpn : Nat) : MapItem :=
  { port := 0, hpn := hpn, access := .readWrite, role := .holder, phase := .active }

/-- The READER item of Port 1. -/
def readerItem (hpn : Nat) : MapItem :=
  { port := 1, hpn := hpn, access := .read, role := .reader, phase := .active }

/-- A running part with frames 1 (HELD by Port 0 at page 5), 2 (SHARED, holder Port 0 at page 6, reader Port 1 at
page 7) and 3 (FREE); Ports 0 to 2 are in a session, Port 3 is IDLE. -/
def base : State :=
  { State.reset with
    pop := { channels := 1, channelSize := 4 }, device := .run, mapUnit := MapUnit.afterReset false,
    links := ⟨session, session, session, { LinkPort.afterReset [] with link := .up, state := .idle }⟩,
    scrub := Scrub.afterReset 1,
    engine := { Engine.afterReset with
      directory := [
        (1, { FrameRecord.afterReset 1 with state := .held, holder := some 0, items := [holderItem 5] }),
        (2, { FrameRecord.afterReset 2 with
          state := .shared, holder := some 0, items := [holderItem 6, readerItem 7] }),
        (3, { FrameRecord.afterReset 3 with state := .free })],
      freeList := [3], held := ⟨2, 0, 0, 0⟩ } }

/-- A pool command at the head of a Command Queue. -/
def withCommand (p : PortId) (cmd : PoolCmd) (s : State) : State :=
  s.setLink p { s.link p with commandCredits := 3, tags := [9], commands := [(9, cmd)] }

/-- A Link Port replaced in its states. -/
def withPort (p : PortId) (l : LinkState) (st : PortState) (s : State) : State :=
  s.setLink p { LinkPort.afterReset [] with link := l, state := st }

/-- An access at the head of channel 0's queue. -/
def withAccess (a : Access64) (s : State) : State := s.setChannel 0 { s.channel 0 with queue := [a] }

/-- A request in the management slot, running as request 3. -/
def withSlot (r : MgmtReq) (s : State) : State :=
  (s.setEngine { s.engine with slot := some r }).setMgmt { s.mgmt with buffer := .running 3 r }

/-- A port request in a Link Port's hands, running as request 3. -/
def withPortSlot (x : PortRequest) (r : MgmtReq) (s : State) : State :=
  s.setMgmt { s.mgmt with portSlot := some x, buffer := .running 3 r }

/-- The recall record of Port 1's share of frame 2. -/
def recalling (ph : RecallPhase) (d : Option Nat) : RecallRecord :=
  { recallId := 4, frame := 2, port := 1, hpn := 7, role := .reader, reason := .revoke, notify := true, phase := ph,
    noticeSent := some false, deadline := d, origin := some (0, 9), drained := none }

/-- The recall record of the holder of frame 2. -/
def holderRecall (ph : RecallPhase) : RecallRecord :=
  { recallId := 5, frame := 2, port := 0, hpn := 6, role := .holder, reason := .release, notify := false, phase := ph,
    noticeSent := none, deadline := none, origin := none, drained := none }

/-- Recall records in the table. -/
def withRecalls (rs : List RecallRecord) (s : State) : State := s.setRecalls { s.recalls with table := rs }

/-- 64 records, so that the Recall Table is full. -/
def noRecords (s : State) : State := withRecalls (List.replicate 64 (holderRecall .draining)) s

/-- An offer of frame 1 to Port 2. -/
def offer1 (sent : Bool) : Offer :=
  { grantId := 6, frame := 1, fromPort := 0, tag := 8, fromHpn := 5, toPort := 2, access := .read, deadline := 0,
    sent := sent }

/-- The offer stands. -/
def withOffer (sent : Bool) (s : State) : State := s.setEngine { s.engine with offers := [offer1 sent] }

/-- A parked claim. -/
def parked (p : PortId) (tag n : Nat) : ParkedClaim := { port := p, tag := tag, hpn := 100, count := n, deadline := 0 }

/-- A Notice Queue filled with `n` notices. -/
def withNotices (p : PortId) (n : Nat) (s : State) : State :=
  s.setLink p { s.link p with notices := List.replicate n (.withdrawn 1 .expiry) }

/-- An outcome that is a next state with the property `f`. -/
def gives (o : Host.Outcome State Fault Refusal) (f : State → Bool) : Bool :=
  match o with
  | .next t => f t
  | _ => false

/-! ### WellFormed refuses -/

theorem test_wellFormed_credit : (Instr.credit 0 255 256).wellFormed = false := by decide
theorem test_wellFormed_recallAck : (Instr.recallAck 0 65536).wellFormed = false := by decide
theorem test_wellFormed_malformed : (Instr.malformedMessage 0 [0x20, 0, 0, 0]).wellFormed = false := by decide
theorem test_wellFormed_read : (Instr.read 0 256 .normal 0 0 1).wellFormed = false := by decide
theorem test_wellFormed_write : (Instr.write 0 0 .normal 0 0 1 none [0]).wellFormed = false := by decide
theorem test_wellFormed_writeMask :
    (Instr.write 0 0 .normal 0 0 1 (some []) (List.replicate 64 0)).wellFormed = false := by decide
theorem test_wellFormed_cswap :
    (Instr.cswap 0 0 .normal 0 0 8 (List.replicate 8 0) (List.replicate 8 0)).wellFormed = false := by decide
theorem test_wellFormed_ordering : (Instr.fence 0 256).wellFormed = false ∧ (Instr.flush 0 256).wellFormed = false ∧
    (Instr.detach 0 256).wellFormed = false := by decide
theorem test_wellFormed_command : (Instr.commandArrival 0 0 (.claim 65536 1)).wellFormed = false := by decide
theorem test_wellFormed_command_fields : ∀ c ∈ [PoolCmd.claim 0 256, .release 65536, .drop 65536, .grant 65536 0 .read,
    .grant 0 256 .read, .accept 65536 0, .accept 0 65536, .decline 65536, .revoke 65536 0, .revoke 0 256],
    (Instr.commandArrival 0 0 c).wellFormed = false := by decide
theorem test_wellFormed_request_fields : (Instr.read 0 0 .normal 65536 0 1).wellFormed = false ∧
    (Instr.read 0 0 .normal 0 65536 1).wellFormed = false ∧ (Instr.read 0 0 .normal 0 0 256).wellFormed = false ∧
    (Instr.cswap 0 0 .normal 0 0 0 [] (List.replicate 8 0)).wellFormed = false ∧
    (Instr.cswap 0 0 .normal 0 0 0 (List.replicate 8 0) []).wellFormed = false := by decide
theorem test_wellFormed_deadlines : (Instr.claimDeadline 0 256).wellFormed = false ∧
    (Instr.offerDeadline 65536).wellFormed = false ∧ (Instr.recallDeadline 65536).wellFormed = false ∧
    (Instr.recallCompletionReport 65536).wellFormed = false := by decide
theorem test_wellFormed_reports : (Instr.correctableReport 32768 0).wellFormed = false ∧
    (Instr.uncorrectableReport 0 32768).wellFormed = false := by decide
theorem test_wellFormed_channels : (Instr.channelRead 0 16 .clean).wellFormed = false ∧
    (Instr.channelFullWrite 0 16).wellFormed = false ∧ (Instr.channelPartialWrite 0 16 .clean).wellFormed = false ∧
    (Instr.channelCswap 0 16 .clean).wellFormed = false := by decide
theorem test_wellFormed_results : (Instr.mapReadResult 0 8192).wellFormed = false ∧
    (Instr.lineResult 0 0 32768).wellFormed = false ∧ (Instr.scrubResult 8).wellFormed = false := by decide
theorem test_wellFormed_transactions : (Instr.mgmtRequestTransaction []).wellFormed = false ∧
    (Instr.mgmtRequestTransaction [0, 1]).wellFormed = false ∧ (Instr.resultTransaction 0).wellFormed = false := by decide
theorem test_wellFormed_settings : (Instr.setQuota 0 0 65536).wellFormed = false ∧
    (Instr.setWeight 0 256 1).wellFormed = false ∧ (Instr.setTimeout 0 0 65536).wellFormed = false ∧
    (Instr.setThreshold 256 1).wellFormed = false ∧ (Instr.logRead 256).wellFormed = false ∧
    (Instr.chipReset 256).wellFormed = false := by decide

/-! ### Premises that are met: the machine, resets, links and sessions -/

/-- The map entry of (Port 0, page 5) to frame 3 as a carried-out access, and one to the pool's last frame. -/
def lastFrameRead : Access64 := { owner := .port 0 9, frame := 3, line := 32767, kind := .read }

theorem witness_CommandsKeepQueueAndDoNotStop :
    ∀ d : ChannelId, ∀ a ∈ ((withAccess lastFrameRead base).channel d).queue,
      a.frame < (withAccess lastFrameRead base).frames := by decide

theorem witness_CommandsChangeOnlyTheirBlocks :
    exec (.trainingCompletes 3) (withPort 3 .training .disabled base) = .next (withPort 3 .up .disabled base) ∧
    Block.engine ∉ touches (.trainingCompletes 3) ∧ onlyPort (.trainingCompletes 3) = some 3 ∧ (0 : PortId) ≠ 3 :=
  ⟨rfl, by decide, rfl, by decide⟩

/-- The part with RESET_N low, and with supply invalid. -/
def held (supply low : Bool) : State := { base with supplyValid := supply, resetAsserted := low }

theorem witness_PowerAndResetEventsSetEveryBlock :
    (held true false).resetAsserted = false ∧ (held true false).operating = true ∧ (held true true).resetAsserted = true ∧
    (held true true).operating = false ∧ (held true true).supplyValid = true ∧ (held false true).supplyValid = false ∧
    (held false true).resetAsserted = true ∧ (held false false).operating = false ∧
    (∀ q, Instr.attach 0 ≠ .powerOn q) ∧ (∀ q, Instr.attach 0 ≠ .resetNAssert q) ∧ Instr.attach 0 ≠ .resetNRelease ∧
    Instr.attach 0 ≠ .supplyFail := by decide

theorem witness_ChipResetKeepsManagementState :
    base.operating = true ∧ ∀ i r, base.mgmt.buffer ≠ .running i r := ⟨rfl, fun _ _ h => nomatch h⟩

theorem witness_LinkEventsMovePort :
    (withPort 3 .down .offline base).operating = true ∧ ((withPort 3 .down .offline base).link 3).link = .down ∧
    ((withPort 3 .training .offline base).link 3).link = .training ∧
    ((withPort 3 .training .offline base).link 3).state = .offline ∧
    ((withPort 3 .training .disabled base).link 3).state ≠ .offline ∧ (base.link 3).link = .up ∧
    (base.link 3).state = .idle ∧ ((withPort 3 .up .disabled base).link 3).state ≠ .idle ∧
    ((withPort 3 .up .disabled base).link 3).state ≠ .attached ∧ (base.link 0).link = .up ∧
    (base.link 0).state = .attached := by decide

theorem witness_AttachFollowsPortState :
    base.operating = true ∧ (base.link 3).link = .up ∧ (base.link 3).state = .idle ∧ base.device = .run ∧
    (base.setDevice .starting).device = .starting ∧
    ((withPort 3 .up .detaching base).link 3).state = .detaching ∧
    ((withPort 3 .up .disabled base).link 3).state = .disabled ∧ (base.link 0).link = .up ∧
    (base.link 0).state = .attached := by decide

/-- Port 0 without request or command credit, holding tag 9 and the most completion credits. -/
def bare : State :=
  base.setLink 0 { session with requestCredits := 0, commandCredits := 0, tags := [9], completionCredits := 255 }

theorem witness_ViolationsEndSession :
    (bare.inSession 0 ∧ base.inSession 0) ∧ parseHostMsg [] = none ∧ parseHostMsg [0x20, 0, 1, 0, 0] = none ∧
    (HostMsg.request 256 .fence).inEncoding = false ∧ (HostMsg.request 255 .fence).inEncoding = true ∧
    (bare.link 0).requestCredits = 0 ∧ ((withCommand 0 (.claim 1 1) base).link 0).requestCredits ≠ 0 ∧
    9 ∈ ((withCommand 0 (.claim 1 1) base).link 0).tags ∧
    (HostMsg.command 0 (.decline 65536)).inEncoding = false ∧
    (HostMsg.command 9 (.decline 65535)).inEncoding = true ∧ (bare.link 0).commandCredits = 0 ∧
    ((withCommand 0 (.claim 1 1) base).link 0).commandCredits ≠ 0 ∧
    255 < (bare.link 0).completionCredits + 1 ∧ 255 < (base.link 0).noticeCredits + 254 ∧ (1 : Nat) ≤ 255 ∧
    (254 : Nat) ≤ 255 ∧ (255 : Nat) < 256 ∧ (65535 : Nat) < 65536 := by
  unfold State.inSession; decide

theorem witness_PortStateGatesMessages :
    base.operating = true ∧ (base.link 0).link = .up ∧ (base.link 0).state = .attached ∧
    (HostMsg.command 255 (.claim 65535 255)).inEncoding = true ∧ (base.link 0).commandCredits ≠ 0 ∧
    255 ∉ (base.link 0).tags ∧ (base.link 0).completionCredits + 253 ≤ 255 ∧
    (base.link 0).noticeCredits + 253 ≤ 255 ∧ (base.link 3).link = .up ∧ (base.link 3).state = .idle ∧
    255 < ((withPort 3 .up .idle base).setLink 3 { base.link 3 with completionCredits := 1 } |>.link 3).completionCredits + 255 ∧
    (65535 : Nat) ≤ 65535 ∧ ((withPort 3 .up .detaching base).link 3).state = .detaching ∧
    ((withPort 3 .up .disabled base).link 3).state = .disabled ∧ (base.link 3).state ≠ .attached ∧
    parseHostMsg [0x99, 0, 0, 0] = none := by decide

theorem witness_PortRequestsFollowPortState :
    let slot (x : PortRequest) (r : MgmtReq) (s : State) : Prop :=
      (withPortSlot x r s).operating = true ∧ (withPortSlot x r s).mgmt.buffer = .running 3 r ∧
        (withPortSlot x r s).mgmt.portSlot = some x
    slot (.reset 0) (.portReset 0) base ∧ (base.link 0).state = .attached ∧
    slot (.reset 3) (.portReset 3) base ∧ (base.link 3).state ≠ .attached ∧
    slot (.disable 0) (.portDisable 0) base ∧
    slot (.disable 3) (.portDisable 3) (withPort 3 .up .detaching base) ∧
    ((withPort 3 .up .detaching base).link 3).state = .detaching ∧ slot (.disable 3) (.portDisable 3) base ∧
    (base.link 3).state = .idle ∧ slot (.enable 3) (.portEnable 3) (withPort 3 .up .disabled base) ∧
    ((withPort 3 .up .disabled base).link 3).state = .disabled ∧
    slot (.enable 3) (.portEnable 3) (withPort 3 .up .detaching base) ∧ slot (.enable 0) (.portEnable 0) base := by
  decide

/-- The recall of Port 1's share of frame 2 has been notified. -/
def notified : State := withRecalls [recalling .notified (some 0)] base

theorem witness_RecallAckUnmapsOrIsDiscarded :
    notified.operating = true ∧ (notified.link 1).link = .up ∧ (notified.link 1).state = .attached ∧
    notified.recordById 4 = some (recalling .notified (some 0)) ∧ (recalling .notified (some 0)).port = 1 ∧
    (recalling .notified (some 0)).recallId ≤ 65535 ∧ (65535 : Nat) ≤ 65535 ∧ 4 ∉ notified.recalls.pendingLists.get 1 ∧ (base.link 3).state ≠ .attached ∧
    (∀ r ∈ notified.recalls.table, r.recallId = 4 → r.port = 2 → r.phase ≠ .notified) ∧
    (∀ r ∈ (withRecalls [recalling .draining none] base).recalls.table,
      r.recallId = 4 → r.port = 1 → r.phase ≠ .notified) := by decide

/-! ### Premises that are met: memory requests -/

/-- A queue entry of Port 0. -/
def withEntries (es : List ReqEntry) (s : State) : State :=
  (s.setQueue 0 es).setLink 0 { s.link 0 with requestCredits := 32 - es.length, tags := es.map ReqEntry.tag }

/-- Port 0's cache holds page 5 and Port 1's cache holds page 7. -/
def cached : State :=
  (base.setCache 0 [{ hpn := 5, frame := 1, access := .readWrite }]).setCache 1
    [{ hpn := 7, frame := 2, access := .read }]

theorem witness_OutOfBoundsRequestEndsBounds :
    base.takesRequest 0 0 (.read .normal 8192 0 1) ∧ outOfBounds (.read .normal 8192 0 1) = true ∧
    base.takesRequest 0 0 (.read .normal 0 32765 4) ∧ outOfBounds (.read .normal 0 32765 4) = true ∧
    base.takesRequest 0 0 (.read .normal 0 0 0) ∧ outOfBounds (.read .normal 0 0 0) = true ∧
    base.takesRequest 0 0 (.read .normal 0 0 5) ∧ outOfBounds (.read .normal 0 0 5) = true ∧
    outOfBounds (.read .normal 8191 32764 4) = false ∧
    outOfBounds (.cswap .normal 8191 32767 7 (List.replicate 8 0) (List.replicate 8 0)) = false := by
  unfold State.takesRequest State.inSession; decide

theorem witness_CacheHitBindsOrFails :
    cached.takesRequest 0 0 (.read .normal 5 32764 4) ∧ outOfBounds (.read .normal 5 32764 4) = false ∧
    placeOf (.read .normal 5 32764 4) = some ⟨5, 32764, 4⟩ ∧
    (cached.cache 0).find? (fun c => c.hpn == 5) = some { hpn := 5, frame := 1, access := .readWrite } ∧
    cached.takesRequest 1 0 (.write .normal 7 0 1 none (List.replicate 64 0)) ∧
    outOfBounds (.write .normal 7 0 1 none (List.replicate 64 0)) = false ∧
    (cached.cache 1).find? (fun c => c.hpn == 7) = some { hpn := 7, frame := 2, access := .read } ∧
    isWriting (.write .normal 7 0 1 none (List.replicate 64 0)) = true := by
  unfold State.takesRequest State.inSession; decide

/-- `n` walks of other pages. -/
def walking (n : Nat) : State :=
  base.setWalker { walks := (List.range n).map fun k => { port := 3, hpn := k, stale := false }, retry := [] }

theorem witness_CacheMissWalks :
    (walking 7).takesRequest 0 0 (.read .normal 5 0 1) ∧ ((walking 7).cache 0).find? (fun c => c.hpn == 5) = none ∧
    (walking 7).hasWalk 0 5 = false ∧ (walking 7).walker.walks.length < 8 ∧
    (walking 8).takesRequest 0 0 (.read .normal 5 0 1) ∧ (walking 8).hasWalk 0 5 = false ∧
    8 ≤ (walking 8).walker.walks.length ∧ outOfBounds (.read .normal 5 0 1) = false ∧
    (base.setWalker { walks := [{ port := 0, hpn := 5, stale := false }], retry := [] }).hasWalk 0 5 = true ∧
    (base.setWalker { walks := [{ port := 0, hpn := 5, stale := false }], retry := [] }).takesRequest 0 0
      (.read .normal 5 0 1) := by
  unfold State.takesRequest State.inSession; decide

/-- A READ bound to frame 1. -/
def boundRead (cls : ReqClass) : ReqEntry := { tag := 9, kind := .read cls 5 0 2, state := .bound 1 }

theorem witness_OrderingRequestsWaitForEarlierOnes :
    base.takesRequest 0 0 .fence ∧ (base.queue 0).all ReqEntry.isDone = true ∧
    (withEntries [boundRead .normal] base).takesRequest 0 0 .detach ∧
    (∃ e ∈ (withEntries [boundRead .normal] base).queue 0, e.isDone = false ∧ (placeOf e.kind).isSome) ∧
    (withEntries [boundRead .normal] base).takesRequest 0 0 .flush ∧
    (∀ e ∈ (withEntries [boundRead .normal] base).queue 0, isWriting e.kind = true → e.isDone = true) ∧
    (∃ e ∈ (withEntries [{ tag := 9, kind := .write .normal 5 0 1 none [], state := .bound 1 }] base).queue 0,
      isWriting e.kind = true ∧ e.isDone = false) ∧
    (withEntries [{ tag := 9, kind := .write .normal 5 0 1 none [], state := .bound 1 }] base).takesRequest 0 0
      .flush := by
  unfold State.takesRequest State.inSession; decide

/-- A READ of two lines of frame 1, issued whole, of which `n` results have come. -/
def issuedRead (n : Nat) : ReqEntry :=
  { tag := 9, kind := .read .normal 5 0 2, state := .issued 1 2 n Gathered.nothing }

/-- Tag 9's result of its line 1. -/
def lineOne (o : AccessOutcome) : LineResult := { tag := 9, frame := 1, line := 1, outcome := o }

/-- These line results of Port 0 are in flight. -/
def withResults (rs : List LineResult) (s : State) : State :=
  s.setFlight { s.flight with lineResults := s.flight.lineResults.set 0 rs }

/-- An entry of tag 9, a FENCE behind it, and the result of the entry's line 1. -/
def resulting (e : ReqEntry) (o : AccessOutcome) : State :=
  withResults [lineOne o] (withEntries [e, { tag := 8, kind := .fence, state := .waiting }] base)

theorem witness_OrderingRequestsWaitForEarlierOnes_results :
    let s := resulting (issuedRead 1) (.clean zeroLine)
    s.operating = true ∧ (s.link 0).state = .attached ∧ s.entry 0 9 = some (issuedRead 1) ∧
      placeOf (issuedRead 1).kind = some ⟨5, 0, 2⟩ ∧ 2 ≤ 1 + 1 ∧ ((s.queue 0).map ReqEntry.tag).Nodup ∧
      s.nextLineResult 0 9 1 = some (lineOne (.clean zeroLine)) ∧
      (s.queue 0)[1]? = some { tag := 8, kind := .fence, state := .waiting } := by decide

/-- A WRITE and a CSWAP of tag 9 to frame 1, issued whole, with all results but the last. -/
def issuedWrite : ReqEntry :=
  { tag := 9, kind := .write .normal 5 0 2 none [], state := .issued 1 2 1 { Gathered.nothing with failed := [0] } }
def issuedSwap : ReqEntry :=
  { tag := 9, kind := .cswap .normal 5 1 7 [] [], state := .issued 1 1 0 Gathered.nothing }

/-- Port 0 is being torn down. -/
def ending (s : State) : State := s.setLink 0 { LinkPort.afterReset [] with link := .up, state := .detaching }

/-- A record of Port 0 in DRAINING, of frame 1, as a reader's or a holder's. -/
def draining1 (role : Role) : RecallRecord :=
  { holderRecall .draining with recallId := 6, frame := 1, hpn := 5, role := role, drained := some false }

theorem witness_LineResultsCompleteEntry :
    (∀ e, e = issuedRead 0 ∨ e = issuedRead 1 ∨ e = issuedWrite ∨ e = issuedSwap →
      let s := resulting e (.clean zeroLine)
      s.operating = true ∧ s.entry 0 9 = some e ∧ ((s.queue 0).map ReqEntry.tag).Nodup ∧
        s.flight.lineResults.get 0 = [] ++ lineOne (.clean zeroLine) :: [] ∧ (s.link 0).state = .attached ∧
        ((ending s).entry 0 9 = some e ∧ ((ending s).link 0).state = .detaching)) ∧
    (placeOf issuedSwap.kind = some ⟨5, 1, 1⟩ ∧ 1 ≤ 0 + 1 ∧ 0 + 1 < 2 ∧ 2 ≤ 1 + 1) ∧
    (lineOne .uncorrectable).outcome = .uncorrectable ∧ (lineOne (.corrected zeroLine)).outcome = .corrected zeroLine ∧
    (lineOne .written).outcome = .written ∧ (lineOne (.swap [] true)).outcome = .swap [] true := by
  refine ⟨fun e h => ?_, by decide, rfl, rfl, rfl, rfl⟩
  rcases h with rfl | rfl | rfl | rfl <;> decide

theorem witness_LineResultsCompleteEntry_sameLine :
    let x : LineResult := { lineOne .written with tag := 7 }
    let s := withResults [x, lineOne .written] (resulting (issuedRead 1) .written)
    s.flight.lineResults.get 0 = [x] ++ lineOne .written :: [] ∧ (∀ y ∈ [x], ¬(y.tag = 9 ∧ y.line = 1)) ∧
      (∃ y ∈ [x], y.frame = 1 ∧ y.line = 1) ∧ s.entry 0 9 = some (issuedRead 1) := by decide

theorem witness_LineResultsCompleteEntry_drains :
    ∀ role : Role, role = .reader ∨ role = .holder →
      let s := withRecalls [draining1 role] (resulting (issuedRead 1) .written)
      s.recalls.table.find? (fun x => x.port == 0 && x.frame == 1) = some (draining1 role) ∧
        s.recordById 6 = some (draining1 role) ∧ (draining1 role).phase = .draining ∧
        (∀ e ∈ s.queue 0, e.tag = 9 ∨ e.issuedTo 1 = false) ∧
        ((s.setRecord 1 { s.record 1 with items := [holderItem 5, readerItem 7] }).record 1).hasReader = true ∧
        (s.record 1).hasReader = false := by
  intro role h
  rcases h with rfl | rfl <;> decide

/-- Another entry of Port 0 stays ISSUED to frame 1. -/
theorem witness_LineResultsCompleteEntry_stillIssued :
    let other : ReqEntry := { issuedRead 0 with tag := 7 }
    let s := withRecalls [draining1 .reader, recalling .draining none] (withResults [lineOne .written]
      (withEntries [issuedRead 1, other] base))
    s.operating = true ∧ s.entry 0 9 = some (issuedRead 1) ∧ ((s.queue 0).map ReqEntry.tag).Nodup ∧
      s.flight.lineResults.get 0 = [] ++ lineOne .written :: [] ∧ (s.recalls.table.map RecallRecord.recallId).Nodup ∧
      gives (exec (.lineResult 0 9 1) s) fun t => (t.queue 0).any (fun e => e.issuedTo 1) &&
        decide (t.recalls = s.recalls) := by decide

/-- The round of channel 0 after the first grant to Port 0. -/
def firstRound : Round :=
  { begun := true, start := 0, allowance := .all 4, used := ⟨1, 0, 0, 0⟩, scrubUsed := false }

/-- A masked WRITE of two lines to frame 1, the first line with all its enables set and the second with one clear. -/
def maskedWrite (st : ReqState) : ReqEntry :=
  { tag := 7, kind := .write .normal 5 0 2 (some (List.replicate 127 true ++ [false])) (List.replicate 128 1), state := st }

theorem witness_PortGrantSendsOneLine :
    let urgent : ReqEntry := { tag := 8, kind := .read .urgent 5 7 2, state := .issued 1 1 0 Gathered.nothing }
    let s := withEntries [boundRead .normal] base
    let u := withEntries [boundRead .normal, urgent] base
    s.operating = true ∧ s.granted 0 (.port 0) = some firstRound ∧ eligible s 0 0 = [] ++ boundRead .normal :: [] ∧
    (boundRead .normal).state = .bound 1 ∧ placeOf (boundRead .normal).kind = some ⟨5, 0, 2⟩ ∧
    (∀ x ∈ [boundRead .normal], isUrgent x.kind = false) ∧ ((s.queue 0).map ReqEntry.tag).Nodup ∧
    u.granted 0 (.port 0) = some firstRound ∧ eligible u 0 0 = [boundRead .normal] ++ urgent :: [] ∧
    placeOf urgent.kind = some ⟨5, 7, 2⟩ ∧ isUrgent urgent.kind = true ∧ (∀ x ∈ [boundRead .normal], isUrgent x.kind = false) ∧
    ((u.queue 0).map ReqEntry.tag).Nodup := by decide

theorem witness_PortGrantSendsOneLine_writes :
    let clear : ReqState := .issued 1 1 0 Gathered.nothing
    (∀ st : ReqState, st = .bound 1 ∨ st = clear →
      eligible (withEntries [maskedWrite st] base) 0 0 = [] ++ maskedWrite st :: [] ∧
      (withEntries [maskedWrite st] base).granted 0 (.port 0) = some firstRound) ∧
    (∀ b ∈ ((List.replicate 127 true ++ [false]).drop (64 * 0)).take 64, b = true) ∧
    (∃ b ∈ ((List.replicate 127 true ++ [false]).drop (64 * 1)).take 64, b = false) ∧
    eligible (withEntries [{ issuedSwap with state := .bound 1 }] base) 0 0 = [] ++ { issuedSwap with state := .bound 1 } :: [] := by
  refine ⟨fun st h => ?_, by decide, by decide, by decide⟩
  rcases h with rfl | rfl <;> decide

/-- What holds an entry back: a DETACH although it is DONE, a FENCE that waits, an earlier entry of the same line. -/
theorem test_eligible_holds :
    eligible (withEntries [{ tag := 8, kind := .detach, state := .done .ok Gathered.nothing }, boundRead .normal] base) 0 0 =
      [] ∧
    eligible (withEntries [{ tag := 8, kind := .fence, state := .waiting }, boundRead .normal] base) 0 0 = [] ∧
    eligible (withEntries [{ tag := 8, kind := .fence, state := .done .ok Gathered.nothing }, boundRead .normal] base) 0 0 =
      [boundRead .normal] ∧
    eligible (withEntries [{ issuedWrite with tag := 8, state := .issued 1 1 0 Gathered.nothing }, boundRead .normal] base)
      0 0 = [{ issuedWrite with tag := 8, state := .issued 1 1 0 Gathered.nothing }, boundRead .normal] ∧
    eligible (withEntries [{ issuedWrite with tag := 8, state := .bound 1 }, boundRead .normal] base) 0 0 =
      [{ issuedWrite with tag := 8, state := .bound 1 }] := by decide

/-! ### Premises that are met: command service -/

/-- The Claim Queue holds these claims. -/
def withClaims (cs : List ParkedClaim) (s : State) : State := s.setEngine { s.engine with claims := cs }

theorem witness_ClaimIsRefusedOrParks :
    (withCommand 0 (.claim 0 0) base).servesCommand 0 9 (.claim 0 0) ∧
    (withCommand 0 (.claim 0 17) base).servesCommand 0 9 (.claim 0 17) ∧ (16 : Nat) < 17 ∧
    (withCommand 0 (.claim 8177 16) base).servesCommand 0 9 (.claim 8177 16) ∧ 8191 < 8177 + 16 - 1 ∧
    (withCommand 0 (.claim 3 3) base).servesCommand 0 9 (.claim 3 3) ∧
    (∃ k, k < 3 ∧ (withCommand 0 (.claim 3 3) base).occupied 0 (3 + k) = true) ∧
    (let s := withCommand 0 (.claim 8190 2) (base.setMgmt { base.mgmt with
      settings := { Settings.default with quota := .all 3 } })
     s.servesCommand 0 9 (.claim 8190 2) ∧ s.mgmt.settings.quota.get 0 < s.engine.held.get 0 + s.parked 0 + 2 ∧
       ¬∃ k, k < 2 ∧ s.occupied 0 (8190 + k) = true) ∧
    (let s := withCommand 0 (.claim 8190 2) (base.setMgmt { base.mgmt with
      settings := { Settings.default with claimMs := 0 } })
     s.servesCommand 0 9 (.claim 8190 2) ∧ s.mgmt.settings.claimMs = 0 ∧
       ¬(s.engine.claims = [] ∧ 2 ≤ s.engine.freeList.length) ∧
       ¬s.mgmt.settings.quota.get 0 < s.engine.held.get 0 + s.parked 0 + 2) ∧
    (let s := withCommand 0 (.claim 8190 2) (withClaims (List.replicate 8 (parked 2 1 2)) base)
     s.servesCommand 0 9 (.claim 8190 2) ∧ 8 ≤ s.engine.claims.length ∧ s.mgmt.settings.claimMs ≠ 0) ∧
    (let s := withCommand 0 (.claim 8190 2) (withClaims (List.replicate 7 (parked 2 1 2)) base)
     s.servesCommand 0 9 (.claim 8190 2) ∧ s.engine.claims.length < 8 ∧
       ¬∃ k, k < 2 ∧ s.occupied 0 (8190 + k) = true) := by
  unfold State.servesCommand; and_intros <;> decide

theorem witness_ClaimGrantLendsFrames :
    let s := withCommand 2 (.claim 8191 1) base
    s.servesCommand 2 9 (.claim 8191 1) ∧ claimRefusal 2 8191 1 s = none ∧ s.engine.claims = [] ∧
      1 ≤ s.engine.freeList.length ∧ (s.engine.freeList.take 1).Nodup := by
  unfold State.servesCommand; decide

/-- Frame 1's holder item is LEAVING. -/
def leaving1 : State :=
  base.setRecord 1 { base.record 1 with
    state := .recalling, leave := some .evict, items := [{ holderItem 5 with phase := .leaving }] }

theorem witness_ItemCommandsRefuseInOrder :
    (withCommand 0 (.release 8192) base).servesCommand 0 9 (.release 8192) ∧
    (withCommand 0 (.release 8191) base).servesCommand 0 9 (.release 8191) ∧
    (withCommand 0 (.release 8191) base).itemAt 0 8191 = none ∧
    (withCommand 0 (.release 5) leaving1).servesCommand 0 9 (.release 5) ∧
    (withCommand 0 (.release 5) leaving1).itemAt 0 5 = some (1, { holderItem 5 with phase := .leaving }) ∧
    (withCommand 1 (.release 7) base).servesCommand 1 9 (.release 7) ∧
    (withCommand 1 (.release 7) base).itemAt 1 7 = some (2, readerItem 7) ∧ (readerItem 7).role ≠ .holder ∧
    (withCommand 0 (.drop 5) base).servesCommand 0 9 (.drop 5) ∧
    (withCommand 0 (.drop 5) base).itemAt 0 5 = some (1, holderItem 5) ∧ (holderItem 5).role ≠ .reader ∧
    (withCommand 1 (.grant 7 2 .read) base).servesCommand 1 9 (.grant 7 2 .read) ∧
    (withCommand 1 (.revoke 7 2) base).servesCommand 1 9 (.revoke 7 2) := by
  unfold State.servesCommand; decide

theorem witness_TargetsAndOffersAreChecked :
    (∀ target, target = 0 ∨ target = 4 →
      (withCommand 0 (.grant 5 target .read) base).servesCommand 0 9 (.grant 5 target .read) ∧
      (withCommand 0 (.revoke 5 target) base).servesCommand 0 9 (.revoke 5 target)) ∧
    (withCommand 0 (.grant 5 0 .read) base).itemAt 0 5 = some (1, holderItem 5) ∧
    (withCommand 0 (.grant 5 3 .read) base).servesCommand 0 9 (.grant 5 3 .read) ∧ (base.link 3).state ≠ .attached ∧
    (withCommand 0 (.grant 6 1 .read) base).servesCommand 0 9 (.grant 6 1 .read) ∧
    (base.record 2).itemOf 1 ≠ none ∧
    (withCommand 0 (.grant 5 2 .read) (withOffer false base)).servesCommand 0 9 (.grant 5 2 .read) ∧
    (withOffer false base).offerOn 1 2 ≠ none ∧
    (withCommand 0 (.grant 5 2 .read) (withNotices 2 32 base)).servesCommand 0 9 (.grant 5 2 .read) ∧
    32 ≤ ((withNotices 2 32 base).link 2).notices.length ∧ (base.record 1).itemOf 2 = none ∧
    base.offerOn 1 2 = none ∧ (withCommand 0 (.revoke 5 2) base).servesCommand 0 9 (.revoke 5 2) ∧
    (withCommand 2 (.accept 6 0) base).servesCommand 2 9 (.accept 6 0) ∧ base.offerTo 2 6 = none ∧
    (withCommand 2 (.accept 6 8192) (withOffer true base)).servesCommand 2 9 (.accept 6 8192) ∧
    (withOffer true base).offerTo 2 6 = some (offer1 true) ∧
    (withCommand 2 (.accept 6 100) (withClaims [parked 2 1 1] (withOffer true base))).servesCommand 2 9
      (.accept 6 100) ∧ (withClaims [parked 2 1 1] (withOffer true base)).occupied 2 100 = true ∧
    (withCommand 2 (.decline 6) base).servesCommand 2 9 (.decline 6) := by
  refine ⟨fun target h => ?_, ?_⟩
  · rcases h with rfl | rfl <;> (unfold State.servesCommand; decide)
  · unfold State.servesCommand; and_intros <;> decide

theorem witness_TargetsAndOffersAreChecked_leaving :
    let s := withCommand 0 (.revoke 6 1) (base.setRecord 2 ((base.record 2).turnLeaving 1))
    s.servesCommand 0 9 (.revoke 6 1) ∧ s.itemAt 0 6 = some (2, holderItem 6) ∧
      (s.record 2).itemOf 1 = some { readerItem 7 with phase := .leaving } := by
  unfold State.servesCommand; decide

theorem witness_ReleaseRecallsFrame :
    let s := withCommand 0 (.release 6) base
    s.servesCommand 0 9 (.release 6) ∧ s.itemAt 0 6 = some (2, holderItem 6) ∧
      1 + (s.record 2).activeReaders.length ≤ s.freeRecords := by
  unfold State.servesCommand; decide

/-- Page 5 is released while frame 1 is offered to Port 2, whose OFFER is sent or unsent and whose Notice Queue holds `n`. -/
def releasing (sent : Bool) (n : Nat) : State := withCommand 0 (.release 5) (withNotices 2 n (withOffer sent base))

theorem witness_ReleaseRecallsFrame_offers :
    ∀ sent n, (n = 31 ∨ n = 32) → let s := releasing sent n
      s.servesCommand 0 9 (.release 5) ∧ s.itemAt 0 5 = some (1, holderItem 5) ∧
      1 + (s.record 1).activeReaders.length ≤ s.freeRecords ∧ offer1 sent ∈ s.engine.offers ∧ (offer1 sent).frame = 1 ∧
      (s.link (offer1 sent).fromPort).state = .attached ∧ (s.link (offer1 sent).toPort).state = .attached ∧
      (s.record 1).itemOf 2 = none ∧
      s.engine.offers.filter (fun x => x.frame == 1 && x.toPort == 2) = [offer1 sent] ∧ (s.link 2).notices.length = n := by
  intro sent n h
  unfold State.servesCommand
  rcases h with rfl | rfl <;> cases sent <;> decide

/-- The GRANT completes WITHDRAWN and Port 2 is told. -/
theorem test_release_withdraws : gives (exec (.release 0) (releasing true 31)) (fun t =>
    decide ((t.link 0).outbound = [grantCompletion 8 .withdrawn 6]) &&
    decide ((t.link 2).notices.getLast? = some (.withdrawn 6 .withdrawal)) && decide (t.engine.offers = [])) := by decide

theorem witness_DropRecallsOwnItem :
    let s := withCommand 1 (.drop 7) base
    s.servesCommand 1 9 (.drop 7) ∧ sparseWf FrameRecord.afterReset s.engine.directory = true ∧
      s.itemAt 1 7 = some (2, readerItem 7) ∧ (readerItem 7).phase = .active ∧ (readerItem 7).role = .reader ∧
      1 ≤ s.freeRecords := by
  unfold State.servesCommand; decide

theorem witness_GrantMakesOffer :
    let s := withNotices 2 31 (withCommand 0 (.grant 5 2 .readWrite) (base.setEngine { base.engine with
      offers := List.replicate 15 { offer1 true with frame := 2, toPort := 3 } }))
    s.servesCommand 0 9 (.grant 5 2 .readWrite) ∧ s.itemAt 0 5 = some (1, holderItem 5) ∧
      (s.link 2).state = .attached ∧ (s.record 1).itemOf 2 = none ∧ s.offerOn 1 2 = none ∧
      s.engine.offers.length < 16 ∧ (s.link 2).notices.length < 32 := by
  unfold State.servesCommand; decide

theorem witness_AcceptAddsReaderAndDeclineEndsOffer :
    (let s := withCommand 2 (.accept 6 8191) (withOffer true base)
     s.offerTo 2 6 = some (offer1 true) ∧ s.servesCommand 2 9 (.accept 6 8191) ∧ s.occupied 2 8191 = false) ∧
    (let s := withCommand 2 (.decline 6) (withOffer true base)
     s.offerTo 2 6 = some (offer1 true) ∧ s.servesCommand 2 9 (.decline 6) ∧ (offer1 true).fromPort ≠ 2 ∧
       (s.link 0).state = .attached) := by
  unfold State.servesCommand; decide

theorem witness_RevokeTakesShareAway :
    (let s := withCommand 0 (.revoke 6 1) base
     s.servesCommand 0 9 (.revoke 6 1) ∧ s.itemAt 0 6 = some (2, holderItem 6) ∧
       (s.record 2).itemOf 1 = some (readerItem 7) ∧ 1 ≤ s.freeRecords) ∧
    (∀ sent, let s := withCommand 0 (.revoke 5 2) (withOffer sent base)
      s.servesCommand 0 9 (.revoke 5 2) ∧ s.itemAt 0 5 = some (1, holderItem 5) ∧ (s.record 1).itemOf 2 = none ∧
        s.offerOn 1 2 = some (offer1 sent) ∧ (offer1 sent).fromPort = 0) := by
  unfold State.servesCommand; decide

theorem witness_CommandsAreDeferredForRecords :
    (let s := withCommand 0 (.release 6) (noRecords base)
     s.servesCommand 0 9 (.release 6) ∧ (s.link 0).requestReturns = 0 ∧ (s.link 0).commandReturns = 0 ∧
       s.itemAt 0 6 = some (2, holderItem 6) ∧ s.freeRecords < 1 + (s.record 2).activeReaders.length) ∧
    (let s := withCommand 1 (.drop 7) (noRecords base)
     s.servesCommand 1 9 (.drop 7) ∧ (s.link 1).requestReturns = 0 ∧ (s.link 1).commandReturns = 0 ∧
       s.itemAt 1 7 = some (2, readerItem 7) ∧ s.freeRecords = 0) ∧
    (let s := withCommand 0 (.revoke 6 1) (noRecords base)
     s.servesCommand 0 9 (.revoke 6 1) ∧ s.itemAt 0 6 = some (2, holderItem 6) ∧
       (s.record 2).itemOf 1 = some (readerItem 7) ∧ s.freeRecords = 0) := by
  unfold State.servesCommand; decide

/-! ### Premises that are met: recall, deadlines, teardown, scrubbing, frame health -/

theorem witness_RecallRecordsStartByRule :
    (withRecalls (List.replicate 63 (holderRecall .draining)) base).recalls.table.length < 64 ∧
    (base.link 3).state ≠ .attached ∧ (base.link 1).state = .attached ∧
    ((withNotices 1 31 base).link 1).notices.length < 32 ∧
    32 ≤ ((withNotices 1 32 base).link 1).notices.length := by decide

theorem witness_DeadlineForcesRecall :
    notified.operating = true ∧ notified.recordById 4 = some (recalling .notified (some 0)) ∧ 0 ≤ notified.now ∧
    4 ∉ notified.recalls.pendingLists.get 1 ∧
    (withRecalls [recalling .notifyPending (some 0)] base).recordById 4 =
      some (recalling .notifyPending (some 0)) ∧
    (withRecalls [recalling .unmapping none] notified).recordById 4 = some (recalling .unmapping none) := by decide

/-- The report of the holder's record of frame 2 waits for the engine; the frame is marked as said. -/
def holderDone (damaged onExit : Bool) : State :=
  let s := withRecalls [holderRecall .draining] base
  let s := s.setRecalls { s.recalls with reported := [5] }
  s.setRecord 2 { s.record 2 with
    state := .recalling, leave := some (.release 3), quarantineOnExit := onExit, damaged := damaged,
    items := [{ holderItem 6 with phase := .leaving }] }

/-- The report of Port 1's record of frame 2 waits for the engine, and Port 3's scan waits for records. -/
def readerDone : State :=
  let s := withRecalls [recalling .draining none] base
  let s := s.setRecalls { s.recalls with reported := [4] }
  let s := s.setEngine { s.engine with teardown := s.engine.teardown.set 3 (.scanning 2 true) }
  s.setRecord 2 ((s.record 2).turnLeaving 1)

theorem witness_RecallCompletionRemovesMapping :
    readerDone.operating = true ∧ readerDone.engineReady = true ∧ 4 ∈ readerDone.recalls.reported ∧
    readerDone.recordById 4 = some (recalling .draining none) ∧ (readerDone.record 2).state = .shared ∧
    readerDone.engine.teardown.get 3 = .scanning 2 true ∧
    sparseWf FrameRecord.afterReset readerDone.engine.directory = true ∧
    ∀ damaged onExit, (holderDone damaged onExit).engineReady = true ∧
      5 ∈ (holderDone damaged onExit).recalls.reported ∧
      (holderDone damaged onExit).recordById 5 = some (holderRecall .draining) ∧
      sparseWf FrameRecord.afterReset (holderDone damaged onExit).engine.directory = true ∧
      ((holderDone damaged onExit).record 2).damaged = damaged ∧
      ((holderDone damaged onExit).record 2).quarantineOnExit = onExit ∧
      ((holderDone damaged onExit).record 2).holder = some 0 ∧
      ((holderDone damaged onExit).record 2).leave = some (.release 3) ∧ (holderRecall .draining).origin = none ∧
      (recalling .draining none).origin = some (0, 9) ∧ ((holderDone damaged onExit).link 0).state = .attached := by decide

/-- Frame 2 is in RECALLING, its reader's record is reported and its holder's waits, drained or not. -/
def lastReader (drained : Bool) : State :=
  let s := withRecalls [recalling .draining none, { holderRecall .draining with drained := some drained }] base
  (s.setRecalls { s.recalls with reported := [4] }).setRecord 2 { s.record 2 with
    state := .recalling, leave := some (.release 3),
    items := [{ holderItem 6 with phase := .leaving }, { readerItem 7 with phase := .leaving }] }

theorem witness_RecallCompletionRemovesMapping_lastReader :
    ∀ drained, let s := lastReader drained
      s.operating = true ∧ s.engineReady = true ∧ 4 ∈ s.recalls.reported ∧
      s.recordById 4 = some (recalling .draining none) ∧ (recalling .draining none).role = .reader ∧
      sparseWf FrameRecord.afterReset s.engine.directory = true ∧ (s.record 2).state = .recalling ∧
      s.recalls.table.find? (fun x => x.frame == 2 && x.role == .holder) =
        some { holderRecall .draining with drained := some drained } ∧ (5 : Nat) ≠ 4 ∧
      gives (exec (.recallCompletionReport 4) s) fun t =>
        !(t.record 2).hasReader && decide (t.recalls.reported = if drained then [5] else []) := by decide

theorem witness_DeadlinesEndClaimsAndOffers :
    let s := withClaims [parked 2 1 4, parked 2 2 4] (withOffer true base)
    s.operating = true ∧ s.engineReady = true ∧
    s.engine.claims.find? (fun x => x.port == 2 && x.tag == 2) = some (parked 2 2 4) ∧ (parked 2 2 4).deadline ≤ s.now ∧
    (s.link 2).state = .attached ∧ s.engine.claims.head? ≠ some (parked 2 2 4) ∧
    s.engine.offers.find? (fun x => x.grantId == 6) = some (offer1 true) ∧ (offer1 true).deadline ≤ s.now ∧
    (s.link 2).notices.length < 32 ∧ 32 ≤ ((withNotices 2 32 s).link 2).notices.length ∧
    (withOffer false base).engine.offers.find? (fun x => x.grantId == 6) = some (offer1 false) := by decide

/-- Port 0 is being torn down and its scan stands as said. -/
def tearing (sc : ScanState) (s : State) : State :=
  (withPort 0 .up .detaching s).setEngine { s.engine with teardown := s.engine.teardown.set 0 sc }

theorem witness_EngineTakesTeardownEndsClaimsAndOffers :
    let s := withClaims [parked 0 1 4, parked 2 2 1] (withOffer true (tearing .handed base))
    let s := s.setEngine { s.engine with freeList := [3] }
    s.operating = true ∧ s.engineReady = true ∧ s.engine.teardown.get 0 = .handed ∧ s.engine.freeList.Nodup ∧
      (∃ c ∈ s.engine.claims, c.port = 0) ∧ ∃ o ∈ s.engine.offers, o.fromPort = 0 := by decide

/-- Port 0's teardown is handed over while it offers frame 1 to Port 2, whose Notice Queue holds `n`, and Port 1 offers a
frame to it. -/
def tearingOffers (sent : Bool) (n : Nat) : State :=
  (withNotices 2 n (tearing .handed base)).setEngine { (tearing .handed base).engine with
    offers := [offer1 sent, { offer1 true with grantId := 7, frame := 2, fromPort := 1, toPort := 0 }] }

theorem witness_EngineTakesTeardownEndsClaimsAndOffers_offers :
    ∀ sent n, (n = 31 ∨ n = 32) → let s := tearingOffers sent n
      s.operating = true ∧ s.engineReady = true ∧ s.engine.teardown.get 0 = .handed ∧ s.engine.freeList.Nodup ∧
      (∃ o ∈ s.engine.offers, o.toPort = 0 ∧ o.fromPort ≠ 0 ∧ (s.link o.fromPort).state = .attached) ∧
      (s.link 0).state ≠ .attached ∧ offer1 sent ∈ s.engine.offers ∧ (offer1 sent).fromPort = 0 ∧
      (s.link 2).state = .attached ∧ (s.link 2).notices.length = n ∧
      (sent = true → s.engine.offers.countP (fun x => x.fromPort == 0 && x.toPort == 2 && x.sent) = 1 ∧
        ∀ x ∈ s.engine.offers, x.fromPort = 0 → x.toPort = 2 → x.sent = true) := by
  intro sent n h
  rcases h with rfl | rfl <;> cases sent <;> decide

/-- Port 1's GRANT completes TARGET_GONE, and Port 2 is told where it has room. -/
theorem test_teardown_ends_offers : ∀ n ∈ [31, 32],
    gives (exec (.engineTakesTeardown 0) (tearingOffers true n)) (fun t =>
      decide ((t.link 1).outbound = [grantCompletion 8 .targetGone 7]) && decide ((t.link 2).notices.length = 32) &&
      ((t.link 2).notices.contains (.withdrawn 6 .withdrawal) == decide (n = 31))) := by decide

theorem witness_TeardownScansThenEnds :
    (let s := tearing (.scanning 1 false) base
     s.operating = true ∧ s.serves 0 = true ∧ (s.link 0).state = .detaching ∧
       s.engine.teardown.get 0 = .scanning 1 false ∧ sparseWf FrameRecord.afterReset s.engine.directory = true ∧
       (s.record 1).activeItems.find? (fun j => j.port == 0) = some (holderItem 5) ∧ 1 < s.frames ∧
       1 + (s.record 1).activeReaders.length ≤ s.freeRecords) ∧
    (let s := tearing (.scanning 2 false) (noRecords base)
     s.serves 0 = true ∧ (s.record 2).activeItems.find? (fun j => j.port == 0) = some (holderItem 6) ∧
       s.freeRecords < 1 + (s.record 2).activeReaders.length) ∧
    (let s := tearing (.scanning 3 false) base
     s.serves 0 = true ∧ s.frames = 4 ∧ (∀ j ∈ (s.record 3).activeItems, j.port ≠ 0) ∧ s.hasItem 0 = true) := by
  decide

/-- Port 0 in teardown with these reports held, its scan as said. -/
def reporting (queueEmpty engine recalls : Bool) (sc : ScanState) (s : State) : State :=
  (s.setLink 0 { LinkPort.afterReset [] with
    link := .up, state := .detaching, queueEmptyReport := queueEmpty, engineReport := engine, recallReport := recalls }).setEngine
    { s.engine with teardown := s.engine.teardown.set 0 sc }

theorem witness_TeardownScansThenEnds_reports :
    let s := reporting true true true .finished base
    (s.link 0).state = .detaching ∧ (s.link 0).queueEmptyReport = true ∧ (s.link 0).engineReport = true ∧
      (s.link 0).recallReport = true ∧ ((withPort 0 .up .detaching base).link 0).engineReport = false := by decide

theorem witness_TeardownScansThenEnds_lineResult :
    let s := (reporting false true true .finished (withResults [lineOne .written] base)).setQueue 0 [issuedRead 1]
    s.operating = true ∧ (s.link 0).state = .detaching ∧ (s.link 0).engineReport = true ∧ (s.link 0).recallReport = true ∧
      s.queue 0 = [issuedRead 1] ∧ (issuedRead 1).tag = (lineOne .written).tag ∧
      placeOf (issuedRead 1).kind = some ⟨5, 0, 2⟩ ∧ 2 ≤ 1 + 1 ∧
      s.nextLineResult 0 9 1 = some (lineOne .written) := by decide

/-- Port 0 has no frames: frames 1 and 2 are in SCRUBBING. -/
def frameless : State :=
  base.setEngine { base.engine with directory := [(3, { FrameRecord.afterReset 3 with state := .free })] }

theorem witness_TeardownScansThenEnds_scan :
    let s := reporting true false true (.scanning 3 false) frameless
    s.operating = true ∧ (s.link 0).state = .detaching ∧ (s.link 0).queueEmptyReport = true ∧
      (s.link 0).recallReport = true ∧ s.serves 0 = true ∧ s.engine.teardown.get 0 = .scanning 3 false ∧
      s.hasItem 0 = false ∧ sparseWf FrameRecord.afterReset s.engine.directory = true := by decide

theorem witness_TeardownScansThenEnds_completion :
    let s := reporting true true false .finished (holderDone false false)
    s.operating = true ∧ (s.link 0).state = .detaching ∧ (s.link 0).queueEmptyReport = true ∧
      s.engine.teardown.get 0 = .finished ∧ s.engineReady = true ∧ (holderRecall .draining).port = 0 ∧
      5 ∈ s.recalls.reported ∧ s.recordById 5 = some (holderRecall .draining) ∧
      (∀ x ∈ s.recalls.table, x.port = 0 → x.recallId = 5) := by decide

/-- Teardown ends with the last report: at the last line result, at the scan's end, at the last recall's completion. -/
theorem test_teardown_ends :
    let done (t : State) : Bool := decide ((t.link 0).state = .idle) && decide (t.engine.teardown.get 0 = .idle)
    gives (exec (.lineResult 0 9 1) ((reporting false true true .finished (withResults [lineOne .written] base)).setQueue 0
      [issuedRead 1])) done ∧
    gives (exec (.teardownScan 0) (reporting true false true (.scanning 3 false) frameless)) done ∧
    gives (exec (.recallCompletionReport 5) (reporting true true false .finished
      ((holderDone false false).setRecord 1 (FrameRecord.afterReset 1)))) done := by decide

/-- The scrub of frame 3 has ended, with the frames `q` queued behind it. -/
def scrubbed (damaged seen : Bool) (q : List Nat) : State :=
  (base.setRecord 3 { FrameRecord.afterReset 3 with damaged := damaged }).setScrub { base.scrub with
    queue := q, phase := .verify, current := some 3, verified := 32768, uncorrectableSeen := seen, ended := true }

theorem witness_ScrubEndFreesOrQuarantines :
    (∀ damaged seen, let s := scrubbed damaged seen []
      s.operating = true ∧ s.engineReady = true ∧ s.device = .run ∧ s.scrub.current = some 3 ∧ s.scrub.ended = true ∧
        (s.record 3).state = .scrubbing ∧ (s.record 3).damaged = damaged ∧ s.scrub.uncorrectableSeen = seen) ∧
    (scrubbed false false [2]).scrub.queue = 2 :: [] ∧
    (∀ c, (scrubbed false false []).engine.claims.head? = some c → False) ∧
    (withClaims [parked 2 1 2] (scrubbed false false [])).engine.claims = parked 2 1 2 :: [] ∧
    (parked 2 1 2).count ≤ (scrubbed false false []).engine.freeList.length + 1 ∧
    (let s := withClaims [parked 2 1 1] (scrubbed false false [])
     let s := s.setEngine { s.engine with freeList := [] }
     s.engineReady = true ∧ s.engine.claims = parked 2 1 1 :: [] ∧
       ¬s.mgmt.settings.quota.get 2 < s.engine.held.get 2 + 1 ∧ (s.engine.freeList ++ [3]).Nodup ∧
       1 ≤ s.engine.freeList.length + 1 ∧ (s.link 2).state = .attached ∧
       (let u := s.setMgmt { s.mgmt with settings := { s.mgmt.settings with quota := .all 0 } }
        u.mgmt.settings.quota.get 2 < u.engine.held.get 2 + 1 ∧ u.engine.claims = parked 2 1 1 :: [])) := by
  refine ⟨by decide, by decide, (fun c h => nomatch h), by decide, by decide, by decide⟩

theorem witness_EccReportsMarkFrames :
    let s (n : Nat) : State := (base.setRecord 3 { base.record 3 with count := n }).setFlight { base.flight with
      correctable := [(3, 0), (2, 0)], uncorrectable := [(3, 32767), (2, 32767)] }
    (s 15).operating = true ∧ (s 15).engineReady = true ∧
    sparseWf FrameRecord.afterReset (s 15).engine.directory = true ∧ (3, 0) ∈ (s 15).flight.correctable ∧
    (s 15).mgmt.settings.threshold ≤ min 255 (((s 15).record 3).count + 1) ∧ ((s 15).record 3).damaged = false ∧
    ((s 15).record 3).state = .free ∧ ¬(s 14).mgmt.settings.threshold ≤ min 255 (((s 14).record 3).count + 1) ∧
    (2, 0) ∈ (s 15).flight.correctable ∧ ((s 15).record 2).state ≠ .free ∧
    (3, 32767) ∈ (s 15).flight.uncorrectable ∧ (2, 32767) ∈ (s 15).flight.uncorrectable := by decide

/-- A scrub of frame 3 that sends line `n`. -/
def scrubbing (ph : ScrubPhase) (n : Nat) : State :=
  base.setScrub { base.scrub with
    phase := ph, current := some 3, nextLine := n, verified := 32767, outstanding := 7, number := 1 }

theorem witness_ScrubAccessesAreSentAndCounted :
    (scrubbing .zero 32767).operating = true ∧ (scrubbing .zero 32767).scrub.current = some 3 ∧
    (scrubbing .zero 32767).granted 0 .scrub = some (base.channel 0).round ∧
    (scrubbing .verify 0).granted 0 .scrub = some (base.channel 0).round ∧
    (let r (number : Nat) : ScrubResult := {
      number := number, verify := true, frame := 3, line := 0, uncorrectable := decide (number = 0) }
     let s := (scrubbing .verify 0).setFlight { base.flight with scrubResults := [r 1, { r 0 with line := 1 }, r 1] }
     s.flight.scrubResults[0]? = some (r 1) ∧ (∀ x ∈ s.flight.scrubResults.take 0, ¬(x.frame = 3 ∧ x.line = 0)) ∧
       s.flight.scrubResults[1]? = some { r 0 with line := 1 } ∧
       (∀ x ∈ s.flight.scrubResults.take 1, ¬(x.frame = 3 ∧ x.line = 1)) ∧ s.flight.scrubResults[2]? = some (r 1) ∧
       (∃ x ∈ s.flight.scrubResults.take 2, x.frame = 3 ∧ x.line = 0) ∧
       s.scrub.number = 1 ∧ s.scrub.phase = .verify ∧ s.scrub.verified + 1 = 32768) := by decide

/-! ### Premises that are met: maps, channels, sends, management -/

/-- MAP_CLEAR at line `n`, with frame 1 waiting to be scrubbed. -/
def clearing (n : Nat) : State :=
  ((base.setDevice .starting).setMapUnit { base.mapUnit with clearNext := some n }).setScrub
    { base.scrub with queue := [1] }

theorem witness_MapClearWritesEveryLine :
    (clearing 32766).operating = true ∧ (clearing 32766).granted 0 .map = some (base.channel 0).round ∧
    (clearing 32766).mapUnit.clearNext = some 32766 ∧ 32766 < 32767 ∧
    (clearing 32767).granted 0 .map = some (base.channel 0).round ∧ (clearing 32767).mapUnit.clearNext = some 32767 ∧
    (clearing 32767).scrub.phase = .idle ∧ (clearing 32767).scrub.queue = 1 :: [] := by decide

/-- A map write of Port 0's page 5. -/
def write5 (producer : MapProducer) : MapWrite := { port := 0, hpn := 5, value := .invalid, producer := producer }

/-- A map read of Port 1's page 7 that arrived 0th and a map write that arrived as said. -/
def mapping (arrival : Nat) (producer : MapProducer) : State :=
  (withRecalls [recalling .unmapping none] base).setMapUnit { base.mapUnit with
    queue := [{ write := write5 producer, arrival := arrival }],
    reads := [{ port := 1, hpn := 7, issued := false, arrival := 1 }] }

theorem witness_MapGrantSendsOlderAccess :
    (∀ pr, pr = .unmap 4 ∨ pr = .claim 0 9 ∨ pr = .accept 2 9 0 8 6 → (mapping 0 pr).operating = true ∧
      (mapping 0 pr).granted 0 .map = some (base.channel 0).round ∧ (mapping 0 pr).mapUnit.clearNext = none ∧
      (mapping 0 pr).mapUnit.queue = { write := write5 pr, arrival := 0 } :: [] ∧
      (∀ r, (mapping 0 pr).mapUnit.unsentRead = some r → 0 < r.arrival) ∧
      ((mapping 0 pr).recordById 4 = some (recalling .unmapping none))) ∧
    (mapping 2 (.unmap 4)).mapUnit.unsentRead = some { port := 1, hpn := 7, issued := false, arrival := 1 } ∧
    (∀ w, (mapping 2 (.unmap 4)).mapUnit.queue.head? = some w → 1 ≤ w.arrival) ∧
    (let s := (mapping 0 (.claim 0 9)).setEngine { base.engine with granted := [{ port := 0, tag := 9, left := 1 }] }
     s.engine.granted.find? (fun x => x.port == 0 && x.tag == 9) = some { port := 0, tag := 9, left := 1 }) := by
  refine ⟨?_, rfl, ?_, by decide⟩
  · intro pr h
    rcases h with rfl | rfl | rfl <;>
      exact ⟨by decide, by decide, by decide, by decide, fun r h => by cases h; decide, by decide⟩
  · intro w h; cases h; decide

/-- A map write of Port 0's page 5 is granted while the walk of the page has its read issued, its read unsent, or a
repair that writes or gives way. -/
def granting (producer : MapProducer) (reads : List MapRead) (repairs : List Repair) : State :=
  (base.setWalker { walks := [{ port := 0, hpn := 5, stale := false }], retry := [] }).setMapUnit { base.mapUnit with
    queue := [{ write := write5 producer, arrival := 0 }], reads := reads, repairs := repairs }

theorem witness_MapGrantSendsOlderAccess_walks :
    let read (issued : Bool) : MapRead := { port := 0, hpn := 5, issued := issued, arrival := 1 }
    let repair (ph : RepairPhase) : Repair := { port := 0, hpn := 5, phase := ph }
    let is (s : State) : Prop := s.operating = true ∧ s.granted 0 .map = some (base.channel 0).round ∧
      s.mapUnit.clearNext = none ∧ (∃ w, s.mapUnit.queue = w :: [] ∧ w.write.port = 0 ∧ w.write.hpn = 5 ∧ w.arrival = 0) ∧
      (∀ r, s.mapUnit.unsentRead = some r → 0 < r.arrival) ∧ s.hasWalk 0 5 = true
    (∀ issued, is (granting (.unmap 4) [read issued] []) ∧
      (∀ x ∈ (granting (.unmap 4) [read issued] []).mapUnit.repairs, ¬(x.port = 0 ∧ x.hpn = 5)) ∧
      (∃ x ∈ (granting (.unmap 4) [read issued] []).mapUnit.reads, x.port = 0 ∧ x.hpn = 5 ∧ x.issued = issued)) ∧
    is (granting .repair [] [repair (.writing .invalid)]) ∧
    is (granting (.unmap 4) [] [repair (.superseded 0)]) ∧
    (write5 .repair).value = .invalid ∧
    { port := 0, hpn := 5, phase := .superseded 0 } ∈ (granting (.unmap 4) [] [repair (.superseded 0)]).mapUnit.repairs := by
  refine ⟨fun issued => ?_, ?_, ?_, rfl, by decide⟩
  · cases issued
    · refine ⟨⟨rfl, by decide, rfl, ⟨_, rfl, rfl, rfl, rfl⟩, fun r h => ?_, by decide⟩, by decide, by decide⟩
      cases h; decide
    · exact ⟨⟨rfl, by decide, rfl, ⟨_, rfl, rfl, rfl, rfl⟩, (fun r h => nomatch h), by decide⟩, by decide, by decide⟩
  · exact ⟨rfl, by decide, rfl, ⟨_, rfl, rfl, rfl, rfl⟩, (fun r h => nomatch h), by decide⟩
  · exact ⟨rfl, by decide, rfl, ⟨_, rfl, rfl, rfl, rfl⟩, (fun r h => nomatch h), by decide⟩

/-- The unmap write of Port 0's mapping of frame 1 is next; the record has role `role`, an entry is ISSUED to the frame or
not, and the frame has a reader or not. -/
def unmapping1 (role : Role) (busy hasReader : Bool) : State :=
  let s := withRecalls [{ draining1 role with phase := .unmapping, drained := none }] (granting (.unmap 6) [] [])
  (s.setRecord 1 { s.record 1 with
    items := if hasReader then [holderItem 5, readerItem 7] else [holderItem 5] }).setQueue 0
      (if busy then [issuedRead 0] else [])

theorem witness_MapGrantSendsOlderAccess_drains :
    ∀ role, (role = .reader ∨ role = .holder) → ∀ busy hasReader, let s := unmapping1 role busy hasReader
      s.operating = true ∧ s.granted 0 .map = some (base.channel 0).round ∧ s.mapUnit.clearNext = none ∧
      s.mapUnit.queue = { write := write5 (.unmap 6), arrival := 0 } :: [] ∧ s.mapUnit.unsentRead = none ∧
      s.recordById 6 = some { draining1 role with phase := .unmapping, drained := none } ∧
      ((s.queue 0).map ReqEntry.tag).Nodup ∧ ((∃ x ∈ s.queue 0, x.issuedTo 1 = true) ↔ busy = true) ∧
      (s.record 1).hasReader = hasReader := by
  intro role h busy hasReader
  rcases h with rfl | rfl <;> cases busy <;> cases hasReader <;> decide

/-- The first drain check reports the record, marks it drained, or leaves it to the last result. -/
theorem test_unmap_drain_check : ∀ role, (role = .reader ∨ role = .holder) → ∀ busy hasReader : Bool,
    gives (exec .mapAccessGrant (unmapping1 role busy hasReader)) (fun t =>
      decide (t.recalls.reported = if busy || decide (role = .holder) && hasReader then [] else [6]) &&
      decide (t.recalls.table.map RecallRecord.drained =
        [if role = .reader then none else some (!busy && hasReader)])) := by
  intro role h busy hasReader
  rcases h with rfl | rfl <;> cases busy <;> cases hasReader <;> decide

/-- A performed write makes the issued read stale, and ends the repair that it writes or that gave way to it. -/
theorem test_mapWrite_performed :
    (gives (exec .mapAccessGrant (granting (.unmap 4) [{ port := 0, hpn := 5, issued := true, arrival := 0 }] []))
      fun t => t.isStale 0 5) ∧
    (gives (exec .mapAccessGrant (granting .repair [] [{ port := 0, hpn := 5, phase := .writing .invalid }]))
      fun t => decide (t.flight.faults = [.mapRepaired 0 5 .invalid]) && decide (t.mapUnit.repairs = []) &&
        t.mapUnit.reads.any fun r => !r.issued) ∧
    gives (exec .mapAccessGrant (granting (.unmap 4) [] [{ port := 0, hpn := 5, phase := .superseded 0 }]))
      fun t => decide (t.flight.faults = [.mapRepaired 0 5 .superseded]) && decide (t.mapUnit.repairs = []) := by decide

/-- The result of the map read of (Port 1, page 7) is in flight, for a walk that is stale or not. -/
def mapResult (v : Option MapValue) (stale : Bool) : State :=
  ((((base.setWalker { walks := [{ port := 1, hpn := 7, stale := stale }], retry := [] }).setMapUnit { base.mapUnit with
    reads := [{ port := 1, hpn := 7, issued := true, arrival := 0 }] }).setFlight { base.flight with
    mapResults := [{ port := 1, hpn := 7, value := v }] }).setQueue 1
      [{ tag := 3, kind := .read .normal 7 0 1, state := .walking }])

theorem witness_OrderingRequestsWaitForEarlierOnes_mapResult :
    let s := (mapResult (some .invalid) false).setQueue 1
      [{ tag := 3, kind := .read .normal 7 0 1, state := .walking }, { tag := 4, kind := .fence, state := .waiting }]
    s.operating = true ∧ s.flight.mapResults.find? (fun r => r.port == 1 && r.hpn == 7) =
        some { port := 1, hpn := 7, value := some .invalid } ∧
      (∀ q, ((s.queue q).map ReqEntry.tag).Nodup) ∧ (s.link 1).state = .attached ∧
      gives (exec (.mapReadResult 1 7) s) fun t => decide ((t.link 1).outbound.map Completion.tag = [3, 4]) := by decide

theorem witness_MapReadResultsAreTaken :
    (∀ v, v = none ∨ v = some .invalid ∨ v = some (.valid 2 .read) → ∀ stale,
      (mapResult v stale).operating = true ∧
      (mapResult v stale).flight.mapResults.find? (fun r => r.port == 1 && r.hpn == 7) =
        some { port := 1, hpn := 7, value := v } ∧
      (mapResult v stale).isStale 1 7 = stale ∧ ((mapResult v stale).link 1).state = .attached ∧
      (mapResult v stale).walker.retry = [] ∧ (mapResult v stale).mapUnit.repairs = [] ∧
      ((mapResult v stale).queue 1)[0]? =
        some { tag := 3, kind := .read .normal 7 0 1, state := .walking }) ∧
    (ReqEntry.mk 3 (.read .normal 7 0 1) .walking).namesHpn 7 = true ∧
    ((mapResult none false).setMapUnit { base.mapUnit with
      repairs := [{ port := 0, hpn := 5, phase := .searching 3 }] }).mapUnit.repairs =
        { port := 0, hpn := 5, phase := .searching 3 } :: [] := by
  refine ⟨?_, by decide, rfl⟩
  intro v h stale
  rcases h with rfl | rfl | rfl <;> cases stale <;> decide

/-- A map result in flight while Port 0's READ of page 5 stands on the retry list, with or without a cache entry. -/
def retrying (hit : Bool) : State :=
  let s := if hit then cached else base
  let s := (s.setQueue 0 [{ tag := 3, kind := .read .normal 5 0 1, state := .waiting }]).setFlight { base.flight with
    mapResults := [{ port := 1, hpn := 7, value := some .invalid }] }
  s.setWalker { retry := [(0, 3)], walks := { port := 1, hpn := 7, stale := false } ::
    (List.range 7).map fun k => { port := 2, hpn := k, stale := false } }

theorem witness_MapReadResultsAreTaken_retry :
    (∀ hit, (retrying hit).operating = true ∧
      (retrying hit).flight.mapResults.find? (fun r => r.port == 1 && r.hpn == 7) =
        some { port := 1, hpn := 7, value := some .invalid } ∧ (retrying hit).isStale 1 7 = false ∧
      (retrying hit).walker.retry = (0, 3) :: [] ∧ (∀ q, (((retrying hit).queue q).map ReqEntry.tag).Nodup) ∧
      (retrying hit).entry 0 3 = some { tag := 3, kind := .read .normal 5 0 1, state := .waiting } ∧
      (retrying hit).hasWalk 1 7 = true ∧ (retrying hit).walker.walks.length ≤ 8 ∧ (retrying hit).hasWalk 0 5 = false) ∧
    placeOf (.read .normal 5 0 1) = some ⟨5, 0, 1⟩ ∧ ((0 : PortId), 5) ≠ (1, 7) ∧ (0 : PortId) ≠ 1 ∧
    ((retrying true).cache 0).find? (fun c => c.hpn == 5) = some { hpn := 5, frame := 1, access := .readWrite } ∧
    ((retrying false).cache 0).find? (fun c => c.hpn == 5) = none := by
  refine ⟨fun hit => ?_, by decide, by decide, by decide, by decide, by decide⟩
  cases hit <;> decide

/-- A walk that ends lets the retry list try again: it binds on a hit, and takes the free walk on a miss. -/
theorem test_retry_tries_again :
    (gives (exec (.mapReadResult 1 7) (retrying true)) fun t =>
      decide ((t.queue 0).map ReqEntry.state = [.bound 1]) && decide (t.walker.retry = [])) ∧
    gives (exec (.mapReadResult 1 7) (retrying false)) fun t =>
      decide ((t.queue 0).map ReqEntry.state = [.walking]) && t.hasWalk 0 5 && decide (t.walker.retry = []) := by decide

/-- A repair of a page of a port that searches frame `n`. -/
def repairing (p : PortId) (hpn n : Nat) (s : State) : State :=
  s.setMapUnit { s.mapUnit with repairs := [{ port := p, hpn := hpn, phase := .searching n }] }

theorem witness_RepairSearchReadsRecords :
    (∀ n, n = 2 ∨ n = 3 → (repairing 1 7 n base).operating = true ∧ (repairing 1 7 n base).engineReady = true ∧
      (repairing 1 7 n base).writesWaitOnlyWhenFull ∧
      (repairing 1 7 n base).mapUnit.repairs = { port := 1, hpn := 7, phase := .searching n } :: []) ∧
    (base.record 2).items.find? (fun i => i.port == 1 && i.hpn == 7) = some (readerItem 7) ∧
    (leaving1.record 1).items.find? (fun i => i.port == 0 && i.hpn == 5) =
      some { holderItem 5 with phase := .leaving } ∧
    (base.record 2).items.find? (fun i => i.port == 1 && i.hpn == 8) = none ∧ 2 + 1 < base.frames ∧
    (base.record 3).items.find? (fun i => i.port == 1 && i.hpn == 7) = none ∧ base.frames ≤ 3 + 1 := by
  refine ⟨fun n h => ?_, by decide⟩
  rcases h with rfl | rfl <;> (unfold State.writesWaitOnlyWhenFull; decide)

/-- Port 0 and the Scrub Engine have accesses; channel 0's round has these grants used. -/
def rounds (used : Nat) (scrubUsed : Bool) : State :=
  (withEntries [boundRead .normal] (scrubbing .zero 0)).setChannel 0 { base.channel 0 with
    round := { firstRound with used := ⟨used, 0, 0, 0⟩, scrubUsed := scrubUsed } }

theorem witness_ArbiterFollowsRounds :
    (let s := (mapping 0 (.unmap 4)).setChannel 0 { base.channel 0 with queue := List.replicate 15 lastFrameRead }
     s.operating = true ∧ 0 < s.pop.channels ∧ (s.channel 0).queue.length < 16 ∧ s.mapHasAccess = true) ∧
    (∀ used scrubUsed, (used = 3 ∨ used = 4) → let s := rounds used scrubUsed
      s.operating = true ∧ (0 : ChannelId).val < s.pop.channels ∧ (s.channel 0).queue.length < 16 ∧
        s.mapHasAccess = false ∧ (∃ p, s.portHasAccess 0 p = true) ∧ s.scrubHasAccess 0 = true ∧
        ((s.channel 0).round.current s.mgmt.settings.weight).used.get 0 = used ∧
        ((s.channel 0).round.current s.mgmt.settings.weight).allowance.get 0 = 4 ∧
        ((s.channel 0).round.current s.mgmt.settings.weight).scrubUsed = scrubUsed) ∧
    ((∀ p, (scrubbing .zero 0).portHasAccess 0 p = false) ∧ (scrubbing .zero 0).scrubHasAccess 0 = true) ∧
    base.pop.channels ≤ (1 : ChannelId).val ∧
    16 ≤ ((base.setChannel 0 { base.channel 0 with queue := List.replicate 16 lastFrameRead }).channel 0).queue.length ∧
    base.granted 0 .scrub = none ∧ (scrubbing .zero 0).granted 0 .scrub = some (base.channel 0).round := by
  refine ⟨by decide, fun used scrubUsed h => ?_, by decide⟩
  rcases h with rfl | rfl <;> cases scrubUsed <;> decide

/-- Port 0's last grant of the round, then the Scrub Engine's, then a round that starts with Port 1. -/
theorem test_rounds_end :
    (rounds 3 false).granted 0 (.port 0) = some { firstRound with used := ⟨4, 0, 0, 0⟩ } ∧
    (rounds 4 false).granted 0 .scrub = some { firstRound with used := ⟨4, 0, 0, 0⟩, scrubUsed := true } ∧
    (rounds 4 true).granted 0 (.port 0) = some { firstRound with start := 1 } := by decide

/-- An access of Port 0 to the last line of frame 3. -/
def lastLine (k : AccessKind) : Access64 := { owner := .port 0 9, frame := 3, line := 32767, kind := k }

/-- A FULL WRITE of ones. -/
def ones : List Byte := List.replicate 64 1

/-- The number of frame 3's last line: 3 x 32,768 + 32,767. -/
def lastNo : Nat := 131071

theorem test_lineAddr : base.lineOf (lastLine .read) = lastNo := by decide

/-- With C channels frame f lies on channel f mod C, and shows other lines than with C' (R131). -/
theorem test_lineAddr_follows_population :
    channelOf { base with pop := { channels := 2, channelSize := 4096 } } 3 = 1 ∧
    channelLine { channels := 2, channelSize := 4096 } 3 5 = 32768 + 5 ∧
    channelLine { channels := 1, channelSize := 4096 } 3 5 = 3 * 32768 + 5 ∧
    lineAddr { channels := 2, channelSize := 4096 } 3 5 ≠ lineAddr { channels := 1, channelSize := 4096 } 3 5 := by decide

/-- Frame 3's last line is uncorrectable. -/
def badLine : State := base.setDram (base.dram.markBad lastNo)

theorem witness_ReadsAndFullWritesByRule :
    (let s := withAccess (lastLine .read) base
     s.operating = true ∧ s.carriedOut 0 0 = some (lastLine .read) ∧ (lastLine .read).frame < s.frames ∧
       s.dram.wf = true ∧ s.dram.isBad (s.lineOf (lastLine .read)) = false) ∧
    (let s := withAccess (lastLine .read) badLine
     s.carriedOut 0 0 = some (lastLine .read) ∧ s.dram.wf = true ∧ s.dram.isBad (s.lineOf (lastLine .read)) = true) ∧
    (withAccess (lastLine (.fullWrite ones)) base).carriedOut 0 0 = some (lastLine (.fullWrite ones)) ∧
    ones.length = 64 ∧
    (withAccess { owner := .mapWrite, frame := 0, line := 5, kind := .mapWrite (.valid 1 .read) } base).carriedOut 0 0 =
      some { owner := .mapWrite, frame := 0, line := 5, kind := .mapWrite (.valid 1 .read) } := by decide

theorem witness_PartialWritesAndSwapsByRule :
    (let a := lastLine (.partialWrite ones (List.replicate 64 true))
     (withAccess a base).operating = true ∧ (withAccess a base).carriedOut 0 0 = some a ∧
       a.frame < (withAccess a base).frames ∧ (withAccess a badLine).dram.isBad lastNo = true ∧
       (withAccess a badLine).dram.wf = true ∧ (List.replicate 64 true).length = 64) ∧
    (∀ old : Byte, old = 0 ∨ old = 1 →
      let a := lastLine (.cswap 7 (List.replicate 8 old) (List.replicate 8 2))
      (withAccess a base).carriedOut 0 0 = some a ∧ (withAccess a base).dram.wf = true ∧
        (withAccess a base).dram.isBad lastNo = false ∧ (7 : Nat) ≤ 7 ∧ (List.replicate 8 (2 : Byte)).length = 8) ∧
    Memory.readBytes base.dram.mem (byteAddr lastNo + 56) 8 = List.replicate 8 0 := by
  refine ⟨by decide, fun old h => ?_, by decide⟩
  rcases h with rfl | rfl <;> decide

/-- Port 0 has a completion and a notice to send. -/
def sending (c : Completion) (n : Notice) (s : State) : State :=
  s.setLink 0 { s.link 0 with outbound := [c], notices := [n], tags := [c.tag] }

theorem witness_SendsUseCredits :
    (∀ k, k = .command ∨ k = .request ∨ k = .detach →
      let c : Completion := { tag := 9, status := .ok, payload := .none, answers := k }
      let s := sending c (.offer 6 2 8 .read) base
      s.operating = true ∧ (s.link 0).state = .attached ∧ (s.link 0).link = .up ∧ (s.link 0).outbound = c :: [] ∧
        (s.link 0).completionCredits ≠ 0 ∧ (s.link 0).notices = .offer 6 2 8 .read :: [] ∧
        (s.link 0).noticeCredits ≠ 0 ∧ s.recalls.pendingLists.get 0 = []) ∧
    (let s := base.setLink 0 { session with completionCredits := 0, noticeCredits := 0 }
     (s.link 0).completionCredits = 0 ∧ (s.link 0).noticeCredits = 0) ∧
    (let s := (withNotices 1 32 (withRecalls [recalling .notifyPending (some 9)] base))
     let s := s.setRecalls { s.recalls with pendingLists := s.recalls.pendingLists.set 1 [4] }
     (s.link 1).notices = .withdrawn 1 .expiry :: List.replicate 31 (.withdrawn 1 .expiry) ∧
       s.recalls.pendingLists.get 1 = 4 :: [] ∧ s.recordById 4 = some (recalling .notifyPending (some 9)) ∧
       (List.replicate 31 (Notice.withdrawn 1 .expiry)).length < 32) := by
  refine ⟨?_, by decide, by decide⟩
  intro k h
  rcases h with rfl | rfl | rfl <;> decide

theorem witness_FaultLogAppendsAndReads :
    let s := base.setFlight { base.flight with faults := [.chipReset] }
    s.operating = true ∧ s.flight.faults[0]? = some .chipReset ∧ (∀ i r, s.mgmt.buffer ≠ .running i r) ∧
      s.mgmt.log = [] ∧
      (s.setMgmt { s.mgmt with log := [{ sequence := 0, info := .chipReset }] }).mgmt.log =
        { sequence := 0, info := .chipReset } :: [] := ⟨rfl, rfl, (fun _ _ h => nomatch h), rfl, rfl⟩

theorem witness_RequestBufferTakesAndReturns :
    base.operating = true ∧ (∀ i x, base.mgmt.buffer ≠ .running i x) ∧
    (withSlot .getPoolStatus base).mgmt.buffer = .running 3 .getPoolStatus ∧
    parseMgmtTransaction [0x03, 5, 3, 0] = .request 5 (.queryFrame 3) ∧ 3 < base.frames ∧
    parseMgmtTransaction [0x03, 5, 4, 0] = .request 5 (.queryFrame 4) ∧
    base.frames ≤ 4 ∧
    parseMgmtTransaction [0x02, 5, 3] = .request 5 (.getPortStatus (3 : PortId).val) ∧
    parseMgmtTransaction [0x0D, 5, 3] = .request 5 (.portReset (3 : PortId).val) ∧ (1 : Nat) ≠ 0 :=
  ⟨rfl, (fun _ _ h => nomatch h), by decide, by decide, by decide, by decide, by decide, by decide, by decide, by decide⟩

/-- Every failing form of R180 at its boundary, a kind past the table, and a wrong length, are answered BAD_ARGUMENT. -/
theorem witness_RequestBufferTakesAndReturns_fails :
    ∀ b ∈ ([[0x02, 5, 4], [0x03, 5, 4, 0], [0x04, 5, 4, 0], [0x05, 5, 4, 0], [0x06, 5, 4, 0], [0x07, 5, 4, 0, 0],
      [0x07, 5, 3, 1, 0x20], [0x08, 5, 4, 1], [0x08, 5, 3, 0], [0x08, 5, 3, 16], [0x09, 5, 0, 0, 0], [0x09, 5, 0, 0xE9, 3],
      [0x09, 5, 1, 9, 0], [0x09, 5, 1, 0x11, 0x27], [0x09, 5, 2, 0x11, 0x27], [0x09, 5, 3, 20, 0], [0x0A, 5, 0],
      [0x0B, 5, 4], [0x0C, 5, 4], [0x0D, 5, 4], [0x10, 5], [0xFF, 5], [0x01, 5, 0], [0x0E, 5, 0],
      [0x03, 5, 1]] : List (List Byte)),
      gives (exec (.mgmtRequestTransaction b) base) fun t => match t.mgmt.buffer with
        | .ready 5 _ .badArgument [] => true
        | _ => false := by decide

theorem witness_RequestBufferTakesAndReturns_kinds :
    (0x10 : Byte) ≠ 0 ∧ ((0x10 : Byte).toNat, ([5] : List Byte).drop 1 |>.length) ∉ [(1, 0), (14, 0), (15, 0)] ∧
    parseMgmtTransaction [0x10] = .request 0 (.malformed [0x10]) ∧
    parseMgmtTransaction [0x0E, 5] = .request 5 .logRead ∧ 1 < ([0x0E, 5] : List Byte).length := by decide

/-- What a result transaction shifts out of an EMPTY, a RUNNING and a READY buffer, and past the frame's end. -/
theorem test_result_frames :
    let shifted (n : Nat) (b : Buffer) (refused : Option Nat) : List Byte :=
      match exec (.resultTransaction n) (base.setMgmt { base.mgmt with buffer := b, refused := refused }) with
      | .next t => t.mgmt.miso
      | _ => []
    shifted 8 .empty none = [0, 0, 0, 0, 0, 0, 0, 0] ∧
    shifted 8 (.running 3 .getPoolStatus) (some 4) = [0, 1, 3, 3, 4, 0, 0, 0] ∧
    shifted 11 (.ready 3 .logRead .ok [7, 8]) none = [0, 2, 1, 3, 0, 0, 2, 0, 7, 8, 0] ∧
    shifted 6 (.ready 3 (.evict 2) .busy []) (some 9) = [0, 2, 3, 3, 9, 1] := by decide

theorem witness_StatusRequestsReportState :
    (withSlot .getPoolStatus base).servesRequest 3 .getPoolStatus ∧
    (∀ p : PortId, (withSlot (.getPortStatus p.val) base).servesRequest 3 (.getPortStatus p.val)) ∧
    (withSlot (.queryFrame 0) base).servesRequest 3 (.queryFrame 0) ∧
    (withSlot (.queryFrame 3) base).servesRequest 3 (.queryFrame 3) := by
  unfold State.servesRequest; decide

theorem witness_FrameRequestsFollowFrameState :
    (∀ f, f < 4 → (withSlot (.evict f) base).servesRequest 3 (.evict f) ∧
      (withSlot (.quarantine f) base).servesRequest 3 (.quarantine f) ∧
      (withSlot (.returnFrame f) base).servesRequest 3 (.returnFrame f)) ∧
    sparseWf FrameRecord.afterReset base.engine.directory = true ∧ (base.record 0).state = .reserved ∧
    (base.record 1).state = .held ∧ (base.record 2).state = .shared ∧ (base.record 3).state = .free ∧
    (base.record 2).activeItems.length ≤ base.freeRecords ∧
    (noRecords base).freeRecords < ((noRecords base).record 2).activeItems.length ∧
    (∀ sent, let s := withNotices 2 31 (withOffer sent base)
      offer1 sent ∈ s.engine.offers ∧ (offer1 sent).frame = 1 ∧ (s.link 2).state = .attached ∧
      (s.record 1).itemOf 2 = none ∧
      s.engine.offers.filter (fun x => x.frame == 1 && x.toPort == 2) = [offer1 sent]) ∧
    (leaving1.record 1).state = .recalling ∧ ((scrubbed false false []).record 3).state = .scrubbing ∧
    (scrubbed false false []).scrub.current = some 3 ∧ (scrubbed false false [2]).scrub.queue = 2 :: [] ∧
    (scrubbing .zero 0).scrub.phase ≠ .idle ∧ base.scrub.phase = .idle ∧ base.device = .run ∧ base.scrub.queue = [] := by
  unfold State.servesRequest; decide

theorem witness_SetRequestsWriteSettings :
    base.operating = true ∧ (∀ i y, base.mgmt.buffer ≠ .running i y) ∧
    (withSlot .getPoolStatus base).mgmt.buffer = .running 3 .getPoolStatus ∧ (8192 : Nat) ≤ 8192 ∧ 3 < 4 ∧ 2 < 3 ∧
    (1 : Nat) ≤ 1 ∧ 15 ≤ 15 ∧ ¬(16 : Nat) ≤ 15 := ⟨rfl, (fun _ _ h => nomatch h), rfl, by decide⟩

/-! ### Premises that are met: the invariants -/

theorem witness_StepKeepsDramCanonical : step base = .next (idle base) ∧ base.dram.wf = true := ⟨rfl, rfl⟩

theorem witness_StepKeepsFaultLogInOrder :
    let s := base.setMgmt { base.mgmt with
      log := [{ sequence := 65535, info := .chipReset }, { sequence := 0, info := .chipReset }], sequence := 1,
      alert := true }
    step s = .next (idle s) ∧ s.mgmt.logInOrder := by
  refine ⟨rfl, ?_⟩
  unfold Mgmt.logInOrder; decide

theorem base_sessionsInOrder : base.sessionsInOrder := by
  unfold State.sessionsInOrder LinkPort.sessionInOrder LinkPort.stateFitsLink; decide

theorem base_withinCapacity : base.withinCapacity := by
  unfold State.withinCapacity State.writesWaitOnlyWhenFull; decide

theorem base_framesInOrder : base.framesInOrder := by
  unfold State.framesInOrder FrameRecord.inOrder; decide

theorem base_walksInOrder : base.walksInOrder :=
  ⟨by decide, by decide, by decide, by decide, fun c a h => absurd h (by revert c a; decide)⟩

theorem base_requestsInOrder : base.requestsInOrder := by
  unfold State.requestsInOrder; decide

theorem witness_StepKeepsCapacities : step base = .next (idle base) ∧ base.framesInOrder ∧ base.walksInOrder ∧
    base.sessionsInOrder ∧ base.requestsInOrder ∧ base.withinCapacity :=
  ⟨rfl, base_framesInOrder, base_walksInOrder, base_sessionsInOrder, base_requestsInOrder, base_withinCapacity⟩

theorem witness_StepKeepsFramesInOrder : step base = .next (idle base) ∧ base.framesInOrder := ⟨rfl, base_framesInOrder⟩

theorem witness_StepKeepsSessionsInOrder : step base = .next (idle base) ∧ base.sessionsInOrder :=
  ⟨rfl, base_sessionsInOrder⟩

theorem witness_StepKeepsFrameZeroApart : step base = .next (idle base) ∧ base.frameZeroApart := by
  refine ⟨rfl, rfl, by decide, by decide, by decide, by decide, by decide, by decide, by decide, by decide, ?_⟩
  intro p n w h
  have e : ∀ p : PortId, base.engine.teardown.get p = .idle := by decide
  rw [e p] at h
  cases h

theorem witness_StepKeepsRequestsInOrder :
    let s := withEntries [boundRead .normal] base
    step s = .next (idle s) ∧ s.requestsInOrder ∧
      ∀ p, ∀ c ∈ (s.link p).outbound, c.answers = .command → ∀ e ∈ s.queue p, e.tag ≠ c.tag := by
  refine ⟨rfl, ?_, by decide⟩
  unfold State.requestsInOrder; decide

/-- The running part with its map entries in DRAM: they agree with the items of frames 1 and 2. Port 0's cache holds
page 5, and its walk of page 6 has its read issued. -/
def mapped : State :=
  let s := base.setDram { base.dram with maps := [
    (5, .valid 1 .readWrite), (6, .valid 2 .readWrite), (8199, .valid 2 .read)] }
  let s := s.setMapUnit { s.mapUnit with reads := [{ port := 0, hpn := 6, issued := true, arrival := 0 }] }
  let s := s.setChannel 0 { s.channel 0 with queue := [{ owner := .mapRead 0 6, frame := 0, line := 6, kind := .read }] }
  (s.setWalker { walks := [{ port := 0, hpn := 6, stale := false }], retry := [] }).setCache 0
    [{ hpn := 5, frame := 1, access := .readWrite }]

theorem mapped_agrees_of_active {p : PortId} {h f : Nat} {i : MapItem} (hi : mapped.itemAt p h = some (f, i))
    (ha : i.phase = .active) (hm : mapped.dram.readMap (mapLine p h) = .valid f i.access) : mapped.entryAgrees p h := by
  have hv : mapped.mapValues p h = [.valid f i.access] := congrArg (· :: []) hm
  unfold State.entryAgrees
  rw [hi, hv]
  exact ⟨fun v h => .inr (List.mem_singleton.1 h), fun _ => rfl, fun h => by simp [ha] at h⟩

theorem mapped_agrees_of_none {p : PortId} {h : Nat} (hi : mapped.itemAt p h = none)
    (hm : mapped.dram.readMap (mapLine p h) = .invalid) : mapped.entryAgrees p h := by
  have hv : mapped.mapValues p h = [.invalid] := congrArg (· :: []) hm
  unfold State.entryAgrees
  rw [hi, hv]
  exact fun v h => List.mem_singleton.1 h

theorem mapped_entryAgrees (p : PortId) (h : Nat) (hh : h < Config.hpnCount) : mapped.entryAgrees p h := by
  by_cases h5 : p = 0 ∧ h = 5
  · obtain ⟨rfl, rfl⟩ := h5; exact mapped_agrees_of_active (f := 1) (i := holderItem 5) (by decide) rfl (by decide)
  by_cases h6 : p = 0 ∧ h = 6
  · obtain ⟨rfl, rfl⟩ := h6; exact mapped_agrees_of_active (f := 2) (i := holderItem 6) (by decide) rfl (by decide)
  by_cases h7 : p = 1 ∧ h = 7
  · obtain ⟨rfl, rfl⟩ := h7; exact mapped_agrees_of_active (f := 2) (i := readerItem 7) (by decide) rfl (by decide)
  replace hh : h < 8192 := hh
  have hp : p.val < 4 := p.isLt
  rw [Fin.ext_iff] at h5 h6 h7
  change ¬(p.val = 0 ∧ _) at h5 h6
  change ¬(p.val = 1 ∧ _) at h7
  apply mapped_agrees_of_none
  · simp [State.itemAt, mapped, base, State.setDram, State.setMapUnit, State.setChannel, State.setWalker, State.setCache,
      holderItem, readerItem, FrameRecord.afterReset, Fin.ext_iff]
    exact ⟨fun _ => by omega, fun _ => by omega, fun _ => by omega⟩
  · simp [mapped, State.setDram, State.setMapUnit, State.setChannel, State.setWalker, State.setCache, Dram.readMap,
      sparseGet, mapLine, mapUnlisted, Config.hpnCount]
    rw [if_neg (by omega), if_neg (by omega), if_neg (by omega)]

theorem mapped_walksInOrder : mapped.walksInOrder := by
  refine ⟨by decide, by decide, by decide, by decide, fun c a h => ?_⟩
  have hk : ∀ c, ∀ a ∈ (mapped.channel c).queue, c = 0 ∧ a = { owner := .mapRead 0 6, frame := 0, line := 6, kind := .read } := by
    decide
  obtain ⟨rfl, rfl⟩ := hk c a h
  exact ⟨fun p h e => by cases e; decide, fun v e => nomatch e⟩

theorem witness_StepKeepsMapsInOrder : step mapped = .next (idle mapped) ∧ mapped.framesInOrder ∧
    mapped.sessionsInOrder ∧ mapped.withinCapacity ∧ mapped.dram.wf = true ∧ mapped.mapsInOrder := by
  refine ⟨rfl, base_framesInOrder, base_sessionsInOrder, ?_, by decide, mapped_walksInOrder, ?_, ?_, ?_,
    fun p h hh _ => mapped_entryAgrees p h hh, ?_, by decide, by decide, ?_, (fun r h => nomatch h)⟩
  · unfold State.withinCapacity State.writesWaitOnlyWhenFull; decide
  · exact ⟨by decide, by decide, (fun r h => nomatch h), (fun r h => nomatch h), by decide, (fun w h => nomatch h)⟩
  · exact ⟨by decide, by decide, (fun r h => nomatch h), by decide⟩
  · unfold State.startingInOrder; decide
  · exact fun w h => nomatch h
  · refine fun w _ _ => ⟨fun before after a e _ b hb => ?_, (fun r h => nomatch h)⟩
    have hl : 1 = (before ++ a :: after).length := congrArg List.length e
    have : after = [] := List.eq_nil_of_length_eq_zero (by simp at hl; omega)
    simp [this] at hb

theorem witness_OnlyWritesAndResetsChangeMemory :
    let s := withAccess { owner := .port 0 9, frame := 1, line := 0, kind := .fullWrite ones } base
    gives (exec (.channelFullWrite 0 0) s) fun t =>
      decide (Memory.read t.dram.mem (byteAddr 32768) ≠ Memory.read s.dram.mem (byteAddr 32768)) := by decide

/-! ### Formats (Tables 11-2, 11-3, 11-5, 11-6) -/

theorem test_parse_read : parseHostMsg [0x01, 9, 6, 0, 1, 2, 5, 0, 0x00, 0x80] =
    some (.request 9 (.read .urgent 5 32768 2)) := by decide
theorem test_parse_read_reserved_class : parseHostMsg [0x01, 9, 6, 0, 2, 2, 5, 0, 0, 0] = none := by decide
theorem test_parse_grant : parseHostMsg [0x13, 9, 4, 0, 5, 0, 2, 1] = some (.command 9 (.grant 5 2 .readWrite)) := by
  decide
theorem test_parse_wrong_length : parseHostMsg [0x11, 9, 2, 0, 5] = none := by decide
theorem test_parse_timeout : parseMgmtTransaction [0x09, 7, 1, 0xE8, 3] = .request 7 (.setTimeout 1 1000) := by decide
theorem test_bytes_completion : (OutMsg.completion {
    tag := 9, status := .poisoned, payload := .failedLines [1, 32767], answers := .request }).bytes = [0x40, 9, 7, 0, 4, 2, 2, 1, 0, 0xFF, 0x7F] := by decide
theorem test_bytes_recall : (OutMsg.notice (.recallNotice 258 8191 .revoke)).bytes =
    [0x48, 0, 6, 0, 2, 1, 0xFF, 0x1F, 2, 0] := by decide
theorem test_population : Population.ofPins 7 = { channels := 4, channelSize := 8192 } ∧
    Population.ofPins 1 = { channels := 2, channelSize := 4096 } := by decide

/-! ### Single steps -/

theorem test_step_takes_the_front : gives (step { base with pending := [.attach 3, .attach 3] }) (fun t =>
    decide (t.pending = [.attach 3]) && decide ((t.link 3).state = .attached)) := by decide
theorem test_decodeTableWord : decodeTableWord 8 1 = none := rfl
theorem test_powerOn : gives (exec (.powerOn 5) base) (fun t =>
    decide (t.pop = { channels := 2, channelSize := 8192 }) && decide (t.device = .starting)) := by decide
theorem test_trainingCompletes_disabled : gives (exec (.trainingCompletes 3) (withPort 3 .training .disabled base))
    (fun t => decide ((t.link 3).link = .up) && decide ((t.link 3).state = .disabled)) := by decide
theorem test_linkDown_in_session : gives (exec (.linkDown 1) base) (fun t =>
    decide ((t.link 1).state = .detaching) && decide (t.flight.faults = [.linkLost 1 1]) &&
      decide ((t.link 1).sent = [])) := by decide
theorem test_attach_wraps_session : gives (exec (.attach 3) (base.setLink 3 { base.link 3 with session := 255 }))
    (fun t => decide ((t.link 3).session = 0) && decide ((t.link 3).sent = [.attachAck 3 0 4 8192])) := by decide
theorem test_credit_overflow_in_idle : exec (.credit 3 200 56) (base.setLink 3 { base.link 3 with noticeCredits := 200 }) =
    .next (base.setLink 3 { base.link 3 with noticeCredits := 200 }) := rfl
theorem test_numbers_past_their_field : ∀ c ∈ [Instr.credit 0 256 0, .recallAck 0 65536],
    gives (exec c base) (fun t => decide (t.flight.faults = [.protocol 0 1 .badEncoding])) := by decide
theorem test_recallAck : gives (exec (.recallAck 1 4) notified) (fun t =>
    t.recalls.table.all fun r => r.phase == .unmapping && r.deadline == none) := by decide
theorem test_malformed_ends_session : gives (exec (.malformedMessage 0 [0x99, 0, 0, 0]) base) (fun t =>
    decide ((t.link 0).sent = [.sessionEnd 1 .protocol]) && decide (t.flight.faults = [.protocol 0 1 .badEncoding])) := by
  decide
theorem test_read_miss_walks : gives (exec (.read 0 9 .normal 5 0 1) base) (fun t =>
    decide (t.walker.walks = [{ port := 0, hpn := 5, stale := false }]) &&
      decide ((t.link 0).requestCredits = 31)) := by decide
theorem test_write_through_read_mapping : gives
    (exec (.write 1 9 .normal 7 0 1 none (List.replicate 64 0)) cached) (fun t => decide ((t.link 1).outbound =
      [{ tag := 9, status := .protection, payload := .none, answers := .request }])) := by decide
theorem test_cswap_bounds : gives (exec (.cswap 0 9 .normal 0 32768 0 (List.replicate 8 0) (List.replicate 8 0)) base)
    (fun t => (t.link 0).outbound.any fun c => c.status == .bounds) := by decide
theorem test_claim_parks : gives (exec (.claim 2) (withCommand 2 (.claim 10 2) base)) (fun t =>
    decide (t.engine.claims.map ParkedClaim.deadline = [50]) && decide ((t.link 2).outbound = []) &&
      decide ((t.link 2).commandCredits = 4)) := by decide
theorem test_claim_grant : gives (exec (.claim 2) (withCommand 2 (.claim 10 1) base)) (fun t =>
    decide ((t.record 3).holder = some 2) && decide (t.engine.freeList = []) && decide (t.engine.held = ⟨2, 0, 1, 0⟩)) := by
  decide
theorem test_release_of_shared : gives (exec (.release 0) (withCommand 0 (.release 6) base)) (fun t =>
    decide (t.recalls.table.map (fun r => (r.port, r.reason, r.phase)) =
      [(0, .release, .unmapping), (1, .release, .notified)]) && decide ((t.record 2).state = .recalling)) := by decide
theorem test_drop : gives (exec (.drop 1) (withCommand 1 (.drop 7) base)) (fun t =>
    decide ((t.record 2).state = .shared) && decide (t.recalls.table.map RecallRecord.origin = [some (1, 9)])) := by decide
theorem test_grant_offers : gives (exec (.grant 0) (withCommand 0 (.grant 5 2 .read) base)) (fun t =>
    decide ((t.link 2).notices = [.offer 0 0 5 .read]) && decide (t.engine.offers.map Offer.deadline = [100])) := by decide
theorem test_accept_shares : gives (exec (.accept 2) (withCommand 2 (.accept 6 8) (withOffer true base))) (fun t =>
    decide ((t.record 1).state = .shared) && decide (t.engine.offers = [])) := by decide
theorem test_decline : gives (exec (.decline 2) (withCommand 2 (.decline 6) (withOffer true base))) (fun t =>
    decide ((t.link 0).outbound = [grantCompletion 8 .declined 6]) &&
      decide ((t.link 2).outbound = [commandCompletion 9 .ok])) := by decide
theorem test_revoke_of_offer : gives (exec (.revoke 0) (withCommand 0 (.revoke 5 2) (withOffer true base))) (fun t =>
    decide ((t.link 0).outbound = [grantCompletion 8 .withdrawn 6, commandCompletion 9 .ok]) &&
      decide ((t.link 2).notices = [.withdrawn 6 .withdrawal])) := by decide
theorem test_teardown_finishes : gives (exec (.teardownScan 0) (tearing (.scanning 1 false) base)) (fun t =>
    decide (t.engine.teardown.get 0 = .scanning 2 false) && decide ((t.record 1).leave = some .teardown)) := by decide
theorem test_claimDeadline_serves_next : gives
    (exec (.claimDeadline 2 1) (withClaims [parked 2 1 4, parked 1 2 1] base)) (fun t =>
      decide (t.engine.claims = []) && decide ((t.record 3).holder = some 1)) := by decide
theorem test_offerDeadline : gives (exec (.offerDeadline 6) (withOffer true base)) (fun t =>
    decide ((t.link 2).notices = [.withdrawn 6 .expiry]) &&
      decide ((t.link 0).outbound = [grantCompletion 8 .expired 6])) := by decide
theorem test_recallDeadline_waits : exec (.recallDeadline 4) (withRecalls [recalling .notified (some 1)] base) =
    .next (withRecalls [recalling .notified (some 1)] base) := rfl
theorem test_recallCompletion_of_damaged : gives (exec (.recallCompletionReport 5) (holderDone true true)) (fun t =>
    decide ((t.record 2).state = .quarantined) && decide (t.flight.faults = [.quarantined 2 .damage]) &&
      decide (t.engine.held.get 0 = 1)) := by decide
theorem test_scrubEnd_serves_claim : gives (exec .scrubEndReport (withClaims [parked 1 2 2] (scrubbed false false [])))
    (fun t => decide ((t.record 3).state = .held) && decide ((t.record 3).holder = some 1) &&
      decide (t.engine.freeList = [])) := by decide
theorem test_correctable_saturates : gives (exec (.correctableReport 3 0) ((base.setRecord 3 { base.record 3 with
    count := 255, damaged := true, state := .quarantined }).setFlight { base.flight with correctable := [(3, 0)] }))
    (fun t => decide ((t.record 3).count = 255) && decide (t.flight.faults = [])) := by decide
theorem test_repair_past_last_frame : gives (exec .repairSearchStep (repairing 1 7 3 base)) (fun t =>
    decide (t.mapUnit.queue.map QueuedWrite.write =
      [{ port := 1, hpn := 7, value := .invalid, producer := .repair }])) := by decide
theorem test_mapAccess_writes : gives (exec .mapAccessGrant (mapping 0 (.unmap 4))) (fun t =>
    decide ((t.channel 0).queue.map Access64.line = [5]) &&
      t.recalls.table.all fun r => r.phase == .draining) := by decide
theorem test_mapClear_ends : gives (exec .mapClearWrite (clearing 32767)) (fun t =>
    decide (t.device = .run) && decide (t.scrub.current = some 1)) := by decide
theorem test_portAccess_urgent_first : gives (exec (.portAccessGrant 0 0) (withEntries [boundRead .normal,
    { tag := 8, kind := .read .urgent 5 7 2, state := .bound 1 }] base)) (fun t =>
      decide ((t.channel 0).queue.map Access64.line = [7])) := by decide
theorem test_scrubAccess_starts_verify : gives (exec (.scrubAccessGrant 0) (scrubbing .zero 32767)) (fun t =>
    decide (t.scrub.phase = .verify) && decide (t.scrub.nextLine = 0) && decide (t.scrub.outstanding = 8)) := by decide
/-- Step 9 of the example of Section 7.7: round A ends and Port 1 is granted in round B. -/
theorem test_rounds_of_section_7_7 :
    let has : PortId → Bool := fun p => p != 2
    let a : Round := {
      begun := true, start := 0, allowance := ⟨2, 1, 4, 3⟩, used := ⟨2, 1, 0, 3⟩, scrubUsed := true }
    a.pick has true = none ∧ (a.next ⟨2, 1, 4, 3⟩).pick has true = some (.port 1, {
      begun := true, start := 1, allowance := ⟨2, 1, 4, 3⟩, used := ⟨0, 1, 0, 0⟩, scrubUsed := false }) := by decide
theorem test_channelRead_uncorrectable : gives (exec (.channelRead 0 0 .uncorrectable) (withAccess (lastLine .read) base))
    (fun t => decide (t.flight.faults = [.uncorrectable (.port 0) 3 32767]) && t.dram.isBad lastNo) := by decide
theorem test_channelFullWrite_cleans : gives (exec (.channelFullWrite 0 0) (withAccess (lastLine (.fullWrite ones)) badLine))
    (fun t => !t.dram.isBad lastNo && decide (t.dram.readLine lastNo = ones)) := by decide
theorem test_channelPartialWrite_merges : gives (exec (.channelPartialWrite 0 0 .correctable)
    (withAccess (lastLine (.partialWrite ones ([false, true] ++ List.replicate 62 false))) base)) (fun t =>
      decide (t.dram.readLine lastNo = [0, 1] ++ List.replicate 62 0) &&
        decide (t.flight.correctable = [(3, 32767)])) := by decide
theorem test_channelCswap_swaps : gives (exec (.channelCswap 0 0 .clean)
    (withAccess (lastLine (.cswap 7 (List.replicate 8 0) (List.replicate 8 2))) base)) (fun t =>
      decide (t.dram.readLine lastNo = List.replicate 56 0 ++ List.replicate 8 2)) := by decide
theorem test_mapReadResult_binds : gives (exec (.mapReadResult 1 7) (mapResult (some (.valid 2 .read)) false)) (fun t =>
    decide ((t.queue 1).map ReqEntry.state = [.bound 2])) := by decide
theorem test_lineResult_completes : gives (exec (.lineResult 0 9 1) (resulting (issuedRead 1) (.clean zeroLine))) (fun t =>
    (t.link 0).outbound.any fun c => c.tag == 9 && c.status == .ok) := by decide
theorem test_lineResult_of_a_line_in_order :
    let s := withResults [{ lineOne .written with tag := 7 }, lineOne .written] (resulting (issuedRead 1) .written)
    exec (.lineResult 0 9 1) s = .next s := rfl
theorem test_completionSend_returns_credit : gives (exec (.completionSend 0) (sending
    { tag := 9, status := .ok, payload := .none, answers := .request } (.withdrawn 1 .expiry) (withEntries
      [{ tag := 9, kind := .fence, state := .done .ok Gathered.nothing }] base))) (fun t =>
      decide ((t.link 0).requestCredits = 32) && decide (t.queue 0 = []) && decide ((t.link 0).tags = [])) := by decide
theorem test_noticeSend_marks_offer : gives (exec (.noticeSend 2) ((withOffer false base).setLink 2
    { session with notices := [.offer 6 0 5 .read] })) (fun t => t.engine.offers.all Offer.sent) := by decide
theorem test_faultAppend_wraps : gives (exec (.faultRecordAppend 0) ((base.setFlight { base.flight with
    faults := [.chipReset] }).setMgmt { base.mgmt with sequence := 65535 })) (fun t =>
      decide (t.mgmt.sequence = 0) && t.mgmt.alert) := by decide
theorem test_mgmtRequest_bad_argument : gives (exec (.mgmtRequestTransaction [0x03, 5, 4, 0]) base) (fun t =>
    decide (t.mgmt.buffer = .ready 5 (.queryFrame 4) .badArgument [])) := by decide
theorem test_result_of_empty_buffer : gives (exec (.resultTransaction 3) base) (fun t =>
    decide (t.mgmt.miso.length = 3)) := by decide
theorem test_queryFrame : gives (exec .queryFrame (withSlot (.queryFrame 1) base)) (fun t =>
    decide (t.mgmt.buffer.data.take 3 = [3, 0, 0xFF]) &&
    decide (t.mgmt.buffer.data.drop 4 = [0, 0, 0, 1] ++ (holderItem 5).bytes)) := by decide
theorem test_queryFrame_release_tag : gives (exec .queryFrame (withSlot (.queryFrame 2) (holderDone false true)))
    (fun t => decide (t.mgmt.buffer.data.take 5 = [5, 0, 0, 3, 1])) := by decide
theorem test_evict_busy : gives (exec .evict (withSlot (.evict 2) (noRecords base))) (fun t =>
    decide (t.mgmt.buffer = .ready 3 (.evict 2) .busy [])) := by decide
theorem test_quarantine_free : gives (exec .quarantine (withSlot (.quarantine 3) base)) (fun t =>
    decide (t.engine.freeList = []) && decide ((t.record 3).state = .quarantined)) := by decide
theorem test_return_scrubs : gives (exec .returnFrame (withSlot (.returnFrame 3) (base.setRecord 3
    { base.record 3 with state := .quarantined, damaged := true, count := 7 }))) (fun t =>
      decide (t.record 3 = FrameRecord.afterReset 3) && decide (t.scrub.current = some 3)) := by decide
theorem test_setWeight_range : gives (exec (.setWeight 5 0 16) base) (fun t =>
    decide (t.mgmt.buffer = .ready 5 (.setWeight 0 16) .badArgument [])) := by decide
theorem test_portDisable_idle : gives (exec .portDisable (withPortSlot (.disable 3) (.portDisable 3) base)) (fun t =>
    decide ((t.link 3).state = .disabled)) := by decide
theorem test_logRead_releases_alert : gives (exec (.logRead 5) (base.setMgmt { base.mgmt with
    log := [{ sequence := 0, info := .chipReset }], sequence := 1, alert := true })) (fun t =>
      !t.mgmt.alert && decide (t.mgmt.buffer = .ready 5 .logRead .ok [0, 0, 7, 0, 0, 0, 0, 0, 0, 0, 0, 0])) := by decide
theorem test_chipReset_keeps_settings : gives (exec (.chipReset 5) (base.setMgmt { base.mgmt with
    settings := { Settings.default with threshold := 3 } })) (fun t =>
      decide (t.mgmt.settings.threshold = 3) && t.mgmt.alert && decide (t.device = .starting)) := by decide
theorem test_supplyFail : gives (exec .supplyFail base) (fun t => !t.operating) := by decide

end Sys2Proof.Tests
end

section
/-! The frame directory and the reports of ECC errors (R18, R19, R22): what replacing a record, quarantining a frame
and marking it damaged change and leave unchanged, and from these what the engine does with each kind of report. -/

namespace Sys2Proof.Machine

/-! ### Replacing a record -/

/-- Reading a record of a canonical directory after one was replaced. -/
theorem State.record_setRecord {s : State} (hw : sparseWf FrameRecord.afterReset s.engine.directory = true)
    (f g : Nat) (r : FrameRecord) : (s.setRecord f r).record g = if g = f then r else s.record g :=
  sparseGet_sparsePut FrameRecord.afterReset s.engine.directory f r hw g

/-- Replacing a record keeps the directory's canonical form. -/
theorem State.setRecord_directory_wf {s : State}
    (hw : sparseWf FrameRecord.afterReset s.engine.directory = true) (f : Nat) (r : FrameRecord) :
    sparseWf FrameRecord.afterReset (s.setRecord f r).engine.directory = true :=
  sparsePut_wf FrameRecord.afterReset s.engine.directory f r hw

/-! ### Quarantining a frame (R22) -/

theorem quarantineFrame_record {s : State} (hw : sparseWf FrameRecord.afterReset s.engine.directory = true)
    (f g : Nat) (c : QuarantineCause) :
    (quarantineFrame f c s).record g = if g = f then { s.record f with state := .quarantined } else s.record g :=
  State.record_setRecord hw f g _

/-! ### The damaged mark (R19) -/

/-- `s` with the damaged mark of frame `f` set and nothing else changed. -/
def State.marked (s : State) (f : Nat) : State := s.setRecord f { s.record f with damaged := true }

/-- `s` with frame `f` taken off the Free List. -/
def State.offFreeList (s : State) (f : Nat) : State :=
  s.setEngine { s.engine with freeList := s.engine.freeList.filter fun g => !(g == f) }

@[simp] theorem State.offFreeList_record (s : State) (f g : Nat) : (s.offFreeList f).record g = s.record g := rfl

theorem State.marked_record {s : State} (hw : sparseWf FrameRecord.afterReset s.engine.directory = true) (f g : Nat) :
    (s.marked f).record g = if g = f then { s.record f with damaged := true } else s.record g :=
  State.record_setRecord hw f g _

theorem State.offFreeList_marked_directory_wf {s : State}
    (hw : sparseWf FrameRecord.afterReset s.engine.directory = true) (f : Nat) :
    sparseWf FrameRecord.afterReset ((s.marked f).offFreeList f).engine.directory = true :=
  State.setRecord_directory_wf hw f _

theorem markDamaged_of_not_free {f : Nat} {s : State} (hfree : (s.record f).state ≠ .free) :
    markDamaged f s = s.marked f :=
  if_neg hfree

theorem markDamaged_of_free {f : Nat} {s : State} (hfree : (s.record f).state = .free) :
    markDamaged f s = quarantineFrame f .damage ((s.marked f).offFreeList f) :=
  if_pos hfree

/-- Marking a frame touches no link, no recall record and no report of an ECC error. -/
theorem markDamaged_frame (f : Nat) (s : State) :
    (markDamaged f s).links = s.links ∧ (markDamaged f s).recalls = s.recalls ∧
      (markDamaged f s).flight.correctable = s.flight.correctable ∧
      (markDamaged f s).flight.uncorrectable = s.flight.uncorrectable := by
  by_cases hfree : (s.record f).state = .free
  · rw [markDamaged_of_free hfree]
    exact ⟨rfl, rfl, rfl, rfl⟩
  · rw [markDamaged_of_not_free hfree]
    exact ⟨rfl, rfl, rfl, rfl⟩

theorem markDamaged_record_ne {s : State} (hw : sparseWf FrameRecord.afterReset s.engine.directory = true)
    {f g : Nat} (hg : g ≠ f) : (markDamaged f s).record g = s.record g := by
  by_cases hfree : (s.record f).state = .free
  · rw [markDamaged_of_free hfree, quarantineFrame_record (State.offFreeList_marked_directory_wf hw f), if_neg hg,
      State.offFreeList_record, State.marked_record hw, if_neg hg]
  · rw [markDamaged_of_not_free hfree, State.marked_record hw, if_neg hg]

theorem markDamaged_only_marks {f : Nat} {s : State}
    (hw : sparseWf FrameRecord.afterReset s.engine.directory = true) (hfree : (s.record f).state ≠ .free) :
    (markDamaged f s).record f = { s.record f with damaged := true } ∧
      (markDamaged f s).engine.freeList = s.engine.freeList ∧
      (markDamaged f s).flight.faults = s.flight.faults := by
  rw [markDamaged_of_not_free hfree]
  exact ⟨by rw [State.marked_record hw, if_pos rfl], rfl, rfl⟩

theorem markDamaged_quarantines {f : Nat} {s : State}
    (hw : sparseWf FrameRecord.afterReset s.engine.directory = true) (hfree : (s.record f).state = .free) :
    (markDamaged f s).record f = { s.record f with damaged := true, state := .quarantined } ∧
      (markDamaged f s).engine.freeList = s.engine.freeList.filter (fun g => !(g == f)) ∧
      (markDamaged f s).flight.faults = s.flight.faults ++ [.quarantined f .damage] := by
  rw [markDamaged_of_free hfree]
  refine ⟨?_, rfl, rfl⟩
  rw [quarantineFrame_record (State.offFreeList_marked_directory_wf hw f), if_pos rfl, State.offFreeList_record,
    State.marked_record hw, if_pos rfl]

/-! ### Counting a correctable error (R18) -/

/-- The count that frame `f` reaches with one more correctable error. -/
def State.nextCount (s : State) (f : Nat) : Nat := min 255 ((s.record f).count + 1)

/-- One more correctable error of frame `f` marks it damaged. -/
def State.errorMarks (s : State) (f : Nat) : Prop :=
  s.mgmt.settings.threshold ≤ s.nextCount f ∧ (s.record f).damaged = false

/-- `s` with one more correctable error of frame `f` counted, before the threshold is looked at. -/
def State.counted (s : State) (f : Nat) : State := s.setRecord f { s.record f with count := s.nextCount f }

/-- `s` with the error counted and the DAMAGED record of frame `f` handed over, before the frame is marked. -/
def State.countedDamaged (s : State) (f : Nat) : State := handFault (.damaged f (s.nextCount f)) (s.counted f)

theorem State.counted_record {s : State} (hw : sparseWf FrameRecord.afterReset s.engine.directory = true) (f g : Nat) :
    (s.counted f).record g = if g = f then { s.record f with count := s.nextCount f } else s.record g :=
  State.record_setRecord hw f g _

@[simp] theorem State.countedDamaged_record (s : State) (f g : Nat) :
    (s.countedDamaged f).record g = (s.counted f).record g := rfl

theorem State.countedDamaged_directory_wf {s : State}
    (hw : sparseWf FrameRecord.afterReset s.engine.directory = true) (f : Nat) :
    sparseWf FrameRecord.afterReset (s.countedDamaged f).engine.directory = true :=
  State.setRecord_directory_wf hw f _

theorem countCorrectable_of_not_marks {f : Nat} {s : State} (hmarks : ¬s.errorMarks f) :
    countCorrectable f s = s.counted f :=
  if_neg hmarks

theorem countCorrectable_of_marks {f : Nat} {s : State} (hmarks : s.errorMarks f) :
    countCorrectable f s = markDamaged f (s.countedDamaged f) :=
  if_pos hmarks

/-- Counting an error touches no link, no recall record and no report waiting to be taken. -/
theorem countCorrectable_frame (f : Nat) (s : State) :
    (countCorrectable f s).links = s.links ∧ (countCorrectable f s).recalls = s.recalls ∧
      (countCorrectable f s).flight.correctable = s.flight.correctable := by
  by_cases hmarks : s.errorMarks f
  · rw [countCorrectable_of_marks hmarks]
    obtain ⟨hlinks, hrecalls, hcorrectable, -⟩ := markDamaged_frame f (s.countedDamaged f)
    exact ⟨hlinks, hrecalls, hcorrectable⟩
  · rw [countCorrectable_of_not_marks hmarks]
    exact ⟨rfl, rfl, rfl⟩

theorem countCorrectable_record_ne {s : State} (hw : sparseWf FrameRecord.afterReset s.engine.directory = true)
    {f g : Nat} (hg : g ≠ f) : (countCorrectable f s).record g = s.record g := by
  by_cases hmarks : s.errorMarks f
  · rw [countCorrectable_of_marks hmarks, markDamaged_record_ne (State.countedDamaged_directory_wf hw f) hg,
      State.countedDamaged_record, State.counted_record hw, if_neg hg]
  · rw [countCorrectable_of_not_marks hmarks, State.counted_record hw, if_neg hg]

theorem countCorrectable_only_counts {f : Nat} {s : State}
    (hw : sparseWf FrameRecord.afterReset s.engine.directory = true) (hmarks : ¬s.errorMarks f) :
    (countCorrectable f s).record f = { s.record f with count := s.nextCount f } ∧
      (countCorrectable f s).engine.freeList = s.engine.freeList ∧
      (countCorrectable f s).flight.faults = s.flight.faults := by
  rw [countCorrectable_of_not_marks hmarks]
  exact ⟨by rw [State.counted_record hw, if_pos rfl], rfl, rfl⟩

theorem countCorrectable_marks {f : Nat} {s : State}
    (hw : sparseWf FrameRecord.afterReset s.engine.directory = true) (hmarks : s.errorMarks f)
    (hfree : (s.record f).state ≠ .free) :
    (countCorrectable f s).record f = { s.record f with count := s.nextCount f, damaged := true } ∧
      (countCorrectable f s).engine.freeList = s.engine.freeList ∧
      (countCorrectable f s).flight.faults = s.flight.faults ++ [.damaged f (s.nextCount f)] := by
  have hrecord : (s.countedDamaged f).record f = { s.record f with count := s.nextCount f } := by
    rw [State.countedDamaged_record, State.counted_record hw, if_pos rfl]
  have hmarked := markDamaged_only_marks (State.countedDamaged_directory_wf hw f) (by rw [hrecord]; exact hfree)
  rw [hrecord] at hmarked
  rw [countCorrectable_of_marks hmarks]
  exact hmarked

theorem countCorrectable_quarantines {f : Nat} {s : State}
    (hw : sparseWf FrameRecord.afterReset s.engine.directory = true) (hmarks : s.errorMarks f)
    (hfree : (s.record f).state = .free) :
    (countCorrectable f s).record f =
        { s.record f with count := s.nextCount f, damaged := true, state := .quarantined } ∧
      (countCorrectable f s).engine.freeList = s.engine.freeList.filter (fun g => !(g == f)) ∧
      (countCorrectable f s).flight.faults =
        s.flight.faults ++ [.damaged f (s.nextCount f), .quarantined f .damage] := by
  have hrecord : (s.countedDamaged f).record f = { s.record f with count := s.nextCount f } := by
    rw [State.countedDamaged_record, State.counted_record hw, if_pos rfl]
  obtain ⟨hmarked, hlist, hfaults⟩ :=
    markDamaged_quarantines (State.countedDamaged_directory_wf hw f) (by rw [hrecord]; exact hfree)
  rw [hrecord] at hmarked
  rw [countCorrectable_of_marks hmarks]
  exact ⟨hmarked, hlist, by rw [hfaults]; exact List.append_assoc ..⟩

/-! ### The engine's taking of a report -/

theorem onEngine_of_ready {s : State} (hop : s.operating = true) (hready : s.engineReady = true) (t : State) :
    onEngine s t = .next t := by
  simp [onEngine, whenOperating, hop, hready]

/-- `s` without the first correctable-error report of this line. -/
def State.takeCorrectable (s : State) (f line : Nat) : State :=
  s.setFlight { s.flight with correctable := s.flight.correctable.erase (f, line) }

/-- `s` without the first uncorrectable-error report of this line. -/
def State.takeUncorrectable (s : State) (f line : Nat) : State :=
  s.setFlight { s.flight with uncorrectable := s.flight.uncorrectable.erase (f, line) }

theorem exec_correctableReport_of_mem {f line : Nat} {s : State} (hop : s.operating = true)
    (hready : s.engineReady = true) (hmem : (f, line) ∈ s.flight.correctable) :
    exec (.correctableReport f line) s = .next (countCorrectable f (s.takeCorrectable f line)) := by
  change onEngine s _ = _
  rw [onEngine_of_ready hop hready, if_pos (List.contains_iff_mem.2 hmem)]
  rfl

theorem exec_uncorrectableReport_of_mem {f line : Nat} {s : State} (hop : s.operating = true)
    (hready : s.engineReady = true) (hmem : (f, line) ∈ s.flight.uncorrectable) :
    exec (.uncorrectableReport f line) s = .next
      (if (s.record f).damaged then s.takeUncorrectable f line else markDamaged f (s.takeUncorrectable f line)) := by
  change onEngine s _ = _
  rw [onEngine_of_ready hop hready, if_pos (List.contains_iff_mem.2 hmem)]
  rfl

/-- A mark that is set already stays as it is. -/
theorem FrameRecord.with_damaged_of_damaged {r : FrameRecord} (hdamaged : r.damaged = true) :
    { r with damaged := true } = r := by
  rw [← hdamaged]

/-- Settles O36: each kind of report by whether it marks the frame, and a marking by whether the frame is FREE. -/
theorem eccReportsMarkFrames : Obligations.EccReportsMarkFrames := by
  unfold Obligations.EccReportsMarkFrames
  intro f line s hop hready hw quarantines
  constructor
  · intro hmem n marks
    have hw₁ : sparseWf FrameRecord.afterReset (s.takeCorrectable f line).engine.directory = true := hw
    obtain ⟨hlinks, hrecalls, hreports⟩ := countCorrectable_frame f (s.takeCorrectable f line)
    exact ⟨_, exec_correctableReport_of_mem hop hready hmem, hreports, fun g hg => countCorrectable_record_ne hw₁ hg,
      hlinks, hrecalls, countCorrectable_only_counts hw₁, countCorrectable_marks hw₁, countCorrectable_quarantines hw₁⟩
  · intro hmem
    have hw₁ : sparseWf FrameRecord.afterReset (s.takeUncorrectable f line).engine.directory = true := hw
    refine ⟨_, exec_uncorrectableReport_of_mem hop hready hmem, ?_⟩
    by_cases hdamaged : (s.record f).damaged = true
    · rw [if_pos hdamaged]
      refine ⟨rfl, fun g _ => rfl, rfl, rfl, fun _ => ?_, fun hclean => ?_⟩
      · exact ⟨(FrameRecord.with_damaged_of_damaged hdamaged).symm, rfl, rfl⟩
      · exact absurd hdamaged (by simp [hclean])
    · rw [if_neg hdamaged]
      obtain ⟨hlinks, hrecalls, -, hreports⟩ := markDamaged_frame f (s.takeUncorrectable f line)
      exact ⟨hreports, fun g hg => markDamaged_record_ne hw₁ hg, hlinks, hrecalls,
        fun h => markDamaged_only_marks hw₁ (h.resolve_left hdamaged), fun _ => markDamaged_quarantines hw₁⟩

end Sys2Proof.Machine
end

section
/-! Recall records, notices and map writes (R28, R93 to R95): what changing a record, filling a freed notice place and
asking for a write change and leave unchanged, and from these what a RECALL-ACK does. -/

namespace Sys2Proof.Machine

/-! ### Reading a recall record -/

theorem State.recallId_of_recordById {s : State} {rid : Nat} {r : RecallRecord} (h : s.recordById rid = some r) :
    r.recallId = rid :=
  beq_iff_eq.1 (List.find?_some (p := fun r : RecallRecord => r.recallId == rid) h)

/-- Reading a record after one was changed by an `f` that keeps every id. -/
theorem updateRecall_recordById (f : RecallRecord → RecallRecord) (hf : ∀ r, (f r).recallId = r.recallId)
    (rid n : Nat) (s : State) :
    (updateRecall rid f s).recordById n = if n = rid then (s.recordById n).map f else s.recordById n := by
  have hid : ∀ r : RecallRecord, (if r.recallId = rid then f r else r).recallId = r.recallId := by
    intro r
    split
    · exact hf r
    · rfl
  have hmap : (updateRecall rid f s).recordById n =
      (s.recordById n).map fun r => if r.recallId = rid then f r else r := by
    simp only [State.recordById, updateRecall, State.setRecalls_recalls, List.find?_map, Function.comp_def, hid]
  rw [hmap]
  cases hr : s.recordById n with
  | none => simp
  | some r =>
    rw [Option.map_some, State.recallId_of_recordById hr]
    split <;> rfl

theorem State.notifiedRecord_eq_none {s : State} {p : PortId} {rid : Nat}
    (h : ∀ r ∈ s.recalls.table, r.recallId = rid → r.port = p → r.phase ≠ .notified) :
    s.notifiedRecord p rid = none := by
  simpa [State.notifiedRecord] using h

/-- The record that an id names is the NOTIFIED record of its port, if it is NOTIFIED. -/
theorem State.notifiedRecord_of_recordById {s : State} {r : RecallRecord}
    (hr : s.recordById r.recallId = some r) (hphase : r.phase = .notified) :
    s.notifiedRecord r.port r.recallId = some r := by
  obtain ⟨-, before, after, htable, hbefore⟩ := List.find?_eq_some_iff_append.1 hr
  refine List.find?_eq_some_iff_append.2 ⟨by simp [hphase], before, after, htable, fun x hx => ?_⟩
  have hne : (x.recallId == r.recallId) = false := by simpa using hbefore x hx
  simp [hne]

/-! ### Events that change only notices -/

/-- From `s` to `t` the engine, what is in flight and every port stay, but for the Notice Queue of `p`. -/
structure NoticesOnly (p : PortId) (s t : State) : Prop where
  link : t.link p = { s.link p with notices := (t.link p).notices }
  otherLinks : ∀ q, q ≠ p → t.link q = s.link q
  requests : t.requests = s.requests
  caches : t.caches = s.caches
  flight : t.flight = s.flight
  engine : t.engine = s.engine

theorem NoticesOnly.refl (p : PortId) (s : State) : NoticesOnly p s s := ⟨rfl, fun _ _ => rfl, rfl, rfl, rfl, rfl⟩

theorem NoticesOnly.trans {p : PortId} {s t u : State} (h : NoticesOnly p s t) (h' : NoticesOnly p t u) :
    NoticesOnly p s u where
  link := by rw [h'.link, h.link]
  otherLinks q hq := (h'.otherLinks q hq).trans (h.otherLinks q hq)
  requests := h'.requests.trans h.requests
  caches := h'.caches.trans h.caches
  flight := h'.flight.trans h.flight
  engine := h'.engine.trans h.engine

theorem NoticesOnly.queue {p : PortId} {s t : State} (h : NoticesOnly p s t) (q : PortId) : t.queue q = s.queue q :=
  congrArg (Quad.get · q) h.requests

theorem NoticesOnly.cache {p : PortId} {s t : State} (h : NoticesOnly p s t) (q : PortId) : t.cache q = s.cache q :=
  congrArg (Quad.get · q) h.caches

theorem NoticesOnly.samePort {p : PortId} {s t : State} (h : NoticesOnly p s t) {q : PortId} (hq : q ≠ p) :
    samePort q s t :=
  ⟨h.otherLinks q hq, h.queue q, h.cache q⟩

theorem NoticesOnly.setNotices (p : PortId) (ns : List Notice) (s : State) :
    NoticesOnly p s (s.setLink p { s.link p with notices := ns }) where
  link := by rw [State.setLink_link_same]
  otherLinks _ hq := State.setLink_link_ne s _ hq
  requests := rfl
  caches := rfl
  flight := rfl
  engine := rfl

theorem NoticesOnly.setRecalls (p : PortId) (x : RecallUnit) (s : State) : NoticesOnly p s (s.setRecalls x) :=
  ⟨rfl, fun _ _ => rfl, rfl, rfl, rfl, rfl⟩

theorem NoticesOnly.setMapUnit (p : PortId) (m : MapUnit) (s : State) : NoticesOnly p s (s.setMapUnit m) :=
  ⟨rfl, fun _ _ => rfl, rfl, rfl, rfl, rfl⟩

/-! ### Filling a freed notice place (R93) -/

/-- A record that has been notified. -/
def RecallRecord.turnNotified (r : RecallRecord) : RecallRecord := { r with phase := .notified }

theorem RecallRecord.turnNotified_recallId (r : RecallRecord) : r.turnNotified.recallId = r.recallId := rfl

theorem RecallRecord.turnNotified_of_notified {r : RecallRecord} (h : r.phase = .notified) : r.turnNotified = r := by
  rw [RecallRecord.turnNotified, ← h]

/-- All that a freed place can do: nothing, with no pending record or no room; or the head leaves the pending list, naming
no record; or it leaves, and its record is notified. -/
theorem fillPending_cases (p : PortId) (s : State) :
    ((s.recalls.pendingLists.get p = [] ∨ s.noticeRoom p = false) ∧ fillPending p s = s) ∨
    (∃ rid rest, s.recalls.pendingLists.get p = rid :: rest ∧ s.noticeRoom p = true ∧ s.recordById rid = none ∧
      fillPending p s = setPending p rest s) ∨
    ∃ rid rest r, s.recalls.pendingLists.get p = rid :: rest ∧ s.noticeRoom p = true ∧ s.recordById rid = some r ∧
      fillPending p s = updateRecall rid RecallRecord.turnNotified (appendNotice p r.notice (setPending p rest s)) := by
  cases hlist : s.recalls.pendingLists.get p with
  | nil => exact .inl ⟨.inl rfl, by simp only [fillPending, hlist]⟩
  | cons rid rest =>
    cases hroom : s.noticeRoom p with
    | false => exact .inl ⟨.inr rfl, by simp [fillPending, hlist, hroom]⟩
    | true =>
      have hrecord : (setPending p rest s).recordById rid = s.recordById rid := rfl
      unfold setPending at hrecord
      cases hr : s.recordById rid with
      | none =>
        refine .inr (.inl ⟨rid, rest, rfl, rfl, hr, ?_⟩)
        simp only [fillPending, hlist, hroom, if_true, hrecord, hr]
        rfl
      | some r =>
        refine .inr (.inr ⟨rid, rest, r, rfl, rfl, hr, ?_⟩)
        simp only [fillPending, hlist, hroom, if_true, hrecord, hr]
        rfl

theorem fillPending_noticesOnly (p : PortId) (s : State) : NoticesOnly p s (fillPending p s) := by
  obtain ⟨-, h⟩ | ⟨rid, rest, -, -, -, h⟩ | ⟨rid, rest, r, -, -, -, h⟩ := fillPending_cases p s
  · rw [h]
    exact .refl p s
  · rw [h]
    exact .setRecalls p _ s
  · rw [h]
    exact ((NoticesOnly.setRecalls p _ s).trans (.setNotices p _ _)).trans (.setRecalls p _ _)

/-- Filling a place leaves a NOTIFIED record as it is. -/
theorem fillPending_recordById_of_notified {s : State} {rid : Nat} {r : RecallRecord} (p : PortId)
    (hr : s.recordById rid = some r) (hphase : r.phase = .notified) : (fillPending p s).recordById rid = some r := by
  obtain ⟨-, h⟩ | ⟨head, rest, -, -, -, h⟩ | ⟨head, rest, x, -, -, -, h⟩ := fillPending_cases p s
  · rw [h, hr]
  · rw [h]
    exact hr
  · have hbefore : (appendNotice p x.notice (setPending p rest s)).recordById rid = some r := hr
    rw [h, updateRecall_recordById _ RecallRecord.turnNotified_recallId, hbefore, Option.map_some,
      RecallRecord.turnNotified_of_notified hphase, ite_self]

/-- A notice of a port whose place was filled stood there before, or is the RECALL notice of a pending record. -/
theorem fillPending_notices {p : PortId} {s : State} {n : Notice} (hn : n ∈ ((fillPending p s).link p).notices) :
    n ∈ (s.link p).notices ∨ ∃ rid ∈ s.recalls.pendingLists.get p, ∃ r, s.recordById rid = some r ∧ n = r.notice := by
  obtain ⟨-, h⟩ | ⟨rid, rest, -, -, -, h⟩ | ⟨rid, rest, r, hlist, -, hr, h⟩ := fillPending_cases p s
  · rw [h] at hn
    exact .inl hn
  · rw [h] at hn
    exact .inl hn
  · have hlink : ((fillPending p s).link p).notices = (s.link p).notices ++ [r.notice] := by
      rw [h]
      exact congrArg LinkPort.notices (State.setLink_link_same _ _ _)
    rw [hlink, List.mem_append, List.mem_singleton] at hn
    exact hn.imp id fun heq => ⟨rid, by simp [hlist], r, hr, heq⟩

/-! ### Removing an unsent notice (R94, R170) -/

theorem removeNoticeAndFill_noticesOnly (p : PortId) (isIt : Notice → Bool) (s : State) :
    NoticesOnly p s (removeNoticeAndFill p isIt s) := by
  unfold removeNoticeAndFill
  split
  · exact (NoticesOnly.setNotices p _ s).trans (fillPending_noticesOnly p _)
  · exact .refl p s

theorem removeNoticeAndFill_recordById_of_notified {s : State} {rid : Nat} {r : RecallRecord} (p : PortId)
    (isIt : Notice → Bool) (hr : s.recordById rid = some r) (hphase : r.phase = .notified) :
    (removeNoticeAndFill p isIt s).recordById rid = some r := by
  unfold removeNoticeAndFill
  split
  · exact fillPending_recordById_of_notified p hr hphase
  · exact hr

theorem RecallRecord.isRecall_notice (r : RecallRecord) (rid : Nat) :
    r.notice.isRecall rid = (r.recallId == rid) := rfl

/-- A record that is not pending has no notice left once its notice was removed and the place filled. -/
theorem removeNoticeAndFill_no_recall {p : PortId} {rid : Nat} {s : State}
    (hpending : rid ∉ s.recalls.pendingLists.get p) :
    ∀ n ∈ ((removeNoticeAndFill p (Notice.isRecall rid) s).link p).notices, n.isRecall rid = false := by
  intro n hn
  by_cases hany : (s.link p).notices.any (Notice.isRecall rid) = true
  · rw [removeNoticeAndFill, if_pos hany] at hn
    obtain hold | ⟨head, hhead, r, hr, rfl⟩ := fillPending_notices hn
    · simp only [removeNotice, State.setLink_link_same, List.mem_filter] at hold
      simpa using hold.2
    · have hid : r.recallId = head := State.recallId_of_recordById hr
      have hne : r.recallId ≠ rid := fun h => hpending (hid.symm.trans h ▸ hhead)
      rw [RecallRecord.isRecall_notice, beq_false_of_ne hne]
  · rw [removeNoticeAndFill, if_neg hany] at hn
    simpa using fun h => hany (List.any_eq_true.2 ⟨n, hn, h⟩)

/-! ### Asking for a map write (R28) -/

/-- The write stands in the Map Write Queue or waits for a place. -/
def MapUnit.asked (m : MapUnit) (w : MapWrite) : Prop := w ∈ m.queue.map QueuedWrite.write ∨ w ∈ m.waiting

theorem State.writeAsked_iff (s : State) (w : MapWrite) : s.writeAsked w ↔ s.mapUnit.asked w := Iff.rfl

theorem MapWrite.isRepairOf_of_ordinary {w : MapWrite} (hw : w.producer ≠ .repair) (p : PortId) (hpn : Nat) :
    w.isRepairOf p hpn = false := by
  simp [MapWrite.isRepairOf, hw]

/-- Stopping a repair drops no ordinary write (R35). -/
theorem supersedeRepair_asked {w : MapWrite} (hw : w.producer ≠ .repair) (p : PortId) (hpn arrival : Nat)
    {m : MapUnit} (h : m.asked w) : (supersedeRepair p hpn arrival m).asked w := by
  have hkept : w.isRepairOf p hpn = false := MapWrite.isRepairOf_of_ordinary hw p hpn
  unfold supersedeRepair
  split
  · refine h.imp (fun hq => ?_) fun hwait => List.mem_filter.2 ⟨hwait, by rw [hkept]; rfl⟩
    obtain ⟨x, hx, rfl⟩ := List.mem_map.1 hq
    exact List.mem_map.2 ⟨x, List.mem_filter.2 ⟨hx, by rw [hkept]; rfl⟩, rfl⟩
  · exact h

/-- After a write arrived, it and every ordinary write asked for before are asked for. -/
theorem arriveWrite_asked {w : MapWrite} (hw : w.producer ≠ .repair) {v : MapWrite} {m : MapUnit}
    (h : w = v ∨ m.asked w) : (arriveWrite v m).asked w := by
  have hqueued : MapUnit.asked { m with
      queue := m.queue ++ [{ write := v, arrival := m.arrivals }], arrivals := m.arrivals + 1 } w := by
    obtain rfl | hq | hwait := h
    · exact .inl (by simp)
    · exact .inl (by rw [List.map_append]; exact List.mem_append_left _ hq)
    · exact .inr hwait
  unfold arriveWrite
  split
  · exact hqueued
  · exact supersedeRepair_asked hw _ _ _ hqueued

theorem drainWaiting_asked {w : MapWrite} (hw : w.producer ≠ .repair) (n : Nat) {m : MapUnit} (h : m.asked w) :
    (drainWaiting n m).asked w := by
  induction n generalizing m with
  | zero => exact h
  | succ n ih =>
    cases hwaiting : m.waiting with
    | nil => simpa only [drainWaiting, hwaiting] using h
    | cons v vs =>
      simp only [drainWaiting, hwaiting]
      split
      · refine ih (arriveWrite_asked hw ?_)
        obtain hq | hwait := h
        · exact .inr (.inl hq)
        · rw [hwaiting] at hwait
          exact (List.mem_cons.1 hwait).imp id .inr
      · exact h

theorem askWrite_writeAsked {w : MapWrite} (hw : w.producer ≠ .repair) (s : State) : (askWrite w s).writeAsked w :=
  (State.writeAsked_iff _ w).2 (drainWaiting_asked hw _ (.inr (by simp)))

/-! ### Entering UNMAPPING (R95, R100) -/

/-- A record that has entered UNMAPPING. -/
def RecallRecord.turnUnmapping (r : RecallRecord) : RecallRecord := { r with phase := .unmapping, deadline := none }

theorem RecallRecord.turnUnmapping_recallId (r : RecallRecord) : r.turnUnmapping.recallId = r.recallId := rfl

theorem startUnmap_eq (r : RecallRecord) (s : State) :
    startUnmap r s = askWrite r.unmapWrite (updateRecall r.recallId RecallRecord.turnUnmapping s) := rfl

theorem askWrite_recordById (w : MapWrite) (s : State) (rid : Nat) : (askWrite w s).recordById rid = s.recordById rid :=
  rfl

theorem startUnmap_noticesOnly (p : PortId) (r : RecallRecord) (s : State) : NoticesOnly p s (startUnmap r s) :=
  (NoticesOnly.setRecalls p _ s).trans (.setMapUnit p _ _)

theorem startUnmap_link (r : RecallRecord) (s : State) (p : PortId) : (startUnmap r s).link p = s.link p := rfl

theorem startUnmap_recordById {r : RecallRecord} {s : State} (hr : s.recordById r.recallId = some r) :
    (startUnmap r s).recordById r.recallId = some r.turnUnmapping := by
  rw [startUnmap_eq, askWrite_recordById, updateRecall_recordById _ RecallRecord.turnUnmapping_recallId, if_pos rfl,
    hr, Option.map_some]

theorem startUnmap_writeAsked (r : RecallRecord) (s : State) : (startUnmap r s).writeAsked r.unmapWrite :=
  askWrite_writeAsked (by simp [RecallRecord.unmapWrite]) _

/-! ### Taking a RECALL-ACK -/

theorem onArrival_of_up {p : PortId} {s : State} (hop : s.operating = true) (hup : (s.link p).link = .up) (t : State) :
    onArrival p s t = .next t := by
  simp [onArrival, whenOperating, hop, hup]

theorem recallAck_inEncoding {rid : Nat} (h : rid ≤ 65535) : (HostMsg.recallAck rid).inEncoding = true :=
  decide_eq_true (Nat.lt_succ_of_le h)

theorem exec_recallAck_of_up {p : PortId} {rid : Nat} {s : State} (hop : s.operating = true)
    (hup : (s.link p).link = .up) (hrid : rid ≤ 65535) :
    exec (.recallAck p rid) s = .next (takeRecallAck p rid true s) := by
  change onArrival p s _ = _
  rw [onArrival_of_up hop hup, recallAck_inEncoding hrid]

/-- Outside a session, or naming no NOTIFIED record of its port, it is discarded (R96, R163). -/
theorem takeRecallAck_discarded {p : PortId} {rid : Nat} {s : State}
    (h : (s.link p).state ≠ .attached ∨ s.notifiedRecord p rid = none) : takeRecallAck p rid true s = s := by
  by_cases hstate : (s.link p).state = .attached
  · simp [takeRecallAck, hstate, h.resolve_left (not_not_intro hstate)]
  · simp [takeRecallAck, hstate]

theorem takeRecallAck_of_notifiedRecord {p : PortId} {rid : Nat} {r : RecallRecord} {s : State}
    (hstate : (s.link p).state = .attached) (hr : s.notifiedRecord p rid = some r) :
    takeRecallAck p rid true s = startUnmap r (removeNoticeAndFill p (Notice.isRecall rid) s) := by
  simp [takeRecallAck, hstate, hr]

/-- Settles O12: an acknowledgement that names no NOTIFIED record is discarded; one that does removes the notice, which
leaves the record itself alone, and then starts its unmapping. -/
theorem recallAckUnmapsOrIsDiscarded : Obligations.RecallAckUnmapsOrIsDiscarded := by
  unfold Obligations.RecallAckUnmapsOrIsDiscarded
  intro p s hop hup
  constructor
  · intro rid hrid hnone
    rw [exec_recallAck_of_up hop hup hrid, takeRecallAck_discarded (hnone.imp id State.notifiedRecord_eq_none)]
  · rintro r hrid hstate hr rfl hphase
    have hexec := exec_recallAck_of_up hop hup hrid
    rw [takeRecallAck_of_notifiedRecord hstate (State.notifiedRecord_of_recordById hr hphase)] at hexec
    have hrecord := removeNoticeAndFill_recordById_of_notified r.port (Notice.isRecall r.recallId) hr hphase
    have honly := (removeNoticeAndFill_noticesOnly r.port (Notice.isRecall r.recallId) s).trans
      (startUnmap_noticesOnly r.port r _)
    exact ⟨_, hexec, startUnmap_recordById hrecord, startUnmap_writeAsked r _,
      fun hpending => by rw [startUnmap_link]; exact removeNoticeAndFill_no_recall hpending,
      honly.link, honly.flight, honly.engine, fun _ hq => honly.samePort hq, honly.queue r.port, honly.cache r.port⟩

end Sys2Proof.Machine
end

section
/-! Accesses that read a line before they store it (R137 to R141): the bytes of a line before and after a store, what a
read of the line reports and hands over, and from these what PARTIAL WRITE and CSWAP do. -/

namespace Sys2Proof.Machine

/-! ### Merging bytes and replacing a granule -/

theorem mergeBytes_length (os ds : List Byte) (es : List Bool) : (mergeBytes os ds es).length = os.length := by
  induction os, ds, es using mergeBytes.induct with
  | case1 o os d ds e es ih => simp [mergeBytes, ih]
  | case2 os ds es hshort => rw [mergeBytes]; exact hshort

theorem mergeBytes_getElem? {os ds : List Byte} {j : Nat} {o d : Byte} (es : List Bool) (ho : os[j]? = some o)
    (hd : ds[j]? = some d) : (mergeBytes os ds es)[j]? = some (if es[j]? = some true then d else o) := by
  induction es generalizing os ds j with
  | nil => simpa [mergeBytes] using ho
  | cons e es ih =>
    cases os with
    | nil => simp at ho
    | cons x os =>
      cases ds with
      | nil => simp at hd
      | cons y ds =>
        cases j with
        | zero => simp_all [mergeBytes]
        | succ j => exact ih ho hd

section
variable {bytes new : List Byte} {g : Nat} (hbytes : 8 * g + 8 ≤ bytes.length) (hnew : new.length = 8)
include hbytes hnew

theorem withGranule_getElem? (j : Nat) :
    (withGranule bytes g new)[j]? = if 8 * g ≤ j ∧ j < 8 * g + 8 then new[j - 8 * g]? else bytes[j]? := by
  have htake : new.take 8 = new := List.take_of_length_le hnew.le
  rw [withGranule, htake, List.append_assoc, List.getElem?_append, List.getElem?_append, List.getElem?_take,
    List.getElem?_drop, List.length_take, hnew]
  grind

theorem withGranule_length : (withGranule bytes g new).length = bytes.length := by
  simp only [withGranule, List.length_append, List.length_take, List.length_drop, hnew]
  omega

theorem granuleOf_withGranule : granuleOf (withGranule bytes g new) g = new := by
  refine List.ext_getElem? fun j => ?_
  rw [granuleOf, slice, List.getElem?_take, List.getElem?_drop, withGranule_getElem? hbytes hnew]
  grind

end

/-! ### The bytes of a line in memory -/

theorem Memory.readBytes_length (m : Memory) (a n : Nat) : (Memory.readBytes m a n).length = n := by
  simp [Memory.readBytes]

theorem Memory.readBytes_getElem? {n j : Nat} (m : Memory) (a : Nat) (hj : j < n) :
    (Memory.readBytes m a n)[j]? = some (Memory.read m (a + j)) := by
  simp [Memory.readBytes, hj]

theorem Dram.readLine_length (d : Dram) (n : Nat) : (d.readLine n).length = 64 :=
  Memory.readBytes_length ..

theorem Dram.readLine_getElem? {j : Nat} (d : Dram) (n : Nat) (hj : j < 64) :
    (d.readLine n)[j]? = some (Memory.read d.mem (byteAddr n + j)) :=
  Memory.readBytes_getElem? _ _ hj

theorem Dram.granuleOf_readLine {g : Nat} (d : Dram) (n : Nat) (hg : g ≤ 7) :
    granuleOf (d.readLine n) g = Memory.readBytes d.mem (byteAddr n + 8 * g) 8 := by
  refine List.ext_getElem? fun j => ?_
  rw [granuleOf, slice, List.getElem?_take, List.getElem?_drop]
  by_cases hj : j < 8
  · rw [if_pos hj, d.readLine_getElem? n (by omega), Memory.readBytes_getElem? _ _ hj, Nat.add_assoc]
  · rw [if_neg hj, List.getElem?_eq_none (by rw [Memory.readBytes_length]; omega)]

/-! ### Storing a line -/

/-- A stored line of 64 bytes reads back. -/
theorem Dram.readLine_storeLine {d : Dram} {bs : List Byte} (hw : d.wf = true) (n : Nat) (hlen : bs.length = 64) :
    (d.storeLine n bs).readLine n = bs := by
  have htake : bs.take Config.lineBytes = bs := List.take_of_length_le hlen.le
  refine List.ext_getElem? fun j => ?_
  by_cases hj : j < 64
  · rw [Dram.readLine_getElem? _ n hj, d.read_storeLine n bs hw, htake, hlen, if_pos (by omega),
      Nat.add_sub_cancel_left, List.getD_eq_getElem?_getD, List.getElem?_eq_getElem (hlen.symm ▸ hj), Option.getD_some]
  · rw [List.getElem?_eq_none (by rw [Dram.readLine_length]; omega), List.getElem?_eq_none (by omega)]

theorem Dram.read_storeLine_outside {d : Dram} {n x : Nat} (hw : d.wf = true) (bs : List Byte)
    (hx : x < byteAddr n ∨ byteAddr n + 64 ≤ x) : Memory.read (d.storeLine n bs).mem x = Memory.read d.mem x := by
  have hlen : (bs.take Config.lineBytes).length ≤ 64 := List.length_take_le ..
  rw [d.read_storeLine n bs hw, if_neg (by omega)]

/-- From `d` to `d'` no byte outside line `n` changed, nor any map entry or the condition of any line. -/
def Dram.sameElsewhere (n : Nat) (d d' : Dram) : Prop :=
  (∀ x, x < byteAddr n ∨ byteAddr n + 64 ≤ x → Memory.read d'.mem x = Memory.read d.mem x) ∧ d'.maps = d.maps ∧
    ∀ m, d'.isBad m = d.isBad m

theorem Dram.sameElsewhere.refl (n : Nat) (d : Dram) : d.sameElsewhere n d := ⟨fun _ _ => rfl, rfl, fun _ => rfl⟩

theorem Dram.bad_wf {d : Dram} (hw : d.wf = true) : sparseWf badUnlisted d.bad = true := by
  simp only [Dram.wf, Bool.and_eq_true] at hw
  exact hw.2

theorem Dram.isBad_storeLine {d : Dram} (hw : d.wf = true) (n : Nat) (bs : List Byte) (m : Nat) :
    (d.storeLine n bs).isBad m = if m = n then false else d.isBad m :=
  sparseGet_sparsePut badUnlisted d.bad n false (Dram.bad_wf hw) m

theorem Dram.isBad_markBad {d : Dram} (hw : d.wf = true) (n m : Nat) :
    (d.markBad n).isBad m = if m = n then true else d.isBad m :=
  sparseGet_sparsePut badUnlisted d.bad n true (Dram.bad_wf hw) m

theorem Dram.storeLine_sameElsewhere {d : Dram} {n : Nat} (hw : d.wf = true) (hgood : d.isBad n = false)
    (bs : List Byte) : d.sameElsewhere n (d.storeLine n bs) := by
  refine ⟨fun x hx => Dram.read_storeLine_outside hw bs hx, rfl, fun m => ?_⟩
  rw [Dram.isBad_storeLine hw]
  split
  · next h => rw [h, hgood]
  · rfl

/-- The line stored, if the access stores one. -/
def Dram.storeIf (d : Dram) (n : Nat) : Option (List Byte) → Dram
  | some bs => d.storeLine n bs
  | none => d

theorem Dram.storeIf_sameElsewhere {d : Dram} {n : Nat} (hw : d.wf = true) (hgood : d.isBad n = false) :
    ∀ bs, d.sameElsewhere n (d.storeIf n bs)
  | some bs => Dram.storeLine_sameElsewhere hw hgood bs
  | none => .refl n d

/-! ### What an access may change -/

/-- From `s` to `t` nothing changed but DRAM and what is in flight. -/
def State.onlyDramAndFlight (s t : State) : Prop := t = (s.setDram t.dram).setFlight t.flight

theorem State.onlyDramAndFlight.trans {s t u : State} (h : s.onlyDramAndFlight t) (h' : t.onlyDramAndFlight u) :
    s.onlyDramAndFlight u := by
  unfold State.onlyDramAndFlight at h h' ⊢
  rw [h', h]
  rfl

theorem handResult_onlyDramAndFlight (a : Access64) (o : AccessOutcome) (s : State) :
    s.onlyDramAndFlight (handResult a o s) := by
  unfold handResult
  cases a.owner <;> rfl

theorem reportCorrectable_onlyDramAndFlight (a : Access64) (s : State) :
    s.onlyDramAndFlight (reportCorrectable a s) := by
  unfold reportCorrectable
  split <;> rfl

theorem reportUncorrectable_onlyDramAndFlight (a : Access64) (s : State) :
    s.onlyDramAndFlight (reportUncorrectable a s) := by
  unfold reportUncorrectable
  dsimp only
  split <;> rfl

/-- An access that left its queue and then touched only DRAM and what is in flight is completed (R134). -/
theorem accessCompleted_of_onlyDramAndFlight {c : ChannelId} {i : Nat} {s t : State}
    (h : (completeAccess c i s).onlyDramAndFlight t) : accessCompleted c i s t := by
  rw [h]
  exact ⟨rfl, rfl, rfl, rfl, rfl, rfl, rfl, rfl, rfl⟩

/-! ### Handing the result over (R134) -/

/-- A result touches neither DRAM nor any report or fault record. -/
theorem handResult_frame (a : Access64) (o : AccessOutcome) (s : State) :
    (handResult a o s).dram = s.dram ∧ (handResult a o s).flight.faults = s.flight.faults ∧
      (handResult a o s).flight.correctable = s.flight.correctable ∧
      (handResult a o s).flight.uncorrectable = s.flight.uncorrectable := by
  unfold handResult
  cases a.owner <;> exact ⟨rfl, rfl, rfl, rfl⟩

/-- From `s` to `t` no result came or went, and every map entry stands as it did. -/
structure SameResults (s t : State) : Prop where
  lines : t.flight.lineResults = s.flight.lineResults
  maps : t.flight.mapResults = s.flight.mapResults
  scrubs : t.flight.scrubResults = s.flight.scrubResults
  entries : t.dram.maps = s.dram.maps

theorem reportCorrectable_sameResults (a : Access64) (s : State) : SameResults s (reportCorrectable a s) := by
  unfold reportCorrectable
  split <;> exact ⟨rfl, rfl, rfl, rfl⟩

theorem reportUncorrectable_sameResults (a : Access64) (s : State) : SameResults s (reportUncorrectable a s) := by
  unfold reportUncorrectable
  dsimp only
  split <;> exact ⟨rfl, rfl, rfl, rfl⟩

theorem resultHanded_handResult {s t : State} (h : SameResults s t) (a : Access64) (o : AccessOutcome) :
    resultHanded a o s (handResult a o t) := by
  obtain ⟨hlines, hmaps, hscrubs, hentries⟩ := h
  have hread : t.dram.readMap a.line = s.dram.readMap a.line := by rw [Dram.readMap, hentries, Dram.readMap]
  unfold resultHanded handResult
  cases a.owner <;> simp [hlines, hmaps, hscrubs, hread]

theorem SameResults.handed_of {s t u : State} {a : Access64} {o : AccessOutcome} (h : SameResults t u)
    (ht : resultHanded a o s t) : resultHanded a o s u := by
  unfold resultHanded at ht ⊢
  rwa [h.lines, h.maps, h.scrubs]

/-! ### The reports of an access (R139 to R141) -/

theorem reportUncorrectable_reported {a : Access64} {s : State} (hw : s.dram.wf = true) :
    reportedUncorrectable a s (reportUncorrectable a s) := by
  have hbad : ∀ n, (reportUncorrectable a s).dram.isBad n = if n = s.lineOf a then true else s.dram.isBad n := by
    intro n
    rw [← Dram.isBad_markBad hw]
    unfold reportUncorrectable
    dsimp only
    split <;> rfl
  refine ⟨?_, ?_, by simp [hbad], fun n hn => by simp [hbad, hn], ?_⟩
  all_goals
    unfold reportUncorrectable
    by_cases hframe : a.frame = 0 <;> simp [hframe, handFault, Dram.markBad]

theorem handResult_reportedUncorrectable {a : Access64} {s t : State} (h : reportedUncorrectable a s t)
    (o : AccessOutcome) : reportedUncorrectable a s (handResult a o t) := by
  obtain ⟨hdram, hfaults, hcorrectable, huncorrectable⟩ := handResult_frame a o t
  unfold reportedUncorrectable at h ⊢
  rwa [hdram, hfaults, hcorrectable, huncorrectable]

/-- `s` with the report of a read that met the condition `e`, not an uncorrectable one, handed over (R139). -/
def reportReadable (a : Access64) (e : EccCondition) (s : State) : State :=
  if e = .correctable then reportCorrectable a s else s

theorem reportCorrectable_frame (a : Access64) (s : State) :
    (reportCorrectable a s).dram = s.dram ∧ (reportCorrectable a s).flight.faults = s.flight.faults ∧
      (reportCorrectable a s).flight.uncorrectable = s.flight.uncorrectable ∧
      (reportCorrectable a s).flight.correctable =
        if a.frame ≠ 0 then s.flight.correctable ++ [(a.frame, a.line)] else s.flight.correctable := by
  unfold reportCorrectable
  by_cases hframe : a.frame = 0 <;> simp [hframe]

theorem reportReadable_dram (a : Access64) (e : EccCondition) (s : State) : (reportReadable a e s).dram = s.dram := by
  unfold reportReadable
  split
  · exact (reportCorrectable_frame a s).1
  · rfl

theorem reportReadable_sameResults (a : Access64) (e : EccCondition) (s : State) :
    SameResults s (reportReadable a e s) := by
  unfold reportReadable
  split
  · exact reportCorrectable_sameResults a s
  · exact ⟨rfl, rfl, rfl, rfl⟩

theorem reportReadable_onlyDramAndFlight (a : Access64) (e : EccCondition) (s : State) :
    s.onlyDramAndFlight (reportReadable a e s) := by
  unfold reportReadable
  split
  · exact reportCorrectable_onlyDramAndFlight a s
  · rfl

theorem reportReadable_reported {s t : State} (hfaults : t.flight.faults = s.flight.faults)
    (hcorrectable : t.flight.correctable = s.flight.correctable)
    (huncorrectable : t.flight.uncorrectable = s.flight.uncorrectable) (a : Access64) (e : EccCondition) :
    reportedReadable a e s (reportReadable a e t) := by
  unfold reportedReadable reportReadable
  by_cases he : e = .correctable
  · obtain ⟨-, hfaults', huncorrectable', hcorrectable'⟩ := reportCorrectable_frame a t
    simp only [he, if_true, true_and]
    exact ⟨hfaults'.trans hfaults, huncorrectable'.trans huncorrectable, by rw [hcorrectable', hcorrectable]⟩
  · simp only [he, if_false, false_and]
    exact ⟨hfaults, huncorrectable, hcorrectable⟩

/-! ### An access that reads its line first -/

/-- The read of the access's line meets an uncorrectable error: one it met before, or one now (R140). -/
def meetsUncorrectable (a : Access64) (e : EccCondition) (s : State) : Prop :=
  s.dram.isBad (s.lineOf a) = true ∨ e = .uncorrectable

/-- `s` with the access's line stored, if `store` gives a new content for the bytes that stand there. -/
def State.lineStored (a : Access64) (store : List Byte → Option (List Byte)) (s : State) : State :=
  s.setDram (s.dram.storeIf (s.lineOf a) (store (s.dram.readLine (s.lineOf a))))

theorem State.lineStored_sameResults (a : Access64) (store : List Byte → Option (List Byte)) (s : State) :
    SameResults s (s.lineStored a store) := by
  refine ⟨rfl, rfl, rfl, ?_⟩
  unfold State.lineStored
  cases store (s.dram.readLine (s.lineOf a)) <;> rfl

section
variable {a : Access64} {e : EccCondition} {s : State}
variable (store : List Byte → Option (List Byte)) (outcome : List Byte → AccessOutcome)

theorem readAccess_of_uncorrectable (hbad : meetsUncorrectable a e s) :
    readAccess a e store outcome s = handResult a .uncorrectable (reportUncorrectable a s) := by
  have hcondition : s.dram.condition (s.lineOf a) e = .uncorrectable := by
    rcases hbad with h | h <;> simp [Dram.condition, h]
  rw [readAccess, hcondition]

theorem readAccess_access_eq : readAccess.access a store outcome s =
    handResult a (outcome (s.dram.readLine (s.lineOf a))) (s.lineStored a store) := by
  unfold readAccess.access
  dsimp only
  unfold State.lineStored
  split <;> next h => rw [h]; rfl

theorem readAccess_of_readable (hgood : ¬ meetsUncorrectable a e s) :
    readAccess a e store outcome s =
      reportReadable a e (handResult a (outcome (s.dram.readLine (s.lineOf a))) (s.lineStored a store)) := by
  obtain ⟨hline, he⟩ := not_or.1 hgood
  have hcondition : s.dram.condition (s.lineOf a) e = e := if_neg hline
  rw [readAccess, hcondition, ← readAccess_access_eq]
  cases e with
  | clean => rfl
  | correctable => rfl
  | uncorrectable => exact absurd rfl he

theorem readAccess_onlyDramAndFlight : s.onlyDramAndFlight (readAccess a e store outcome s) := by
  by_cases hbad : meetsUncorrectable a e s
  · rw [readAccess_of_uncorrectable store outcome hbad]
    exact (reportUncorrectable_onlyDramAndFlight a s).trans (handResult_onlyDramAndFlight a _ _)
  · rw [readAccess_of_readable store outcome hbad]
    have hstore : s.onlyDramAndFlight (s.lineStored a store) := rfl
    exact (hstore.trans (handResult_onlyDramAndFlight a _ _)).trans (reportReadable_onlyDramAndFlight a e _)

/-- An uncorrectable line is reported, and the requester told (R140). -/
theorem readAccess_uncorrectable (hw : s.dram.wf = true) (hbad : meetsUncorrectable a e s) :
    reportedUncorrectable a s (readAccess a e store outcome s) ∧
      resultHanded a .uncorrectable s (readAccess a e store outcome s) := by
  rw [readAccess_of_uncorrectable store outcome hbad]
  exact ⟨handResult_reportedUncorrectable (reportUncorrectable_reported hw) _,
    resultHanded_handResult (reportUncorrectable_sameResults a s) a _⟩

/-- Any other line is stored if the access stores it, nothing else in DRAM changes, and the outcome is the one for the
bytes read. -/
theorem readAccess_readable (hw : s.dram.wf = true) (hgood : ¬ meetsUncorrectable a e s) :
    reportedReadable a e s (readAccess a e store outcome s) ∧
      resultHanded a (outcome (s.dram.readLine (s.lineOf a))) s (readAccess a e store outcome s) ∧
      s.dram.sameElsewhere (s.lineOf a) (readAccess a e store outcome s).dram ∧
      (readAccess a e store outcome s).dram =
        s.dram.storeIf (s.lineOf a) (store (s.dram.readLine (s.lineOf a))) := by
  rw [readAccess_of_readable store outcome hgood]
  obtain ⟨hdram, hfaults, hcorrectable, huncorrectable⟩ :=
    handResult_frame a (outcome (s.dram.readLine (s.lineOf a))) (s.lineStored a store)
  have hline : s.dram.isBad (s.lineOf a) = false := Bool.eq_false_iff.2 (not_or.1 hgood).1
  refine ⟨reportReadable_reported hfaults hcorrectable huncorrectable a e,
    (reportReadable_sameResults a e _).handed_of
      (resultHanded_handResult (State.lineStored_sameResults a store s) a _), ?_⟩
  rw [reportReadable_dram, hdram]
  exact ⟨Dram.storeIf_sameElsewhere hw hline _, rfl⟩

/-- Carried out from its queue, the access leaves it and does to the line what it does from the state before (R134). -/
theorem readAccess_carriedOut (c : ChannelId) (i : Nat) (hw : s.dram.wf = true) {t : State}
    (ht : t = readAccess a e store outcome (completeAccess c i s)) :
    accessCompleted c i s t ∧
      (meetsUncorrectable a e s → reportedUncorrectable a s t ∧ resultHanded a .uncorrectable s t) ∧
      (¬ meetsUncorrectable a e s →
        reportedReadable a e s t ∧ resultHanded a (outcome (s.dram.readLine (s.lineOf a))) s t ∧
          s.dram.sameElsewhere (s.lineOf a) t.dram ∧
          t.dram = s.dram.storeIf (s.lineOf a) (store (s.dram.readLine (s.lineOf a)))) := by
  subst ht
  exact ⟨accessCompleted_of_onlyDramAndFlight (readAccess_onlyDramAndFlight store outcome),
    readAccess_uncorrectable (s := completeAccess c i s) store outcome hw,
    readAccess_readable (s := completeAccess c i s) store outcome hw⟩

end

/-! ### PARTIAL WRITE and CSWAP (R137, R138) -/

section
variable {c : ChannelId} {i : Nat} {a : Access64} {s : State} (hop : s.operating = true)
  (hcarried : s.carriedOut c i = some a) (hframe : a.frame < s.frames)
include hop hcarried hframe

theorem exec_channelPartialWrite (e : EccCondition) {data : List Byte} {mask : List Bool}
    (hkind : a.kind = .partialWrite data mask) :
    exec (.channelPartialWrite c i e) s = .next (readAccess a e (fun bytes => some (mergeBytes bytes data mask))
      (fun _ => .written) (completeAccess c i s)) := by
  change execChannelPartialWrite c i e s = _
  simp [execChannelPartialWrite, carryOut, hop, hcarried, hframe, hkind]

theorem exec_channelCswap (e : EccCondition) {g : Nat} {cmp new : List Byte} (hkind : a.kind = .cswap g cmp new) :
    exec (.channelCswap c i e) s = .next (readAccess a e
      (fun bytes => if granuleOf bytes g = cmp then some (withGranule bytes g new) else none)
      (fun bytes => .swap (granuleOf bytes g) (decide (granuleOf bytes g = cmp))) (completeAccess c i s)) := by
  change execChannelCswap c i e s = _
  simp [execChannelCswap, carryOut, hop, hcarried, hframe, hkind]

end

/-- Each byte of a line stored with the enabled bytes of `data` merged in. -/
theorem Dram.read_storeLine_mergeBytes {d : Dram} (hw : d.wf = true) (n : Nat) {data : List Byte} (mask : List Bool)
    {j : Nat} {b : Byte} (hj : j < 64) (hb : data[j]? = some b) :
    Memory.read (d.storeLine n (mergeBytes (d.readLine n) data mask)).mem (byteAddr n + j) =
      if mask[j]? = some true then b else Memory.read d.mem (byteAddr n + j) := by
  have hlen : (mergeBytes (d.readLine n) data mask).length = 64 := by rw [mergeBytes_length, d.readLine_length]
  have hread := (d.storeLine n (mergeBytes (d.readLine n) data mask)).readLine_getElem? n hj
  rw [Dram.readLine_storeLine hw n hlen, mergeBytes_getElem? mask (d.readLine_getElem? n hj) hb] at hread
  exact (Option.some.inj hread).symm

/-- A line stored with granule `g` replaced holds the new granule, and every other byte of memory is as before. -/
theorem Dram.read_storeLine_withGranule {d : Dram} {n g : Nat} {new : List Byte} (hw : d.wf = true) (hg : g ≤ 7)
    (hnew : new.length = 8) :
    Memory.readBytes (d.storeLine n (withGranule (d.readLine n) g new)).mem (byteAddr n + 8 * g) 8 = new ∧
      ∀ x, x < byteAddr n + 8 * g ∨ byteAddr n + 8 * g + 8 ≤ x →
        Memory.read (d.storeLine n (withGranule (d.readLine n) g new)).mem x = Memory.read d.mem x := by
  have hfits : 8 * g + 8 ≤ (d.readLine n).length := by rw [d.readLine_length]; omega
  have hlen : (withGranule (d.readLine n) g new).length = 64 := by rw [withGranule_length hfits hnew, d.readLine_length]
  constructor
  · rw [← Dram.granuleOf_readLine _ n hg, Dram.readLine_storeLine hw n hlen, granuleOf_withGranule hfits hnew]
  · intro x hx
    by_cases hin : byteAddr n ≤ x ∧ x < byteAddr n + 64
    · obtain ⟨j, rfl⟩ := Nat.exists_eq_add_of_le hin.1
      have hj : j < 64 := by omega
      have hread := (d.storeLine n (withGranule (d.readLine n) g new)).readLine_getElem? n hj
      rw [Dram.readLine_storeLine hw n hlen, withGranule_getElem? hfits hnew, if_neg (by omega),
        d.readLine_getElem? n hj] at hread
      exact (Option.some.inj hread).symm
    · exact Dram.read_storeLine_outside hw _ (by omega)

/-- Settles O44: both accesses are a read of the line with a store after it, so the cases of the line's condition are
`readAccess_carriedOut`'s, and what is left is the bytes that each of them stores. -/
theorem partialWritesAndSwapsByRule : Obligations.PartialWritesAndSwapsByRule := by
  unfold Obligations.PartialWritesAndSwapsByRule
  intro c i a e s hop hcarried hframe hw bad base failed elsewhere
  constructor
  · intro data mask hkind _ _
    obtain ⟨hcompleted, hfailed, hreadable⟩ := readAccess_carriedOut (a := a) (e := e)
      (fun bytes => some (mergeBytes bytes data mask)) (fun _ => .written) c i hw rfl
    refine ⟨_, exec_channelPartialWrite hop hcarried hframe e hkind, hcompleted, hfailed, fun hgood => ?_⟩
    obtain ⟨hreported, hresult, helsewhere, hdram⟩ := hreadable hgood
    refine ⟨hreported, hresult, helsewhere, fun j b hj hb => ?_⟩
    rw [hdram]
    exact Dram.read_storeLine_mergeBytes hw _ mask hj hb
  · intro g cmp new hkind hg hnew old
    obtain ⟨hcompleted, hfailed, hreadable⟩ := readAccess_carriedOut (a := a) (e := e)
      (fun bytes => if granuleOf bytes g = cmp then some (withGranule bytes g new) else none)
      (fun bytes => .swap (granuleOf bytes g) (decide (granuleOf bytes g = cmp))) c i hw rfl
    refine ⟨_, exec_channelCswap hop hcarried hframe e hkind, hcompleted, hfailed, fun hgood => ?_⟩
    obtain ⟨hreported, hresult, helsewhere, hdram⟩ := hreadable hgood
    have hold : granuleOf (s.dram.readLine (s.lineOf a)) g = old := Dram.granuleOf_readLine _ _ hg
    rw [hold] at hresult hdram
    refine ⟨hreported, hresult, helsewhere, fun hne x => ?_, fun heq => ?_⟩
    · rw [hdram, if_neg hne]
      rfl
    · rw [hdram, if_pos heq]
      exact Dram.read_storeLine_withGranule hw hg hnew

end Sys2Proof.Machine
end

section
/-! The beginning of teardown (R106, R127, R175, R176), and what answers a port's ATTACH and the management requests for
a port (R164, R174): the Recall Unit's part, the two reports made at once, and from these `teardownBegun`. -/

namespace Sys2Proof.Machine

/-! ### Replacing a Link Port -/

@[simp] theorem State.setLink_setLink (s : State) (p : PortId) (x y : LinkPort) :
    (s.setLink p x).setLink p y = s.setLink p y := by
  simp [State.setLink]

@[simp] theorem State.setLink_link_self (s : State) (p : PortId) : s.setLink p (s.link p) = s := by
  simp [State.setLink, State.link]

/-! ### The Recall Unit's part (R106) -/

/-- The records of `p` that its teardown moves to UNMAPPING. -/
def State.notifyingRecords (s : State) (p : PortId) : List RecallRecord :=
  s.recalls.table.filter fun r => r.port == p && (decide (r.phase = .notifyPending) || decide (r.phase = .notified))

/-- A record after those of the list were moved to UNMAPPING, each by its id. -/
def RecallRecord.afterMoving (moved : List RecallRecord) (r : RecallRecord) : RecallRecord :=
  if r.recallId ∈ moved.map RecallRecord.recallId then r.turnUnmapping else r

/-- Each record of the list leaves its pending list and starts its unmapping. -/
def moveAll (moved : List RecallRecord) (s : State) : State :=
  moved.foldl (fun s r => startUnmap r (leavePending r s)) s

theorem recallsAtTeardown_eq (p : PortId) (s : State) : recallsAtTeardown p s = moveAll (s.notifyingRecords p) s := rfl

theorem RecallRecord.afterMoving_port (moved : List RecallRecord) (r : RecallRecord) :
    (r.afterMoving moved).port = r.port := by
  unfold RecallRecord.afterMoving
  split <;> rfl

/-- Moving one record and then the others is moving them all: entering UNMAPPING twice is entering it once. -/
theorem RecallRecord.afterMoving_cons (m : RecallRecord) (moved : List RecallRecord) (r : RecallRecord) :
    (if r.recallId = m.recallId then r.turnUnmapping else r).afterMoving moved = r.afterMoving (m :: moved) := by
  by_cases hid : r.recallId = m.recallId
  · rw [if_pos hid]
    simp only [RecallRecord.afterMoving, List.map_cons, List.mem_cons, hid, true_or, if_true]
    split <;> rfl
  · simp [RecallRecord.afterMoving, hid]

theorem moveAll_table (moved : List RecallRecord) (s : State) :
    (moveAll moved s).recalls.table = s.recalls.table.map (RecallRecord.afterMoving moved) := by
  induction moved generalizing s with
  | nil => exact (List.map_id' _).symm
  | cons m moved ih =>
    have hstep : (startUnmap m (leavePending m s)).recalls.table =
        s.recalls.table.map fun r => if r.recallId = m.recallId then r.turnUnmapping else r := rfl
    calc (moveAll moved (startUnmap m (leavePending m s))).recalls.table
        = (startUnmap m (leavePending m s)).recalls.table.map (RecallRecord.afterMoving moved) := ih _
      _ = s.recalls.table.map (RecallRecord.afterMoving (m :: moved)) := by
        rw [hstep, List.map_map]
        exact List.map_congr_left fun r _ => RecallRecord.afterMoving_cons m moved r

/-- The Recall Unit's part leaves the ports, the Walker, the Allocation Engine and what is in flight. -/
theorem recallsAtTeardown_frame (p : PortId) (s : State) :
    (recallsAtTeardown p s).links = s.links ∧ (recallsAtTeardown p s).requests = s.requests ∧
      (recallsAtTeardown p s).caches = s.caches ∧ (recallsAtTeardown p s).walker = s.walker ∧
      (recallsAtTeardown p s).engine = s.engine ∧ (recallsAtTeardown p s).flight = s.flight := by
  rw [recallsAtTeardown_eq]
  have hkept := foldl_keeps (fun s => (s.links, s.requests, s.caches, s.walker, s.engine, s.flight))
    (fun s r => startUnmap r (leavePending r s)) (fun _ _ => rfl) (s.notifyingRecords p) s
  simpa only [moveAll, Prod.mk.injEq] using hkept

/-- The port keeps its records: the unit makes its report by the table of before. -/
theorem recallsAtTeardown_any_port (p q : PortId) (s : State) :
    (recallsAtTeardown p s).recalls.table.any (fun r => r.port == q) = s.recalls.table.any fun r => r.port == q := by
  rw [recallsAtTeardown_eq, moveAll_table, List.any_map]
  simp only [Function.comp_def, RecallRecord.afterMoving_port]

/-- No record of the port still notifies, or is to. -/
theorem recallsAtTeardown_phase {p : PortId} {s : State} {r : RecallRecord}
    (hr : r ∈ (recallsAtTeardown p s).recalls.table) (hport : r.port = p) :
    r.phase = .unmapping ∨ r.phase = .draining := by
  rw [recallsAtTeardown_eq, moveAll_table] at hr
  obtain ⟨r₀, hr₀, rfl⟩ := List.mem_map.1 hr
  rw [RecallRecord.afterMoving_port] at hport
  by_cases hmoved : r₀.recallId ∈ (s.notifyingRecords p).map RecallRecord.recallId
  · exact .inl (by rw [RecallRecord.afterMoving, if_pos hmoved]; rfl)
  · have hkept : r₀ ∉ s.notifyingRecords p := fun h => hmoved (List.mem_map_of_mem h)
    rw [RecallRecord.afterMoving, if_neg hmoved]
    cases hphase : r₀.phase with
    | notifyPending => exact absurd (List.mem_filter.2 ⟨hr₀, by simp [hport, hphase]⟩) hkept
    | notified => exact absurd (List.mem_filter.2 ⟨hr₀, by simp [hport, hphase]⟩) hkept
    | unmapping => exact .inl rfl
    | draining => exact .inr rfl

/-! ### The reports made at once (R176) -/

section
variable {p : PortId} {s : State}

/-- Without the Allocation Engine's report the teardown goes on. -/
theorem checkTeardownEnd_of_no_engineReport (hengine : (s.link p).engineReport = false) : checkTeardownEnd p s = s := by
  simp [checkTeardownEnd, hengine]

theorem queueTeardownReport_of_first (hstate : (s.link p).state = .detaching)
    (hengine : (s.link p).engineReport = false) (hqueue : (s.link p).queueEmptyReport = false) :
    queueTeardownReport p s = s.setLink p { s.link p with queueEmptyReport := (s.queue p).isEmpty } := by
  unfold queueTeardownReport
  cases hempty : (s.queue p).isEmpty with
  | true =>
    rw [if_pos ⟨hstate, rfl⟩]
    exact checkTeardownEnd_of_no_engineReport (by rw [State.setLink_link_same]; exact hengine)
  | false =>
    rw [if_neg (by simp), ← hqueue]
    exact (State.setLink_link_self s p).symm

theorem recallTeardownReport_of_first (hstate : (s.link p).state = .detaching)
    (hengine : (s.link p).engineReport = false) (hrecall : (s.link p).recallReport = false) :
    recallTeardownReport p s =
      s.setLink p { s.link p with recallReport := !(s.recalls.table.any fun r => r.port == p) } := by
  unfold recallTeardownReport
  cases hnone : !(s.recalls.table.any fun r => r.port == p) with
  | true =>
    rw [if_pos ⟨hstate, rfl⟩]
    exact checkTeardownEnd_of_no_engineReport (by rw [State.setLink_link_same]; exact hengine)
  | false =>
    rw [if_neg (by simp), ← hrecall]
    exact (State.setLink_link_self s p).symm

end

/-! ### The beginning of teardown (R175) -/

section
variable (p : PortId) (cause : TeardownCause) (s : State)

/-- The Link Port has detached and the teardown has been handed to the three units; none has reported yet. -/
def teardownHanded : State :=
  let s := s.setLink p ((s.link p).detached cause)
  recallsAtTeardown p (discardRequests p (s.setEngine { s.engine with
    headWaiting := s.engine.headWaiting.set p false, teardown := s.engine.teardown.set p .handed }))

theorem beginTeardown_eq_reports :
    beginTeardown p cause s = recallTeardownReport p (queueTeardownReport p (teardownHanded p cause s)) := rfl

theorem teardownHanded_link : (teardownHanded p cause s).link p = (s.link p).detached cause := by
  obtain ⟨hlinks, -⟩ := recallsAtTeardown_frame p (discardRequests p _)
  exact (congrArg (Quad.get · p) hlinks).trans (State.setLink_link_same ..)

theorem teardownHanded_queue : (teardownHanded p cause s).queue p = (s.queue p).filter ReqEntry.isIssued := by
  obtain ⟨-, hrequests, -⟩ := recallsAtTeardown_frame p (discardRequests p _)
  exact (congrArg (Quad.get · p) hrequests).trans (State.setQueue_queue_same ..)

theorem teardownHanded_cache : (teardownHanded p cause s).cache p = s.cache p := by
  obtain ⟨-, -, hcaches, -⟩ := recallsAtTeardown_frame p (discardRequests p _)
  exact congrArg (Quad.get · p) hcaches

theorem teardownHanded_walker : (teardownHanded p cause s).walker =
    { s.walker with retry := s.walker.retry.filter fun r => !(r.1 == p) } := by
  obtain ⟨-, -, -, hwalker, -⟩ := recallsAtTeardown_frame p (discardRequests p _)
  exact hwalker

theorem teardownHanded_engine : (teardownHanded p cause s).engine = { s.engine with
    headWaiting := s.engine.headWaiting.set p false, teardown := s.engine.teardown.set p .handed } := by
  obtain ⟨-, -, -, -, hengine, -⟩ := recallsAtTeardown_frame p (discardRequests p _)
  exact hengine

theorem teardownHanded_flight : (teardownHanded p cause s).flight = s.flight := by
  obtain ⟨-, -, -, -, -, hflight⟩ := recallsAtTeardown_frame p (discardRequests p _)
  exact hflight

theorem teardownHanded_any_port : (teardownHanded p cause s).recalls.table.any (fun r => r.port == p) =
    s.recalls.table.any fun r => r.port == p :=
  recallsAtTeardown_any_port p p _

/-- The Request Unit and the Recall Unit report at once where they hold nothing of the port, and as the Allocation
Engine has not reported, teardown does not end in the event in which it began. -/
theorem beginTeardown_eq : beginTeardown p cause s = (teardownHanded p cause s).setLink p
    { (s.link p).detached cause with
      queueEmptyReport := ((s.queue p).filter ReqEntry.isIssued).isEmpty,
      recallReport := !(s.recalls.table.any fun r => r.port == p) } := by
  have hlink := teardownHanded_link p cause s
  rw [beginTeardown_eq_reports, queueTeardownReport_of_first (by rw [hlink]; rfl) (by rw [hlink]; rfl)
    (by rw [hlink]; rfl), hlink, teardownHanded_queue]
  rw [recallTeardownReport_of_first (by rw [State.setLink_link_same]; rfl) (by rw [State.setLink_link_same]; rfl)
    (by rw [State.setLink_link_same]; rfl), State.setLink_link_same, State.setLink_setLink, State.setLink_recalls,
    teardownHanded_any_port]

theorem beginTeardown_flight : (beginTeardown p cause s).flight = s.flight := by
  rw [beginTeardown_eq]
  exact teardownHanded_flight p cause s

theorem beginTeardown_begun : teardownBegun p cause s (beginTeardown p cause s) := by
  rw [beginTeardown_eq]
  have hengine := teardownHanded_engine p cause s
  refine ⟨State.setLink_link_same .., teardownHanded_queue p cause s, ?retry,
    fun _ hr hport => recallsAtTeardown_phase hr hport, ?teardown, ?headWaiting, ?directory, ?freeList, ?claims,
    ?offers, teardownHanded_cache p cause s⟩
  case retry => rw [State.setLink_walker, teardownHanded_walker]
  case teardown => rw [State.setLink_engine, hengine]; exact Quad.get_set_same ..
  case headWaiting => rw [State.setLink_engine, hengine]; exact Quad.get_set_same ..
  all_goals rw [State.setLink_engine, hengine]

/-- Beginning a teardown keeps the session number (R164 alone changes it). -/
theorem beginTeardown_session : ((beginTeardown p cause s).link p).session = (s.link p).session := by
  rw [beginTeardown_eq, State.setLink_link_same]
  rfl

end

/-- A violation begins teardown with cause PROTOCOL, as from the state without its fault record (R166). -/
theorem violation_begun (p : PortId) (k : Violation) (s : State) : teardownBegun p .protocol s (violation p k s) :=
  beginTeardown_begun p .protocol (handFault (.protocol p (s.link p).session k) s)

theorem violation_session (p : PortId) (k : Violation) (s : State) :
    ((violation p k s).link p).session = (s.link p).session :=
  beginTeardown_session p .protocol (handFault (.protocol p (s.link p).session k) s)

/-! ### ATTACH (R164) -/

theorem exec_attach_of_up {p : PortId} {s : State} (hop : s.operating = true) (hup : (s.link p).link = .up) :
    exec (.attach p) s = .next (takeAttach p s) :=
  onArrival_of_up hop hup _

section
variable {p : PortId} {s : State}

theorem takeAttach_of_idle_run (hidle : (s.link p).state = .idle) (hrun : s.device = .run) :
    takeAttach p s = openSession p s := by
  simp only [takeAttach, hidle, hrun]

theorem takeAttach_of_idle_starting (hidle : (s.link p).state = .idle) (hstarting : s.device = .starting) :
    takeAttach p s = send p (.attachRefused p .starting) s := by
  simp only [takeAttach, hidle, hstarting]

theorem takeAttach_of_attached (hattached : (s.link p).state = .attached) :
    takeAttach p s = violation p .attachInSession s := by
  simp only [takeAttach, hattached]

theorem takeAttach_of_detaching (hdetaching : (s.link p).state = .detaching) :
    takeAttach p s = send p (.attachRefused p .busy) s := by
  simp only [takeAttach, hdetaching]

theorem takeAttach_of_disabled (hdisabled : (s.link p).state = .disabled) :
    takeAttach p s = send p (.attachRefused p .disabled) s := by
  simp only [takeAttach, hdisabled]

end

/-- Opening a session is one replacement of the Link Port. -/
theorem openSession_eq (p : PortId) (s : State) :
    openSession p s = s.setLink p { s.link p with
      state := .attached, session := ((s.link p).session + 1) % 256, requestCredits := 32, requestReturns := 0,
      commandCredits := 4, commandReturns := 0, tags := [], commands := [], outbound := [], notices := [],
      sent := (s.link p).sent ++
        [.attachAck p (((s.link p).session + 1) % 256) s.frames (s.mgmt.settings.quota.get p)] } := by
  simp only [openSession, send, State.setLink_link_same, State.setLink_setLink]
  rfl

/-- The bytes of the ATTACH-ACK that opens a session: a body of 12 bytes, status OK, the window of 8,192 pages and the
credits 32 and 4 (Table 11-3). -/
theorem attachAck_bytes (p : PortId) (frames session quota : Nat) : (OutMsg.attachAck p session frames quota).bytes =
    [0x41, 0, 12, 0, 0, byte p.val, byte session, 0] ++ le16 frames ++ le16 quota ++ [0x00, 0x20, 32, 4] := by
  simp [OutMsg.bytes, messageBytes, byte, le16, Status.code, Config.hpnCount, Config.requestQueueSize,
    Config.commandQueueSize]

/-- Settles O8: one case per port state, and in IDLE per device state; in ATTACHED it is a violation. -/
theorem attachFollowsPortState : Obligations.AttachFollowsPortState := by
  unfold Obligations.AttachFollowsPortState
  intro p s hop hup l
  rw [exec_attach_of_up hop hup]
  refine ⟨fun hidle hrun => ?idleRun, fun hidle hstarting => ?idleStarting, fun hdetaching => ?detaching,
    fun hdisabled => ?disabled, fun hattached => ?attached, attachAck_bytes p s.frames⟩
  case idleRun => rw [takeAttach_of_idle_run hidle hrun, openSession_eq]
  case idleStarting => rw [takeAttach_of_idle_starting hidle hstarting]; rfl
  case detaching => rw [takeAttach_of_detaching hdetaching]; rfl
  case disabled => rw [takeAttach_of_disabled hdisabled]; rfl
  case attached =>
    rw [takeAttach_of_attached hattached]
    exact ⟨_, rfl, violation_begun p _ s, violation_session p _ s⟩

/-! ### PORT-RESET, PORT-DISABLE and PORT-ENABLE (R174) -/

/-- The Management Interface once the running request for a port has been answered. -/
def Mgmt.portAnswered (m : Mgmt) (id : Nat) (r : MgmtReq) (st : MgmtStatus) : Mgmt :=
  { m with portSlot := none, buffer := .ready id r st [] }

section
variable {p : PortId} {id : Nat} {r : MgmtReq} {s : State}

theorem answerPort_of_running (hrun : s.mgmt.buffer = .running id r) (st : MgmtStatus) :
    answerPort st s = s.setMgmt (s.mgmt.portAnswered id r st) := by
  simp only [answerPort, placeResult, State.setMgmt_mgmt, hrun]
  rfl

theorem exec_portReset_of_slot (hop : s.operating = true) (hslot : s.mgmt.portSlot = some (.reset p)) :
    exec .portReset s = .next (takePortReset p s) := by
  change execPortReset s = _
  simp only [execPortReset, whenOperating, hop, if_true, hslot]

theorem exec_portDisable_of_slot (hop : s.operating = true) (hslot : s.mgmt.portSlot = some (.disable p)) :
    exec .portDisable s = .next (takePortDisable p s) := by
  change execPortDisable s = _
  simp only [execPortDisable, whenOperating, hop, if_true, hslot]

theorem exec_portEnable_of_slot (hop : s.operating = true) (hslot : s.mgmt.portSlot = some (.enable p)) :
    exec .portEnable s = .next (takePortEnable p s) := by
  change execPortEnable s = _
  simp only [execPortEnable, whenOperating, hop, if_true, hslot]

/-- Disable pending is set before the teardown begins, so that teardown end disables the port (R174, R177). -/
theorem takePortDisable_of_attached (hattached : (s.link p).state = .attached) :
    takePortDisable p s =
      beginTeardown p .portDisable ((answerPort .ok s).setLink p { s.link p with disablePending := true }) := by
  simp only [takePortDisable, hattached]

theorem takePortDisable_of_detaching (hdetaching : (s.link p).state = .detaching) :
    takePortDisable p s = (answerPort .ok s).setLink p { s.link p with disablePending := true } := by
  simp only [takePortDisable, hdetaching]

theorem takePortDisable_of_noSession (h : (s.link p).state = .idle ∨ (s.link p).state = .offline) :
    takePortDisable p s = (answerPort .ok s).setLink p
      { s.link p with state := .disabled, completionCredits := 0, noticeCredits := 0 } := by
  obtain hidle | hoffline := h
  · simp only [takePortDisable, hidle]
  · simp only [takePortDisable, hoffline]

theorem takePortDisable_of_disabled (hdisabled : (s.link p).state = .disabled) :
    takePortDisable p s = answerPort .ok s := by
  simp only [takePortDisable, hdisabled]

theorem takePortEnable_of_disabled (hdisabled : (s.link p).state = .disabled) :
    takePortEnable p s = (answerPort .ok s).setLink p
      { s.link p with state := if (s.link p).link = .up then .idle else .offline } := by
  simp only [takePortEnable, hdisabled]

theorem takePortEnable_of_detaching (hdetaching : (s.link p).state = .detaching) :
    takePortEnable p s = (answerPort .ok s).setLink p { s.link p with disablePending := false } := by
  simp only [takePortEnable, hdetaching]

theorem takePortEnable_of_enabled
    (h : (s.link p).state = .offline ∨ (s.link p).state = .idle ∨ (s.link p).state = .attached) :
    takePortEnable p s = answerPort .wrongState s := by
  obtain hoffline | hidle | hattached := h
  · simp only [takePortEnable, hoffline]
  · simp only [takePortEnable, hidle]
  · simp only [takePortEnable, hattached]

end

/-- A teardown that began once the request was answered began from the state before, and keeps the answer. -/
theorem beginTeardown_setMgmt_begun (p : PortId) (cause : TeardownCause) (s : State) (m : Mgmt) :
    teardownBegun p cause s (beginTeardown p cause (s.setMgmt m)) ∧
      (beginTeardown p cause (s.setMgmt m)).flight = s.flight ∧ (beginTeardown p cause (s.setMgmt m)).mgmt = m :=
  ⟨beginTeardown_begun p cause (s.setMgmt m), beginTeardown_flight p cause (s.setMgmt m),
    beginTeardown_mgmt p cause (s.setMgmt m)⟩

/-- Settles O11: each request by the rows of its table; where one ends a session, teardown follows the answer. -/
theorem portRequestsFollowPortState : Obligations.PortRequestsFollowPortState := by
  unfold Obligations.PortRequestsFollowPortState
  intro p id r s hop hrun l answered
  have hanswer := answerPort_of_running hrun
  refine ⟨fun hslot => ?reset, fun hslot => ?disable, fun hslot => ?enable⟩
  case reset =>
    rw [exec_portReset_of_slot hop hslot]
    refine ⟨fun hattached => ?_, fun hother => ?_⟩
    · rw [takePortReset, if_pos hattached, hanswer]
      exact ⟨_, rfl, beginTeardown_setMgmt_begun p .portReset s _⟩
    · rw [takePortReset, if_neg hother, hanswer]
      rfl
  case disable =>
    rw [exec_portDisable_of_slot hop hslot]
    refine ⟨fun hattached => ?_, fun hdetaching => ?_, fun hnoSession => ?_, fun hdisabled => ?_⟩
    · rw [takePortDisable_of_attached hattached, hanswer]
      exact ⟨_, rfl, beginTeardown_setMgmt_begun p .portDisable (s.setLink p { l with disablePending := true }) _⟩
    · rw [takePortDisable_of_detaching hdetaching, hanswer]
      rfl
    · rw [takePortDisable_of_noSession hnoSession, hanswer]
      rfl
    · rw [takePortDisable_of_disabled hdisabled, hanswer]
      rfl
  case enable =>
    rw [exec_portEnable_of_slot hop hslot]
    refine ⟨fun hdisabled => ?_, fun hdetaching => ?_, fun henabled => ?_⟩
    · rw [takePortEnable_of_disabled hdisabled, hanswer]
      rfl
    · rw [takePortEnable_of_detaching hdetaching, hanswer]
      rfl
    · rw [takePortEnable_of_enabled henabled, hanswer]
      rfl

end Sys2Proof.Machine
end

section
/-! The Fault Log (R189 to R191): the numbering of its records, and that appending a record, reading one out and
whatever else the Management Interface does keep the log in order; then what the two commands of the log do. -/

namespace Sys2Proof.Machine

/-! ### The numbers that a log in order shows (R189) -/

/-- A log of one record less, without its oldest, goes up to the same counter. -/
theorem expectedSequences_tail {next n : Nat} (hn : n < Config.idSpan) :
    (expectedSequences next (n + 1)).tail = expectedSequences next n := by
  rw [expectedSequences, List.range_succ_eq_map, List.map_cons, List.tail_cons, List.map_map]
  refine List.map_congr_left fun i _ => ?_
  simp only [Function.comp_apply, Nat.succ_eq_add_one]
  congr 1
  omega

/-- One more record with the counter's number, and the counter one further on, modulo 65,536. -/
theorem expectedSequences_append {next n : Nat} (hnext : next < Config.idSpan) (hn : n < Config.idSpan) :
    expectedSequences ((next + 1) % Config.idSpan) (n + 1) = expectedSequences next n ++ [next] := by
  simp only [Config.idSpan] at hnext hn
  rw [expectedSequences, List.range_succ, List.map_append, List.map_singleton]
  simp only [expectedSequences, Config.idSpan]
  congr 1
  · refine List.map_congr_left fun i hi => ?_
    have hin : i < n := List.mem_range.1 hi
    omega
  · congr 1
    omega

/-! ### Appending to the log and taking its oldest record -/

theorem faultLogSize_lt_idSpan : Config.faultLogSize < Config.idSpan := by decide

/-- The records that an append leaves in the log: all of them, or all but the oldest of a full log (R189). -/
def Mgmt.kept (m : Mgmt) : List FaultRecord := if m.log.length < Config.faultLogSize then m.log else m.log.tail

theorem appendFault_log (i : FaultInfo) (m : Mgmt) :
    (appendFault i m).log = m.kept ++ [{ sequence := m.sequence, info := i }] := rfl

section
variable {m : Mgmt} (h : m.logInOrder)
include h

/-- The rest of a log in order goes up to the same counter. -/
theorem Mgmt.logInOrder.tail_sequences {r : FaultRecord} {rest : List FaultRecord} (hlog : m.log = r :: rest) :
    rest.map FaultRecord.sequence = expectedSequences m.sequence rest.length := by
  obtain ⟨hlength, -, hnumbers, -⟩ := h
  rw [hlog, List.length_cons] at hlength hnumbers
  rw [← expectedSequences_tail (Nat.lt_of_succ_le (hlength.trans faultLogSize_lt_idSpan.le)), ← hnumbers,
    List.map_cons, List.tail_cons]

theorem Mgmt.logInOrder.kept_length : m.kept.length < Config.faultLogSize := by
  obtain ⟨hlength, -⟩ := h
  unfold Mgmt.kept
  split
  · assumption
  · rw [List.length_tail]
    simp only [Config.faultLogSize] at *
    omega

theorem Mgmt.logInOrder.kept_sequences :
    m.kept.map FaultRecord.sequence = expectedSequences m.sequence m.kept.length := by
  obtain ⟨-, -, hnumbers, -⟩ := id h
  unfold Mgmt.kept
  split
  · exact hnumbers
  · next hfull =>
    cases hlog : m.log with
    | nil => simp [hlog, Config.faultLogSize] at hfull
    | cons r rest => exact h.tail_sequences hlog

theorem Mgmt.logInOrder.appendFault (i : FaultInfo) : (appendFault i m).logInOrder := by
  have hlength := h.kept_length
  obtain ⟨-, hsequence, -, -⟩ := id h
  refine ⟨?_, Nat.mod_lt _ (by decide), ?_, ?_⟩
  · rw [appendFault_log, List.length_append]
    exact hlength
  · rw [appendFault_log, List.map_append, h.kept_sequences, List.length_append]
    exact (expectedSequences_append hsequence (hlength.trans faultLogSize_lt_idSpan)).symm
  · rw [appendFault_log]
    simp [Machine.appendFault]

/-- The oldest record taken, and ALERT_N released if it was the last (R190, R191). -/
theorem Mgmt.logInOrder.tail {r : FaultRecord} {rest : List FaultRecord} (hlog : m.log = r :: rest) :
    Mgmt.logInOrder { m with log := rest, alert := !rest.isEmpty } := by
  obtain ⟨hlength, hsequence, -, -⟩ := id h
  rw [hlog, List.length_cons] at hlength
  exact ⟨(Nat.le_succ _).trans hlength, hsequence, h.tail_sequences hlog, rfl⟩

end

theorem Mgmt.afterReset_logInOrder : Mgmt.afterReset.logInOrder := ⟨by decide, by decide, rfl, rfl⟩

/-! ### FAULT_RECORD_APPEND and LOG-READ (R189, R190) -/

theorem exec_faultRecordAppend_of_handed {k : Nat} {r : FaultInfo} {s : State} (hop : s.operating = true)
    (hr : s.flight.faults[k]? = some r) :
    exec (.faultRecordAppend k) s = .next
      ((s.setFlight { s.flight with faults := s.flight.faults.eraseIdx k }).setMgmt (appendFault r s.mgmt)) := by
  change execFaultRecordAppend k s = _
  simp only [execFaultRecordAppend, whenOperating, hop, if_true, hr]

/-- The Management Interface once it has taken the request `r`, which is not answered yet (R178). -/
def Mgmt.taken (m : Mgmt) (id : Nat) (r : MgmtReq) : Mgmt := { m with buffer := .running id r, refused := none }

/-- A request that finds the buffer EMPTY or READY is taken, and answered at once or run (R178, R180). -/
theorem takeMgmtRequest_of_not_running {s : State} (hbuffer : ∀ i r, s.mgmt.buffer ≠ .running i r) (id : Nat)
    (r : MgmtReq) :
    takeMgmtRequest id r s =
      if badArgument r s.frames then placeResult .badArgument [] (s.setMgmt (s.mgmt.taken id r))
      else runRequest r (s.setMgmt (s.mgmt.taken id r)) := by
  unfold takeMgmtRequest
  split
  · next i x hrun => exact absurd hrun (hbuffer i x)
  · rfl

theorem placeResult_of_running {id : Nat} {r : MgmtReq} {s : State} (hrun : s.mgmt.buffer = .running id r)
    (st : MgmtStatus) (data : List Byte) :
    placeResult st data s = s.setMgmt { s.mgmt with buffer := .ready id r st data } := by
  simp only [placeResult, hrun]

theorem readLog_of_nil {s : State} (hlog : s.mgmt.log = []) : readLog s = placeResult .ok [] s := by
  simp only [readLog, hlog]

theorem readLog_of_cons {r : FaultRecord} {rest : List FaultRecord} {s : State} (hlog : s.mgmt.log = r :: rest) :
    readLog s = placeResult .ok r.bytes (s.setMgmt { s.mgmt with log := rest, alert := !rest.isEmpty }) := by
  simp only [readLog, hlog]

theorem exec_logRead_of_not_running {s : State} (hop : s.operating = true)
    (hbuffer : ∀ i r, s.mgmt.buffer ≠ .running i r) (id : Nat) :
    exec (.logRead id) s =
      .next (readLog ((requestMiso 2 s).setMgmt ((requestMiso 2 s).mgmt.taken id .logRead))) := by
  change whenOperating s _ = _
  rw [takeMgmtRequest_of_not_running (s := requestMiso 2 s) hbuffer, whenOperating, if_pos hop]
  rfl

/-- Settles O46: an append as `appendFault` says; a LOG-READ by whether the log is empty. -/
theorem faultLogAppendsAndReads : Obligations.FaultLogAppendsAndReads := by
  unfold Obligations.FaultLogAppendsAndReads
  intro s hop
  constructor
  · intro k r hr
    rw [exec_faultRecordAppend_of_handed hop hr]
    rfl
  · intro id hbuffer
    rw [exec_logRead_of_not_running hop hbuffer]
    refine ⟨fun hlog => ?empty, fun r rest hlog => ?oldest⟩
    case empty =>
      rw [readLog_of_nil (by exact hlog), placeResult_of_running (id := id) (r := .logRead) rfl]
      rfl
    case oldest =>
      rw [readLog_of_cons (by exact hlog), placeResult_of_running (id := id) (r := .logRead) rfl]
      rfl

end Sys2Proof.Machine
end

section
/-! Which commands leave the Management Interface alone: every one that its row of `touches` does not give it to. First
the steps of each chapter's commands, then the commands themselves. -/

namespace Sys2Proof.Machine

/-! ### Links and messages (Chapter 9) -/

@[simp] theorem openSession_mgmt (p : PortId) (s : State) : (openSession p s).mgmt = s.mgmt := by
  simp [openSession]

@[simp] theorem takeAttach_mgmt (p : PortId) (s : State) : (takeAttach p s).mgmt = s.mgmt := by
  unfold takeAttach
  split
  · split <;> simp
  all_goals simp

@[simp] theorem takeMalformed_mgmt (p : PortId) (s : State) : (takeMalformed p s).mgmt = s.mgmt := by
  unfold takeMalformed
  split <;> simp

@[simp] theorem takeCredit_mgmt (p : PortId) (a b : Nat) (e : Bool) (s : State) : (takeCredit p a b e s).mgmt = s.mgmt := by
  unfold takeCredit
  dsimp only
  (repeat' split) <;> simp

@[simp] theorem takeRecallAck_mgmt (p : PortId) (rid : Nat) (e : Bool) (s : State) :
    (takeRecallAck p rid e s).mgmt = s.mgmt := by
  unfold takeRecallAck
  (repeat' split) <;> simp

@[simp] theorem takeResetPort_mgmt (p : PortId) (s : State) : (takeResetPort p s).mgmt = s.mgmt := by
  unfold takeResetPort
  split <;> simp

@[simp] theorem takePoolCommand_mgmt (p : PortId) (tag : Nat) (cmd : PoolCmd) (e : Bool) (s : State) :
    (takePoolCommand p tag cmd e s).mgmt = s.mgmt := by
  unfold takePoolCommand
  dsimp only
  (repeat' split) <;> simp

@[simp] theorem acceptRequest_mgmt (p : PortId) (tag : Nat) (kind : ReqKind) (s : State) :
    (acceptRequest p tag kind s).mgmt = s.mgmt := by
  unfold acceptRequest
  dsimp only
  split <;> simp

@[simp] theorem takeRequest_mgmt (p : PortId) (tag : Nat) (kind : ReqKind) (e : Bool) (s : State) :
    (takeRequest p tag kind e s).mgmt = s.mgmt := by
  unfold takeRequest
  dsimp only
  (repeat' split) <;> simp

@[simp] theorem takeMessage_mgmt (p : PortId) (m : HostMsg) (s : State) : (takeMessage p m s).mgmt = s.mgmt := by
  cases m <;> simp [takeMessage]

@[simp] theorem retire_mgmt (p : PortId) (tag : Nat) (s : State) : (retire p tag s).mgmt = s.mgmt := rfl

@[simp] theorem sendCompletion_mgmt (p : PortId) (c : Completion) (rest : List Completion) (s : State) :
    (sendCompletion p c rest s).mgmt = s.mgmt := by
  unfold sendCompletion
  dsimp only
  split <;> simp

@[simp] theorem noticeSent_mgmt (n : Notice) (s : State) : (noticeSent n s).mgmt = s.mgmt := by
  cases n <;> rfl

@[simp] theorem sendNotice_mgmt (p : PortId) (n : Notice) (rest : List Notice) (s : State) :
    (sendNotice p n rest s).mgmt = s.mgmt := by
  simp [sendNotice]

/-! ### Requests and channels (Chapters 6 and 7) -/

@[simp] theorem enqueue_mgmt (c : ChannelId) (r : Round) (a : Access64) (s : State) : (enqueue c r a s).mgmt = s.mgmt := rfl

@[simp] theorem sendLine_mgmt (c : ChannelId) (p : PortId) (r : Round) (s : State) : (sendLine c p r s).mgmt = s.mgmt := by
  unfold sendLine
  split
  · rfl
  · split <;> simp

@[simp] theorem leaveIssued_mgmt (p : PortId) (tag frame : Nat) (got : Gathered) (s : State) :
    (leaveIssued p tag frame got s).mgmt = s.mgmt := by
  unfold leaveIssued
  split <;> simp

@[simp] theorem takeLineResult_mgmt (p : PortId) (r : LineResult) (s : State) : (takeLineResult p r s).mgmt = s.mgmt := by
  unfold takeLineResult
  dsimp only
  (repeat' split) <;> simp

theorem State.onlyDramAndFlight.mgmt {s t : State} (h : s.onlyDramAndFlight t) : t.mgmt = s.mgmt := by
  rw [h]
  rfl

@[simp] theorem handResult_mgmt (a : Access64) (o : AccessOutcome) (s : State) : (handResult a o s).mgmt = s.mgmt :=
  (handResult_onlyDramAndFlight a o s).mgmt

@[simp] theorem readAccess_mgmt (a : Access64) (e : EccCondition) (store : List Byte → Option (List Byte))
    (outcome : List Byte → AccessOutcome) (s : State) : (readAccess a e store outcome s).mgmt = s.mgmt :=
  (readAccess_onlyDramAndFlight store outcome).mgmt

@[simp] theorem sendScrub_mgmt (c : ChannelId) (r : Round) (f : Nat) (s : State) : (sendScrub c r f s).mgmt = s.mgmt := rfl

/-! ### Pool commands (Chapters 3 and 4) -/

@[simp] theorem examineClaim_mgmt (p : PortId) (tag hpn n : Nat) (s : State) :
    (examineClaim p tag hpn n s).mgmt = s.mgmt := by
  unfold examineClaim parkClaim
  (repeat' split) <;> simp

@[simp] theorem examineRelease_mgmt (p : PortId) (tag hpn : Nat) (s : State) :
    (examineRelease p tag hpn s).mgmt = s.mgmt := by
  unfold examineRelease
  (repeat' split) <;> simp

@[simp] theorem recallItem_mgmt (f : Nat) (i : MapItem) (x : RecallReason) (n : Bool) (o : Option (PortId × Nat))
    (s : State) : (recallItem f i x n o s).mgmt = s.mgmt := by
  simp [recallItem]

@[simp] theorem examineDrop_mgmt (p : PortId) (tag hpn : Nat) (s : State) : (examineDrop p tag hpn s).mgmt = s.mgmt := by
  unfold examineDrop
  (repeat' split) <;> simp

@[simp] theorem makeOffer_mgmt (p : PortId) (tag hpn f : Nat) (t : PortId) (a : Access) (s : State) :
    (makeOffer p tag hpn f t a s).mgmt = s.mgmt := by
  simp [makeOffer]

@[simp] theorem examineGrant_mgmt (p : PortId) (tag hpn target : Nat) (a : Access) (s : State) :
    (examineGrant p tag hpn target a s).mgmt = s.mgmt := by
  unfold examineGrant
  (repeat' split) <;> simp

@[simp] theorem takeUpOffer_mgmt (o : Offer) (s : State) : (takeUpOffer o s).mgmt = s.mgmt := by
  simp [takeUpOffer]

@[simp] theorem examineAccept_mgmt (p : PortId) (tag gid hpn : Nat) (s : State) :
    (examineAccept p tag gid hpn s).mgmt = s.mgmt := by
  unfold examineAccept
  dsimp only
  (repeat' split) <;> simp

@[simp] theorem examineDecline_mgmt (p : PortId) (tag gid : Nat) (s : State) :
    (examineDecline p tag gid s).mgmt = s.mgmt := by
  unfold examineDecline
  split <;> simp

@[simp] theorem revokeFrom_mgmt (p : PortId) (tag f : Nat) (t : PortId) (s : State) :
    (revokeFrom p tag f t s).mgmt = s.mgmt := by
  unfold revokeFrom
  (repeat' split) <;> simp

@[simp] theorem examineRevoke_mgmt (p : PortId) (tag hpn target : Nat) (s : State) :
    (examineRevoke p tag hpn target s).mgmt = s.mgmt := by
  unfold examineRevoke
  (repeat' split) <;> simp

/-! ### The other events of the engine and of the Recall Unit (Chapters 1, 3, 5 and 8) -/

@[simp] theorem teardownOffer_mgmt (p : PortId) (fill : Bool) (s : State) (o : Offer) :
    (teardownOffer p fill s o).mgmt = s.mgmt := by
  unfold teardownOffer
  split <;> simp

@[simp] theorem fillAllPending_mgmt (s : State) : (fillAllPending s).mgmt = s.mgmt :=
  foldl_keeps State.mgmt _ (fun s p => fillPendingTimes_mgmt p _ s) _ _

@[simp] theorem takeTeardown_mgmt (p : PortId) (s : State) : (takeTeardown p s).mgmt = s.mgmt := by
  rw [takeTeardown, State.setEngine_mgmt, fillAllPending_mgmt,
    foldl_keeps State.mgmt _ (fun s o => teardownOffer_mgmt p _ s o), removeClaims_mgmt]
  rfl

@[simp] theorem setScan_mgmt (p : PortId) (x : ScanState) (s : State) : (setScan p x s).mgmt = s.mgmt := rfl

@[simp] theorem scanPast_mgmt (p : PortId) (f : Nat) (s : State) : (scanPast p f s).mgmt = s.mgmt := by
  unfold scanPast
  split <;> simp

@[simp] theorem scanFrame_mgmt (p : PortId) (f : Nat) (i : MapItem) (s : State) : (scanFrame p f i s).mgmt = s.mgmt := by
  unfold scanFrame
  cases i.role <;> dsimp only <;> split <;> simp

@[simp] theorem scanTurn_mgmt (p : PortId) (n : Nat) (s : State) : (scanTurn p n s).mgmt = s.mgmt := by
  unfold scanTurn
  dsimp only
  split <;> simp

@[simp] theorem forceRecall_mgmt (r : RecallRecord) (s : State) : (forceRecall r s).mgmt = s.mgmt := by
  unfold forceRecall
  dsimp only
  split <;> simp

@[simp] theorem removeReader_mgmt (f : Nat) (p : PortId) (s : State) : (removeReader f p s).mgmt = s.mgmt := by
  unfold removeReader
  dsimp only
  (repeat' split) <;> simp

@[simp] theorem takeCompletion_mgmt (r : RecallRecord) (s : State) : (takeCompletion r s).mgmt = s.mgmt := by
  unfold takeCompletion
  cases r.role <;> dsimp only <;> split <;> simp

@[simp] theorem countCorrectable_mgmt (f : Nat) (s : State) : (countCorrectable f s).mgmt = s.mgmt := by
  unfold countCorrectable
  dsimp only
  split <;> simp

@[simp] theorem scrubOutcome_mgmt (f : Nat) (s : State) : (scrubOutcome f s).mgmt = s.mgmt := by
  unfold scrubOutcome
  dsimp only
  split <;> simp

@[simp] theorem takeScrubEnd_mgmt (f : Nat) (s : State) : (takeScrubEnd f s).mgmt = s.mgmt := by
  unfold takeScrubEnd
  dsimp only
  split <;> simp

/-! ### Map accesses and repairs (Chapter 2) -/

@[simp] theorem claimWritePerformed_mgmt (p : PortId) (tag : Nat) (s : State) :
    (claimWritePerformed p tag s).mgmt = s.mgmt := by
  unfold claimWritePerformed
  (repeat' split) <;> simp

@[simp] theorem reportPerformed_mgmt (w : MapWrite) (s : State) : (reportPerformed w s).mgmt = s.mgmt := by
  unfold reportPerformed
  split <;> simp

@[simp] theorem endSuperseded_mgmt (w : QueuedWrite) (s : State) : (endSuperseded w s).mgmt = s.mgmt := by
  unfold endSuperseded
  split <;> simp

@[simp] theorem markStale_mgmt (p : PortId) (hpn : Nat) (s : State) : (markStale p hpn s).mgmt = s.mgmt := by
  unfold markStale
  split <;> simp

@[simp] theorem performWrite_mgmt (w : QueuedWrite) (s : State) : (performWrite w s).mgmt = s.mgmt := by
  simp [performWrite]

@[simp] theorem sendMapWrite_mgmt (r : Round) (w : QueuedWrite) (s : State) : (sendMapWrite r w s).mgmt = s.mgmt := by
  simp [sendMapWrite]

@[simp] theorem sendMapRead_mgmt (x : Round) (r : MapRead) (s : State) : (sendMapRead x r s).mgmt = s.mgmt := rfl

@[simp] theorem sendMapAccess_mgmt (r : Round) (s : State) : (sendMapAccess r s).mgmt = s.mgmt := by
  unfold sendMapAccess
  (repeat' split) <;> simp

@[simp] theorem endMapClear_mgmt (s : State) : (endMapClear s).mgmt = s.mgmt := by
  simp [endMapClear]

@[simp] theorem startRepair_mgmt (p : PortId) (hpn : Nat) (s : State) : (startRepair p hpn s).mgmt = s.mgmt := by
  simp [startRepair]

@[simp] theorem takeMapResult_mgmt (p : PortId) (hpn : Nat) (v : Option MapValue) (s : State) :
    (takeMapResult p hpn v s).mgmt = s.mgmt := by
  unfold takeMapResult
  (repeat' split) <;> simp

@[simp] theorem finishSearch_mgmt (r : Repair) (rest : List Repair) (v : MapValue) (s : State) :
    (finishSearch r rest v s).mgmt = s.mgmt := by
  simp [finishSearch]

/-! ### The commands -/

/-- If the outcome is a next state, its Management Interface is the one of `s`. -/
def leavesMgmt (s : State) (o : Host.Outcome State Fault Refusal) : Prop := ∀ t, o = .next t → t.mgmt = s.mgmt

theorem leavesMgmt_next {s t : State} (h : t.mgmt = s.mgmt) : leavesMgmt s (.next t) := by
  intro u hu
  cases hu
  exact h

theorem leavesMgmt_whenOperating {s t : State} (h : t.mgmt = s.mgmt) : leavesMgmt s (whenOperating s t) := by
  refine leavesMgmt_next ?_
  split
  · exact h
  · rfl

theorem leavesMgmt_onArrival (p : PortId) {s t : State} (h : t.mgmt = s.mgmt) : leavesMgmt s (onArrival p s t) := by
  refine leavesMgmt_whenOperating ?_
  split
  · exact h
  · rfl

theorem leavesMgmt_onEngine {s t : State} (h : t.mgmt = s.mgmt) : leavesMgmt s (onEngine s t) := by
  refine leavesMgmt_whenOperating ?_
  split
  · exact h
  · rfl

theorem leavesMgmt_carryOut (c : ChannelId) (i : Nat) (a : Access64) {f : State → State}
    (hf : ∀ s, (f s).mgmt = s.mgmt) (s : State) : leavesMgmt s (carryOut c i a f s) := by
  unfold carryOut
  split
  · exact leavesMgmt_next (hf _)
  · intro t ht
    cases ht

theorem execChannelRead_leavesMgmt (c : ChannelId) (k : Nat) (e : EccCondition) (s : State) :
    leavesMgmt s (execChannelRead c k e s) := by
  unfold execChannelRead
  (repeat' split) <;> simp [leavesMgmt_carryOut, leavesMgmt_next]

theorem execChannelFullWrite_leavesMgmt (c : ChannelId) (k : Nat) (s : State) :
    leavesMgmt s (execChannelFullWrite c k s) := by
  unfold execChannelFullWrite
  (repeat' split) <;> simp [leavesMgmt_carryOut, leavesMgmt_next]

theorem execChannelPartialWrite_leavesMgmt (c : ChannelId) (k : Nat) (e : EccCondition) (s : State) :
    leavesMgmt s (execChannelPartialWrite c k e s) := by
  unfold execChannelPartialWrite
  (repeat' split) <;> simp [leavesMgmt_carryOut, leavesMgmt_next]

theorem execChannelCswap_leavesMgmt (c : ChannelId) (k : Nat) (e : EccCondition) (s : State) :
    leavesMgmt s (execChannelCswap c k e s) := by
  unfold execChannelCswap
  (repeat' split) <;> simp [leavesMgmt_carryOut, leavesMgmt_next]

/-- A command that is not given the Management Interface leaves it as it is. -/
theorem exec_leavesMgmt {c : Instr} (hc : Block.mgmt ∉ touches c) (s : State) : leavesMgmt s (exec c s) := by
  cases c
  case supplyFail => exact leavesMgmt_next rfl
  case resetNRelease =>
    refine leavesMgmt_next ?_
    dsimp only
    (repeat' split) <;> rfl
  case attach => exact leavesMgmt_onArrival _ (takeAttach_mgmt ..)
  case credit => exact leavesMgmt_onArrival _ (takeCredit_mgmt ..)
  case recallAck => exact leavesMgmt_onArrival _ (takeRecallAck_mgmt ..)
  case resetPort => exact leavesMgmt_onArrival _ (takeResetPort_mgmt ..)
  case commandArrival => exact leavesMgmt_onArrival _ (takePoolCommand_mgmt ..)
  case read | write | cswap | fence | flush | detach => exact leavesMgmt_onArrival _ (takeRequest_mgmt ..)
  case malformedMessage =>
    refine leavesMgmt_onArrival _ ?_
    split <;> simp
  case claim | release | drop | grant | accept | decline | revoke =>
    refine leavesMgmt_whenOperating ?_
    split <;> simp [serveCommand]
  case engineTakesTeardown | claimDeadline | offerDeadline | recallCompletionReport | scrubEndReport | correctableReport =>
    refine leavesMgmt_onEngine ?_
    (repeat' split) <;> simp
  case uncorrectableReport =>
    refine leavesMgmt_onEngine ?_
    dsimp only
    (repeat' split) <;> simp
  case trainingCompletes | linkDown | completionSend | noticeSend =>
    refine leavesMgmt_whenOperating ?_
    dsimp only
    (repeat' split) <;> simp
  case farEndDetected | trainingFails | teardownScan | recallDeadline | repairSearchStep | mapAccessGrant |
      mapClearWrite | portAccessGrant | scrubAccessGrant | mapReadResult | lineResult | scrubResult =>
    refine leavesMgmt_whenOperating ?_
    (repeat' split) <;> simp
  case channelRead c k e => exact execChannelRead_leavesMgmt c k e s
  case channelFullWrite c k => exact execChannelFullWrite_leavesMgmt c k s
  case channelPartialWrite c k e => exact execChannelPartialWrite_leavesMgmt c k e s
  case channelCswap c k e => exact execChannelCswap_leavesMgmt c k e s
  all_goals exact absurd (by simp [touches]) hc

end Sys2Proof.Machine
end

section
/-! Every step keeps the Fault Log in order (R189, R191): what the answers to management requests, the resets and the
two commands of the log leave of it, and for every other command that it leaves the Management Interface alone. -/

namespace Sys2Proof.Machine

/-! ### Resets (R148, R158) -/

theorem discardAccess_mgmt (s : State) (a : Access64) : (discardAccess s a).mgmt = s.mgmt := by
  unfold discardAccess
  dsimp only
  (repeat' split) <;> rfl

theorem discardAccesses_mgmt (s : State) : (discardAccesses s).mgmt = s.mgmt :=
  foldl_keeps State.mgmt (fun s (ch : Channel) => ch.queue.foldl discardAccess s)
    (fun s ch => foldl_keeps State.mgmt _ discardAccess_mgmt ch.queue s) _ _

theorem resetBlocks_mgmt (pop : Population) (startUp : Bool) (s : State) : (resetBlocks pop startUp s).mgmt = s.mgmt :=
  rfl

/-! ### EVICT, QUARANTINE and RETURN by the frame's state (R14, R15, R186) -/

/-- `s` with frame `f` taken off the Scrub Queue. -/
def State.offScrubQueue (s : State) (f : Nat) : State :=
  s.setScrub { s.scrub with queue := s.scrub.queue.filter fun g => !(g == f) }

section
variable {f : Nat} {s : State}

theorem takeEvict_of_lent (h : (s.record f).state = .held ∨ (s.record f).state = .shared) :
    takeEvict f s = evictFrame f false s := by
  obtain hheld | hshared := h
  · simp only [takeEvict, hheld]
  · simp only [takeEvict, hshared]

theorem takeEvict_of_not_lent (h : ¬((s.record f).state = .held ∨ (s.record f).state = .shared)) :
    takeEvict f s = answerSlot .wrongState [] s := by
  unfold takeEvict
  cases hstate : (s.record f).state with
  | held => exact absurd (.inl hstate) h
  | shared => exact absurd (.inr hstate) h
  | reserved | free | scrubbing | recalling | quarantined => rfl

theorem takeQuarantine_of_free (h : (s.record f).state = .free) :
    takeQuarantine f s = quarantineFrame f .management (answerSlot .ok [] (s.offFreeList f)) := by
  simp only [takeQuarantine, h]
  rfl

theorem takeQuarantine_of_current (h : (s.record f).state = .scrubbing) (hcurrent : s.scrub.current = some f) :
    takeQuarantine f s = takeScrub (quarantineFrame f .management (scrubIdle (answerSlot .ok [] s))) := by
  simp only [takeQuarantine, h, if_pos hcurrent]
  rfl

theorem takeQuarantine_of_queued (h : (s.record f).state = .scrubbing) (hcurrent : s.scrub.current ≠ some f) :
    takeQuarantine f s = quarantineFrame f .management (answerSlot .ok [] (s.offScrubQueue f)) := by
  simp only [takeQuarantine, h, if_neg hcurrent]
  rfl

theorem takeQuarantine_of_lent (h : (s.record f).state = .held ∨ (s.record f).state = .shared) :
    takeQuarantine f s = evictFrame f true s := by
  obtain hheld | hshared := h
  · simp only [takeQuarantine, hheld]
  · simp only [takeQuarantine, hshared]

theorem takeQuarantine_of_recalling (h : (s.record f).state = .recalling) :
    takeQuarantine f s = answerSlot .ok [] (s.setRecord f { s.record f with quarantineOnExit := true }) := by
  simp only [takeQuarantine, h]

theorem takeQuarantine_of_quarantined (h : (s.record f).state = .quarantined) :
    takeQuarantine f s = answerSlot .ok [] s := by
  simp only [takeQuarantine, h]

theorem takeQuarantine_of_reserved (h : (s.record f).state = .reserved) :
    takeQuarantine f s = answerSlot .wrongState [] s := by
  simp only [takeQuarantine, h]

theorem takeReturn_of_quarantined (h : (s.record f).state = .quarantined) :
    takeReturn f s = joinScrub f (answerSlot .ok []
      (s.setRecord f { s.record f with state := .scrubbing, damaged := false, count := 0 })) :=
  if_pos h

theorem takeReturn_of_not_quarantined (h : (s.record f).state ≠ .quarantined) :
    takeReturn f s = answerSlot .wrongState [] s :=
  if_neg h

end

/-! ### Answering a request (R178, R180) -/

section
variable {s : State} (h : s.mgmt.logInOrder)
include h

theorem placeResult_logInOrder (st : MgmtStatus) (data : List Byte) : (placeResult st data s).mgmt.logInOrder := by
  unfold placeResult
  split <;> exact h

theorem answerSlot_logInOrder (st : MgmtStatus) (data : List Byte) : (answerSlot st data s).mgmt.logInOrder :=
  placeResult_logInOrder (s := movePointer 4 (s.setEngine { s.engine with slot := none })) h st data

theorem answerPort_logInOrder (st : MgmtStatus) : (answerPort st s).mgmt.logInOrder :=
  placeResult_logInOrder (s := s.setMgmt { s.mgmt with portSlot := none }) h st []

theorem writeSetting_logInOrder (x : Settings) : (writeSetting x s).mgmt.logInOrder :=
  placeResult_logInOrder (s := s.setMgmt { s.mgmt with settings := x }) h .ok []

theorem readLog_logInOrder : (readLog s).mgmt.logInOrder := by
  cases hlog : s.mgmt.log with
  | nil =>
    rw [readLog_of_nil hlog]
    exact placeResult_logInOrder h .ok []
  | cons r rest =>
    rw [readLog_of_cons hlog]
    exact placeResult_logInOrder (s := s.setMgmt _) (h.tail hlog) .ok r.bytes

/-- CHIP-RESET keeps the log and appends a CHIP_RESET record to it (R188). -/
theorem chipReset_logInOrder : (chipReset s).mgmt.logInOrder := by
  have hmgmt : (resetBlocks s.pop true (discardAccesses s)).mgmt = s.mgmt :=
    (resetBlocks_mgmt ..).trans (discardAccesses_mgmt s)
  refine placeResult_logInOrder (s := State.setMgmt _ _) ?_ .ok []
  rw [State.setMgmt_mgmt, hmgmt]
  exact h.appendFault .chipReset

theorem runRequest_logInOrder (r : MgmtReq) : (runRequest r s).mgmt.logInOrder := by
  cases r
  case setQuota | setWeight | setTimeout | setThreshold => exact writeSetting_logInOrder h _
  case logRead => exact readLog_logInOrder h
  case chipReset => exact chipReset_logInOrder h
  case malformed => exact placeResult_logInOrder h .badArgument []
  all_goals exact h

theorem takeMgmtRequest_logInOrder (id : Nat) (r : MgmtReq) : (takeMgmtRequest id r s).mgmt.logInOrder := by
  have htaken : (s.setMgmt (s.mgmt.taken id r)).mgmt.logInOrder := h
  unfold takeMgmtRequest
  split
  · exact h
  · dsimp only
    split
    · exact placeResult_logInOrder htaken .badArgument []
    · exact runRequest_logInOrder htaken r

/-! ### Requests for a frame and for a port (R174, R186) -/

theorem evictFrame_logInOrder (f : Nat) (q : Bool) : (evictFrame f q s).mgmt.logInOrder := by
  unfold evictFrame
  split
  · exact answerSlot_logInOrder h .busy []
  · rw [enterRecalling_mgmt]
    exact answerSlot_logInOrder h .ok []

theorem takeEvict_logInOrder (f : Nat) : (takeEvict f s).mgmt.logInOrder := by
  by_cases hlent : (s.record f).state = .held ∨ (s.record f).state = .shared
  · rw [takeEvict_of_lent hlent]
    exact evictFrame_logInOrder h f false
  · rw [takeEvict_of_not_lent hlent]
    exact answerSlot_logInOrder h .wrongState []

theorem takeQuarantine_logInOrder (f : Nat) : (takeQuarantine f s).mgmt.logInOrder := by
  cases hstate : (s.record f).state with
  | free =>
    rw [takeQuarantine_of_free hstate, quarantineFrame_mgmt]
    exact answerSlot_logInOrder (s := s.offFreeList f) h .ok []
  | scrubbing =>
    by_cases hcurrent : s.scrub.current = some f
    · rw [takeQuarantine_of_current hstate hcurrent, takeScrub_mgmt, quarantineFrame_mgmt, scrubIdle_mgmt]
      exact answerSlot_logInOrder h .ok []
    · rw [takeQuarantine_of_queued hstate hcurrent, quarantineFrame_mgmt]
      exact answerSlot_logInOrder (s := s.offScrubQueue f) h .ok []
  | held =>
    rw [takeQuarantine_of_lent (.inl hstate)]
    exact evictFrame_logInOrder h f true
  | shared =>
    rw [takeQuarantine_of_lent (.inr hstate)]
    exact evictFrame_logInOrder h f true
  | recalling =>
    rw [takeQuarantine_of_recalling hstate]
    exact answerSlot_logInOrder (s := s.setRecord f _) h .ok []
  | quarantined =>
    rw [takeQuarantine_of_quarantined hstate]
    exact answerSlot_logInOrder h .ok []
  | reserved =>
    rw [takeQuarantine_of_reserved hstate]
    exact answerSlot_logInOrder h .wrongState []

theorem takeReturn_logInOrder (f : Nat) : (takeReturn f s).mgmt.logInOrder := by
  by_cases hstate : (s.record f).state = .quarantined
  · rw [takeReturn_of_quarantined hstate, joinScrub_mgmt]
    exact answerSlot_logInOrder (s := s.setRecord f _) h .ok []
  · rw [takeReturn_of_not_quarantined hstate]
    exact answerSlot_logInOrder h .wrongState []

theorem takePortReset_logInOrder (p : PortId) : (takePortReset p s).mgmt.logInOrder := by
  unfold takePortReset
  split
  · rw [beginTeardown_mgmt]
    exact answerPort_logInOrder h .ok
  · exact answerPort_logInOrder h .wrongState

theorem takePortDisable_logInOrder (p : PortId) : (takePortDisable p s).mgmt.logInOrder := by
  have hanswer := answerPort_logInOrder h .ok
  cases hstate : (s.link p).state with
  | attached => rwa [takePortDisable_of_attached hstate, beginTeardown_mgmt, State.setLink_mgmt]
  | detaching => rwa [takePortDisable_of_detaching hstate, State.setLink_mgmt]
  | idle => rwa [takePortDisable_of_noSession (.inl hstate), State.setLink_mgmt]
  | offline => rwa [takePortDisable_of_noSession (.inr hstate), State.setLink_mgmt]
  | disabled => rwa [takePortDisable_of_disabled hstate]

theorem takePortEnable_logInOrder (p : PortId) : (takePortEnable p s).mgmt.logInOrder := by
  cases hstate : (s.link p).state with
  | disabled =>
    rw [takePortEnable_of_disabled hstate, State.setLink_mgmt]
    exact answerPort_logInOrder h .ok
  | detaching =>
    rw [takePortEnable_of_detaching hstate, State.setLink_mgmt]
    exact answerPort_logInOrder h .ok
  | offline | idle | attached =>
    rw [takePortEnable_of_enabled (by simp [hstate])]
    exact answerPort_logInOrder h .wrongState

end

/-! ### The commands -/

/-- If the outcome is a next state, its Fault Log is in order. -/
def logInOrderAfter (o : Host.Outcome State Fault Refusal) : Prop := ∀ t, o = .next t → t.mgmt.logInOrder

theorem logInOrderAfter_next {t : State} (h : t.mgmt.logInOrder) : logInOrderAfter (.next t) := by
  intro u hu
  cases hu
  exact h

section
variable {s : State} (h : s.mgmt.logInOrder)
include h

theorem logInOrderAfter_whenOperating {t : State} (ht : t.mgmt.logInOrder) : logInOrderAfter (whenOperating s t) := by
  refine logInOrderAfter_next ?_
  split
  · exact ht
  · exact h

/-- Each command that is given the Management Interface: a reset, an append, a transaction, or a request answered. -/
theorem exec_keeps_logInOrder_of_mgmt {c : Instr} (hc : Block.mgmt ∈ touches c) : logInOrderAfter (exec c s) := by
  cases c
  case powerOn => exact logInOrderAfter_next Mgmt.afterReset_logInOrder
  case resetNAssert =>
    refine logInOrderAfter_next ?_
    split
    · exact Mgmt.afterReset_logInOrder
    · exact h
  case faultRecordAppend =>
    refine logInOrderAfter_whenOperating h ?_
    split
    · exact h.appendFault _
    · exact h
  case mgmtRequestTransaction bytes =>
    refine logInOrderAfter_whenOperating h ?_
    split
    · exact h
    · exact h
    · exact takeMgmtRequest_logInOrder (s := requestMiso bytes.length s) h _ _
  case resultTransaction =>
    refine logInOrderAfter_whenOperating h ?_
    split <;> exact h
  case setQuota => exact logInOrderAfter_whenOperating h (takeMgmtRequest_logInOrder (s := requestMiso 5 s) h _ _)
  case setWeight => exact logInOrderAfter_whenOperating h (takeMgmtRequest_logInOrder (s := requestMiso 4 s) h _ _)
  case setTimeout => exact logInOrderAfter_whenOperating h (takeMgmtRequest_logInOrder (s := requestMiso 5 s) h _ _)
  case setThreshold => exact logInOrderAfter_whenOperating h (takeMgmtRequest_logInOrder (s := requestMiso 3 s) h _ _)
  case logRead | chipReset =>
    exact logInOrderAfter_whenOperating h (takeMgmtRequest_logInOrder (s := requestMiso 2 s) h _ _)
  case getPoolStatus | getPortStatus | queryFrame =>
    refine logInOrderAfter_whenOperating h ?_
    split
    · exact answerSlot_logInOrder h _ _
    · exact h
  case evict =>
    refine logInOrderAfter_whenOperating h ?_
    split
    · exact takeEvict_logInOrder h _
    · exact h
  case quarantine =>
    refine logInOrderAfter_whenOperating h ?_
    split
    · exact takeQuarantine_logInOrder h _
    · exact h
  case returnFrame =>
    refine logInOrderAfter_whenOperating h ?_
    split
    · exact takeReturn_logInOrder h _
    · exact h
  case portReset =>
    refine logInOrderAfter_whenOperating h ?_
    split
    · exact takePortReset_logInOrder h _
    · exact h
  case portDisable =>
    refine logInOrderAfter_whenOperating h ?_
    split
    · exact takePortDisable_logInOrder h _
    · exact h
  case portEnable =>
    refine logInOrderAfter_whenOperating h ?_
    split
    · exact takePortEnable_logInOrder h _
    · exact h
  all_goals exact absurd hc (by simp [touches, teardownBlockList])

theorem exec_keeps_logInOrder (c : Instr) : logInOrderAfter (exec c s) := by
  by_cases hc : Block.mgmt ∈ touches c
  · exact exec_keeps_logInOrder_of_mgmt h hc
  · intro t ht
    rw [exec_leavesMgmt hc s t ht]
    exact h

end

/-- Settles O53: an idle step leaves the Management Interface as it is, and a command keeps the log in order, whether it
is given the Management Interface or not. -/
theorem stepKeepsFaultLogInOrder : Obligations.StepKeepsFaultLogInOrder := by
  unfold Obligations.StepKeepsFaultLogInOrder
  intro s t hstep h
  unfold step at hstep
  split at hstep
  · cases hstep
    exact h
  · next c rest _ => exact exec_keeps_logInOrder (s := { s with pending := rest }) h c t hstep

end Sys2Proof.Machine
end

section
/-! Withdrawing offers and recalling a frame (R10, R80, R88 to R93): what each recall record and each withdrawn offer
tells the ports and leaves unchanged, and from these what a frame's entry into RECALLING does. -/

namespace Sys2Proof.Machine

/-! ### What the ports are told -/

/-- No OFFER notice of the offer `gid` stands in the Notice Queue of `p`. -/
def State.noOfferNotice (s : State) (p : PortId) (gid : Nat) : Prop := ∀ n ∈ (s.link p).notices, n.isOffer gid = false

/-- From `s` to `t` the ports were told of recalls and of the ends of offers: every port state stays, no completion
leaves an outbound order, and no OFFER notice joins a queue. -/
structure PortsTold (s t : State) : Prop where
  state : ∀ p, (t.link p).state = (s.link p).state
  outbound : ∀ p, (s.link p).outbound ⊆ (t.link p).outbound
  noOffer : ∀ p gid, s.noOfferNotice p gid → t.noOfferNotice p gid

theorem PortsTold.of_links {s t : State} (h : t.links = s.links) : PortsTold s t := by
  have hlink : ∀ p, t.link p = s.link p := fun p => congrArg (Quad.get · p) h
  refine ⟨fun p => by rw [hlink], fun p => by rw [hlink]; exact fun _ => id, fun p gid hs => ?_⟩
  rwa [State.noOfferNotice, hlink]

theorem PortsTold.trans {s t u : State} (h : PortsTold s t) (h' : PortsTold t u) : PortsTold s u where
  state p := (h'.state p).trans (h.state p)
  outbound p := List.Subset.trans (h.outbound p) (h'.outbound p)
  noOffer p gid hs := h'.noOffer p gid (h.noOffer p gid hs)

/-- An event that changes only the notices of `p`, and puts no OFFER notice there. -/
theorem PortsTold.of_noticesOnly {p : PortId} {s t : State} (h : NoticesOnly p s t)
    (hnew : ∀ n ∈ (t.link p).notices, n ∈ (s.link p).notices ∨ ∀ gid, n.isOffer gid = false) : PortsTold s t := by
  have hother : ∀ q, q = p ∨ t.link q = s.link q := fun q => or_iff_not_imp_left.2 (h.otherLinks q)
  refine ⟨fun q => ?state, fun q => ?outbound, fun q gid hs => ?noOffer⟩
  case state =>
    obtain rfl | hq := hother q
    · rw [h.link]
    · rw [hq]
  case outbound =>
    obtain rfl | hq := hother q
    · rw [h.link]
      exact fun _ => id
    · rw [hq]
      exact fun _ => id
  case noOffer =>
    obtain rfl | hq := hother q
    · exact fun n hn => (hnew n hn).elim (hs n) fun hnever => hnever gid
    · rwa [State.noOfferNotice, hq]

theorem NoticesOnly.link_notices_ne {p q : PortId} {s t : State} (h : NoticesOnly p s t) (hq : q ≠ p) :
    (t.link q).notices = (s.link q).notices := by
  rw [h.otherLinks q hq]

theorem RecallRecord.isOffer_notice (r : RecallRecord) (gid : Nat) : r.notice.isOffer gid = false := rfl

theorem appendNotice_noticesOnly (p : PortId) (n : Notice) (s : State) : NoticesOnly p s (appendNotice p n s) :=
  NoticesOnly.setNotices p _ s

theorem appendNotice_notices (p : PortId) (n : Notice) (s : State) :
    ((appendNotice p n s).link p).notices = (s.link p).notices ++ [n] :=
  congrArg LinkPort.notices (State.setLink_link_same ..)

theorem appendNotice_told {n : Notice} (hn : ∀ gid, n.isOffer gid = false) (p : PortId) (s : State) :
    PortsTold s (appendNotice p n s) := by
  refine .of_noticesOnly (appendNotice_noticesOnly p n s) fun m hm => ?_
  rw [appendNotice_notices, List.mem_append, List.mem_singleton] at hm
  obtain hold | rfl := hm
  · exact .inl hold
  · exact .inr hn

theorem removeNotice_notices (p : PortId) (isIt : Notice → Bool) (s : State) :
    ((removeNotice p isIt s).link p).notices = (s.link p).notices.filter fun n => !isIt n :=
  congrArg LinkPort.notices (State.setLink_link_same ..)

/-- A notice that stands in the queue after one was removed and its place filled stood there before and was not the
one removed, or is no OFFER notice. -/
theorem removeNoticeAndFill_notices {p : PortId} {isIt : Notice → Bool} {s : State} {n : Notice}
    (hn : n ∈ ((removeNoticeAndFill p isIt s).link p).notices) :
    (n ∈ (s.link p).notices ∧ isIt n = false) ∨ ∀ gid, n.isOffer gid = false := by
  unfold removeNoticeAndFill at hn
  split at hn
  · obtain hold | ⟨-, -, r, -, rfl⟩ := fillPending_notices hn
    · rw [removeNotice_notices, List.mem_filter] at hold
      exact .inl ⟨hold.1, by simpa using hold.2⟩
    · exact .inr r.isOffer_notice
  · next hnone => exact .inl ⟨hn, by simpa using fun h => hnone (List.any_eq_true.2 ⟨n, hn, h⟩)⟩

theorem removeNoticeAndFill_told (p : PortId) (isIt : Notice → Bool) (s : State) :
    PortsTold s (removeNoticeAndFill p isIt s) :=
  .of_noticesOnly (removeNoticeAndFill_noticesOnly p isIt s) fun _ hn =>
    (removeNoticeAndFill_notices hn).imp And.left id

/-! ### Handing a completion over (R169) -/

theorem handOver_of_attached {p : PortId} {s : State} (h : (s.link p).state = .attached) (c : Completion) :
    handOver p c s = s.setLink p { s.link p with outbound := (s.link p).outbound ++ [c] } :=
  if_pos h

theorem handOver_of_not_attached {p : PortId} {s : State} (h : (s.link p).state ≠ .attached) (c : Completion) :
    handOver p c s = s :=
  if_neg h

theorem handOver_engine (p : PortId) (c : Completion) (s : State) : (handOver p c s).engine = s.engine := by
  unfold handOver
  split <;> rfl

theorem handOver_recalls (p : PortId) (c : Completion) (s : State) : (handOver p c s).recalls = s.recalls := by
  unfold handOver
  split <;> rfl

theorem handOver_mem_outbound {p : PortId} {s : State} (h : (s.link p).state = .attached) (c : Completion) :
    c ∈ ((handOver p c s).link p).outbound := by
  rw [handOver_of_attached h, State.setLink_link_same]
  exact List.mem_append_right _ (List.mem_singleton_self c)

/-- Of the Link Ports a completion handed over changes only one outbound order, which gains it. -/
theorem handOver_link (p : PortId) (c : Completion) (s : State) (q : PortId) :
    ∃ cs, (handOver p c s).link q = { s.link q with outbound := (s.link q).outbound ++ cs } := by
  have hsame : s.link q = { s.link q with outbound := (s.link q).outbound ++ [] } := by rw [List.append_nil]
  by_cases h : (s.link p).state = .attached
  · rw [handOver_of_attached h]
    by_cases hq : q = p
    · subst hq
      exact ⟨[c], State.setLink_link_same ..⟩
    · rw [State.setLink_link_ne _ _ hq]
      exact ⟨[], hsame⟩
  · rw [handOver_of_not_attached h]
    exact ⟨[], hsame⟩

theorem handOver_notices (p : PortId) (c : Completion) (s : State) (q : PortId) :
    ((handOver p c s).link q).notices = (s.link q).notices := by
  obtain ⟨cs, h⟩ := handOver_link p c s q
  rw [h]

theorem handOver_told (p : PortId) (c : Completion) (s : State) : PortsTold s (handOver p c s) := by
  refine ⟨fun q => ?_, fun q => ?_, fun q gid hs => ?_⟩
  · obtain ⟨cs, h⟩ := handOver_link p c s q
    rw [h]
  · obtain ⟨cs, h⟩ := handOver_link p c s q
    rw [h]
    exact List.subset_append_left ..
  · rwa [State.noOfferNotice, handOver_notices]

/-! ### The recall records of a frame (R88 to R92) -/

/-- What a recall record was made for: its frame, item, reason and notify, which no later event changes. -/
def RecallRecord.purpose (r : RecallRecord) : Nat × PortId × Nat × Role × RecallReason × Bool :=
  (r.frame, r.port, r.hpn, r.role, r.reason, r.notify)

/-- The purposes of the records in the Recall Table, in its order. -/
def State.purposes (s : State) : List (Nat × PortId × Nat × Role × RecallReason × Bool) :=
  s.recalls.table.map RecallRecord.purpose

theorem fillPending_purposes (p : PortId) (s : State) : (fillPending p s).purposes = s.purposes := by
  obtain ⟨-, h⟩ | ⟨rid, rest, -, -, -, h⟩ | ⟨rid, rest, r, -, -, -, h⟩ := fillPending_cases p s
  · rw [h]
  · rw [h]
    rfl
  · rw [h]
    refine (List.map_map ..).trans (List.map_congr_left fun x _ => ?_)
    simp only [Function.comp_apply]
    split <;> rfl

theorem removeNoticeAndFill_purposes (p : PortId) (isIt : Notice → Bool) (s : State) :
    (removeNoticeAndFill p isIt s).purposes = s.purposes := by
  unfold removeNoticeAndFill
  split
  · exact fillPending_purposes p _
  · rfl

section
variable (f : Nat) (i : MapItem) (reason : RecallReason) (notify : Bool) (origin : Option (PortId × Nat)) (s : State)

/-- The port of the item is to be notified. -/
def State.notifies (s : State) (i : MapItem) (notify : Bool) : Bool :=
  notify && decide ((s.link i.port).state = .attached)

/-- The recall record that is made for the item (R88). -/
def State.newRecall : RecallRecord :=
  { recallId := s.recalls.counter, frame := f, port := i.port, hpn := i.hpn, role := i.role, reason := reason,
    notify := notify,
    phase := if !s.notifies i notify then .unmapping else if s.noticeRoom i.port then .notified else .notifyPending,
    noticeSent := if notify then some false else none,
    deadline := if s.notifies i notify then some (s.now + s.mgmt.settings.recallMs) else none,
    origin := origin, drained := none }

/-- `s` with the record in the Recall Table, and the counter at the next id (R89). -/
def State.withRecall (s : State) (r : RecallRecord) : State :=
  s.setRecalls { s.recalls with
    table := s.recalls.table ++ [r], counter := nextRecallId (s.recalls.table ++ [r]) r.recallId }

/-- The three ways a record begins, once it stands in the table: its invalid write is asked for, its notice appended, or
it waits on the pending list of its port (R90, R92, R93). -/
theorem createRecall_cases : let r := s.newRecall f i reason notify origin
    createRecall f i reason notify origin s = askWrite r.unmapWrite (s.withRecall r) ∨
    createRecall f i reason notify origin s = appendNotice i.port r.notice (s.withRecall r) ∨
    ∃ l, createRecall f i reason notify origin s = setPending i.port l (s.withRecall r) := by
  by_cases hnotifies : (!s.notifies i notify) = true
  · exact .inl (if_pos hnotifies)
  · by_cases hroom : s.noticeRoom i.port = true
    · exact .inr (.inl ((if_neg hnotifies).trans (if_pos hroom)))
    · exact .inr (.inr ⟨_, (if_neg hnotifies).trans (if_neg hroom)⟩)

theorem createRecall_noticesOnly : NoticesOnly i.port s (createRecall f i reason notify origin s) := by
  obtain h | h | ⟨l, h⟩ := createRecall_cases f i reason notify origin s <;> rw [h]
  · exact (NoticesOnly.setRecalls _ _ s).trans (.setMapUnit _ _ _)
  · exact (NoticesOnly.setRecalls _ _ s).trans (appendNotice_noticesOnly _ _ _)
  · exact (NoticesOnly.setRecalls _ _ s).trans (.setRecalls _ _ _)

theorem createRecall_told : PortsTold s (createRecall f i reason notify origin s) := by
  obtain h | h | ⟨l, h⟩ := createRecall_cases f i reason notify origin s <;> rw [h]
  · exact .of_links rfl
  · exact PortsTold.trans (t := s.withRecall _) (.of_links rfl) (appendNotice_told (RecallRecord.isOffer_notice _) _ _)
  · exact .of_links rfl

theorem createRecall_purposes : (createRecall f i reason notify origin s).purposes =
    s.purposes ++ [(f, i.port, i.hpn, i.role, reason, notify)] := by
  obtain h | h | ⟨l, h⟩ := createRecall_cases f i reason notify origin s <;> rw [h] <;> exact List.map_append ..

end

/-- Each item of the list gets a recall record, with the reason and notify that `why` gives it. -/
def recallItems (f : Nat) (why : MapItem → RecallReason × Bool) (items : List MapItem) (s : State) : State :=
  items.foldl (fun s i => createRecall f i (why i).1 (why i).2 none s) s

section
variable (f : Nat) (why : MapItem → RecallReason × Bool) (items : List MapItem) (s : State)

theorem recallItems_engine : (recallItems f why items s).engine = s.engine :=
  foldl_keeps State.engine _ (fun s i => (createRecall_noticesOnly f i _ _ none s).engine) items s

theorem recallItems_told : PortsTold s (recallItems f why items s) := by
  induction items generalizing s with
  | nil => exact .of_links rfl
  | cons i items ih => exact (createRecall_told f i _ _ none s).trans (ih _)

theorem recallItems_notices_ne {p : PortId} (h : ∀ i ∈ items, i.port ≠ p) :
    ((recallItems f why items s).link p).notices = (s.link p).notices := by
  induction items generalizing s with
  | nil => rfl
  | cons i items ih =>
    obtain ⟨hi, hitems⟩ := List.forall_mem_cons.1 h
    exact (ih _ hitems).trans ((createRecall_noticesOnly f i _ _ none s).link_notices_ne hi.symm)

theorem recallItems_purposes : (recallItems f why items s).purposes =
    s.purposes ++ items.map fun i => (f, i.port, i.hpn, i.role, (why i).1, (why i).2) := by
  induction items generalizing s with
  | nil => exact (List.append_nil _).symm
  | cons i items ih =>
    refine (ih _).trans ?_
    rw [createRecall_purposes, List.append_assoc, List.map_cons, List.singleton_append]

end

/-! ### Withdrawing an offer (R80) -/

section
variable (o : Offer) (s : State)

theorem informTarget_of_sent (hsent : o.sent = true) (cause : WithdrawnCause) : informTarget true o cause s =
    if s.noticeRoom o.toPort then appendNotice o.toPort (.withdrawn o.grantId cause) s else s :=
  if_pos hsent

theorem informTarget_of_unsent (hsent : o.sent = false) (cause : WithdrawnCause) :
    informTarget true o cause s = removeNoticeAndFill o.toPort (Notice.isOffer o.grantId) s := by
  simp [informTarget, hsent]

theorem informTarget_noticesOnly (cause : WithdrawnCause) : NoticesOnly o.toPort s (informTarget true o cause s) := by
  cases hsent : o.sent with
  | true =>
    rw [informTarget_of_sent o s hsent]
    split
    · exact appendNotice_noticesOnly ..
    · exact .refl _ s
  | false =>
    rw [informTarget_of_unsent o s hsent]
    exact removeNoticeAndFill_noticesOnly ..

theorem informTarget_told (cause : WithdrawnCause) : PortsTold s (informTarget true o cause s) := by
  cases hsent : o.sent with
  | true =>
    rw [informTarget_of_sent o s hsent]
    split
    · exact appendNotice_told (fun _ => rfl) _ s
    · exact .of_links rfl
  | false =>
    rw [informTarget_of_unsent o s hsent]
    exact removeNoticeAndFill_told ..

theorem informTarget_purposes (cause : WithdrawnCause) : (informTarget true o cause s).purposes = s.purposes := by
  cases hsent : o.sent with
  | true =>
    rw [informTarget_of_sent o s hsent]
    split <;> rfl
  | false =>
    rw [informTarget_of_unsent o s hsent]
    exact removeNoticeAndFill_purposes ..

theorem resolveOffer_engine (status : Status) : (resolveOffer o status s).engine =
    { s.engine with offers := s.engine.offers.filter fun x => !(x.grantId == o.grantId) } :=
  handOver_engine ..

theorem resolveOffer_told (status : Status) : PortsTold s (resolveOffer o status s) := by
  refine PortsTold.trans ?_ (handOver_told ..)
  exact .of_links rfl

theorem resolveOffer_notices (status : Status) (p : PortId) :
    ((resolveOffer o status s).link p).notices = (s.link p).notices :=
  handOver_notices ..

theorem withdrawOffer_engine : (withdrawOffer true o s).engine =
    { s.engine with offers := s.engine.offers.filter fun x => !(x.grantId == o.grantId) } :=
  (informTarget_noticesOnly o _ _).engine.trans (resolveOffer_engine o s _)

theorem withdrawOffer_told : PortsTold s (withdrawOffer true o s) :=
  (resolveOffer_told o s _).trans (informTarget_told o _ _)

theorem withdrawOffer_purposes : (withdrawOffer true o s).purposes = s.purposes := by
  refine (informTarget_purposes o _ _).trans ?_
  rw [State.purposes, resolveOffer, handOver_recalls]
  rfl

theorem withdrawOffer_notices_ne {p : PortId} (hp : p ≠ o.toPort) :
    ((withdrawOffer true o s).link p).notices = (s.link p).notices :=
  ((informTarget_noticesOnly o _ _).link_notices_ne hp).trans (resolveOffer_notices o s _ p)

/-- Its GRANT completes WITHDRAWN at a port in a session. -/
theorem withdrawOffer_completes (hstate : (s.link o.fromPort).state = .attached) :
    grantCompletion o.tag .withdrawn o.grantId ∈ ((withdrawOffer true o s).link o.fromPort).outbound :=
  (informTarget_told o _ _).outbound _ (handOver_mem_outbound (by exact hstate) _)

/-- An OFFER notice that was not sent leaves the target's queue. -/
theorem withdrawOffer_unsent (hsent : o.sent = false) : (withdrawOffer true o s).noOfferNotice o.toPort o.grantId := by
  intro n hn
  rw [withdrawOffer, informTarget_of_unsent o _ hsent] at hn
  exact (removeNoticeAndFill_notices hn).elim And.right fun hnever => hnever o.grantId

/-- The target of a sent offer gets a WITHDRAWN notice if its queue has room. -/
theorem withdrawOffer_sent (hsent : o.sent = true) (hstate : (s.link o.toPort).state = .attached) :
    ((withdrawOffer true o s).link o.toPort).notices = (s.link o.toPort).notices ++
      if (s.link o.toPort).notices.length < Config.noticeQueueSize then [.withdrawn o.grantId .withdrawal] else [] := by
  have hstate' := (resolveOffer_told o s .withdrawn).state o.toPort
  have hnotices := resolveOffer_notices o s .withdrawn o.toPort
  rw [withdrawOffer, informTarget_of_sent o _ hsent, State.noticeRoom, hstate', hstate, hnotices]
  by_cases hroom : (s.link o.toPort).notices.length < Config.noticeQueueSize
  · simp only [hroom, decide_true, Bool.and_self, if_true, appendNotice_notices, hnotices]
  · simp only [hroom, decide_true, decide_false, Bool.and_false, Bool.false_eq_true, if_false, hnotices, List.append_nil]

end

/-- The offers of the list are withdrawn, in its order. -/
def withdrawOffers (os : List Offer) (s : State) : State := os.foldl (fun s o => withdrawOffer true o s) s

section
variable (os : List Offer) (s : State)

theorem withdrawOffers_engine : (withdrawOffers os s).engine =
    { s.engine with offers := s.engine.offers.filter fun x => os.all fun o => !(x.grantId == o.grantId) } := by
  induction os generalizing s with
  | nil => simp [withdrawOffers]
  | cons o os ih =>
    refine (ih _).trans ?_
    rw [withdrawOffer_engine]
    simp only [List.filter_filter, List.all_cons, Bool.and_comm]

theorem withdrawOffers_told : PortsTold s (withdrawOffers os s) := by
  induction os generalizing s with
  | nil => exact .of_links rfl
  | cons o os ih => exact (withdrawOffer_told o s).trans (ih _)

theorem withdrawOffers_purposes : (withdrawOffers os s).purposes = s.purposes :=
  foldl_keeps State.purposes _ (fun s o => withdrawOffer_purposes o s) os s

variable {os s}

theorem withdrawOffers_completes {o : Offer} (ho : o ∈ os) (hstate : (s.link o.fromPort).state = .attached) :
    grantCompletion o.tag .withdrawn o.grantId ∈ ((withdrawOffers os s).link o.fromPort).outbound := by
  induction os generalizing s with
  | nil => cases ho
  | cons x os ih =>
    obtain rfl | htail := List.mem_cons.1 ho
    · exact (withdrawOffers_told os _).outbound _ (withdrawOffer_completes o s hstate)
    · exact ih htail (((withdrawOffer_told x s).state _).trans hstate)

theorem withdrawOffers_unsent {o : Offer} (ho : o ∈ os) (hsent : o.sent = false) :
    (withdrawOffers os s).noOfferNotice o.toPort o.grantId := by
  induction os generalizing s with
  | nil => cases ho
  | cons x os ih =>
    obtain rfl | htail := List.mem_cons.1 ho
    · exact (withdrawOffers_told os _).noOffer _ _ (withdrawOffer_unsent o s hsent)
    · exact ih htail

theorem withdrawOffers_notices_ne {p : PortId} (h : ∀ o ∈ os, o.toPort ≠ p) :
    ((withdrawOffers os s).link p).notices = (s.link p).notices := by
  induction os generalizing s with
  | nil => rfl
  | cons x os ih =>
    obtain ⟨hx, hos⟩ := List.forall_mem_cons.1 h
    exact (ih hos).trans (withdrawOffer_notices_ne x s hx.symm)

/-- A target of one sent offer alone gets its WITHDRAWN notice, and nothing for the other offers. -/
theorem withdrawOffers_sent {o : Offer} (hone : os.filter (fun x => x.toPort == o.toPort) = [o]) (hsent : o.sent = true)
    (hstate : (s.link o.toPort).state = .attached) :
    ((withdrawOffers os s).link o.toPort).notices = (s.link o.toPort).notices ++
      if (s.link o.toPort).notices.length < Config.noticeQueueSize then [.withdrawn o.grantId .withdrawal] else [] := by
  induction os generalizing s with
  | nil => cases hone
  | cons x os ih =>
    by_cases hx : x.toPort = o.toPort
    · rw [List.filter_cons_of_pos (by simpa using hx), List.cons.injEq, List.filter_eq_nil_iff] at hone
      obtain ⟨rfl, hothers⟩ := hone
      have hrest := withdrawOffers_notices_ne (os := os) (s := withdrawOffer true x s) (p := x.toPort)
        fun y hy => by simpa using hothers y hy
      exact hrest.trans (withdrawOffer_sent x s hsent hstate)
    · rw [List.filter_cons_of_neg (by simpa using hx)] at hone
      refine (ih hone (((withdrawOffer_told x s).state _).trans hstate)).trans ?_
      rw [withdrawOffer_notices_ne x s (Ne.symm hx)]

end

/-! ### A frame enters RECALLING (R10) -/

/-- The record of a frame that has entered RECALLING: every item LEAVING. -/
def FrameRecord.toRecalling (r : FrameRecord) (leave : LeaveReason) (quarantineOnExit : Bool) : FrameRecord :=
  { r with
    state := .recalling, leave := some leave, quarantineOnExit := quarantineOnExit,
    items := r.items.map fun i => { i with phase := .leaving } }

section
variable (f : Nat) (leave : LeaveReason) (q : Bool) (why : MapItem → RecallReason × Bool) (s : State)

/-- `s` with frame `f` RECALLING and its recall records made, before the offers on it are withdrawn. -/
def frameRecalled : State :=
  recallItems f why (s.record f).activeItems (s.setRecord f ((s.record f).toRecalling leave q))

theorem frameRecalled_engine :
    (frameRecalled f leave q why s).engine = (s.setRecord f ((s.record f).toRecalling leave q)).engine :=
  recallItems_engine ..

theorem enterRecalling_eq : enterRecalling f leave q why s =
    withdrawOffers (s.engine.offers.filter fun o => o.frame == f) (frameRecalled f leave q why s) := by
  have hoffers : (frameRecalled f leave q why s).engine.offers = s.engine.offers := by
    rw [frameRecalled_engine]
    rfl
  rw [← hoffers]
  rfl

theorem enterRecalling_engine : (enterRecalling f leave q why s).engine =
    { (s.setRecord f ((s.record f).toRecalling leave q)).engine with
      offers := s.engine.offers.filter fun x =>
        (s.engine.offers.filter fun o => o.frame == f).all fun o => !(x.grantId == o.grantId) } := by
  rw [enterRecalling_eq, withdrawOffers_engine, frameRecalled_engine]
  rfl

theorem enterRecalling_slot : (enterRecalling f leave q why s).engine.slot = s.engine.slot := by
  rw [enterRecalling_engine]
  rfl

theorem enterRecalling_record {s : State} (hw : sparseWf FrameRecord.afterReset s.engine.directory = true) (g : Nat) :
    (enterRecalling f leave q why s).record g = if g = f then (s.record f).toRecalling leave q else s.record g := by
  rw [← State.record_setRecord hw, State.record, enterRecalling_engine]
  rfl

theorem enterRecalling_purposes : (enterRecalling f leave q why s).purposes =
    s.purposes ++ (s.record f).activeItems.map fun i => (f, i.port, i.hpn, i.role, (why i).1, (why i).2) := by
  rw [enterRecalling_eq, withdrawOffers_purposes, frameRecalled, recallItems_purposes]
  rfl

/-- The records made stand behind those of before. -/
theorem enterRecalling_new_purposes :
    ((enterRecalling f leave q why s).recalls.table.drop s.recalls.table.length).map RecallRecord.purpose =
      (s.record f).activeItems.map fun i => (f, i.port, i.hpn, i.role, (why i).1, (why i).2) := by
  have hlength : s.purposes.length = s.recalls.table.length := List.length_map ..
  rw [List.map_drop, ← hlength]
  exact (congrArg (List.drop _) (enterRecalling_purposes f leave q why s)).trans List.drop_left

/-- A port without an item in the frame has no record made for it, so no notice of one. -/
theorem frameRecalled_notices_of_no_item {p : PortId} (hitem : (s.record f).itemOf p = none) :
    ((frameRecalled f leave q why s).link p).notices = (s.link p).notices := by
  refine recallItems_notices_ne f why _ _ fun i hi => ?_
  have hnot := List.find?_eq_none.1 hitem i (List.mem_of_mem_filter hi)
  simpa using hnot

theorem frameRecalled_told : PortsTold s (frameRecalled f leave q why s) :=
  PortsTold.trans (t := s.setRecord f _) (.of_links rfl) (recallItems_told ..)

theorem enterRecalling_offersWithdrawn : offersWithdrawn f s (enterRecalling f leave q why s) := by
  have htold := frameRecalled_told f leave q why s
  refine ⟨fun o ho hframe => ?gone, fun o ho hframe => ⟨fun hstate => ?completes, fun hsent => ?unsent,
    fun hsent hstate hitem hone => ?sent⟩⟩
  case gone =>
    rw [enterRecalling_engine] at ho
    obtain ⟨hmem, hall⟩ := List.mem_filter.1 ho
    have hself := List.all_eq_true.1 hall o (List.mem_filter.2 ⟨hmem, by simpa using hframe⟩)
    simp at hself
  all_goals have hon : o ∈ s.engine.offers.filter (fun x => x.frame == f) :=
    List.mem_filter.2 ⟨ho, by simpa using hframe⟩
  case completes =>
    rw [enterRecalling_eq]
    exact withdrawOffers_completes hon ((htold.state _).trans hstate)
  case unsent =>
    rw [enterRecalling_eq]
    exact withdrawOffers_unsent hon hsent
  case sent =>
    have htarget : (s.engine.offers.filter fun x => x.frame == f).filter (fun x => x.toPort == o.toPort) = [o] := by
      simpa only [List.filter_filter, Bool.and_comm] using hone
    rw [enterRecalling_eq, withdrawOffers_sent htarget hsent ((htold.state _).trans hstate),
      frameRecalled_notices_of_no_item f leave q why s hitem]
    rfl

end

end Sys2Proof.Machine
end

section
/-! EVICT, QUARANTINE and RETURN (R14, R15, R186): the slot's request taken and answered, and for each row of the table
what the request does to the frame. -/

namespace Sys2Proof.Machine

/-! ### Taking the request of the management slot (R53) -/

section
variable {id : Nat} {req : MgmtReq} {s : State}

theorem State.servesRequest.operating (h : s.servesRequest id req) : s.operating = true := by
  obtain ⟨hop, -⟩ := h
  exact hop

theorem State.servesRequest.running (h : s.servesRequest id req) : s.mgmt.buffer = .running id req := by
  obtain ⟨-, -, -, hrun⟩ := h
  exact hrun

theorem State.servesRequest.servedRequest (h : s.servesRequest id req) : s.servedRequest = some req := by
  obtain ⟨-, hnext, hslot, -⟩ := h
  rw [State.servedRequest, if_pos hnext, hslot]

theorem answerSlot_of_running (hrun : s.mgmt.buffer = .running id req) (st : MgmtStatus) (data : List Byte) :
    answerSlot st data s = s.answered id req st data :=
  placeResult_of_running (s := movePointer 4 (s.setEngine { s.engine with slot := none })) hrun st data

theorem State.answered_record (s : State) (id : Nat) (req : MgmtReq) (st : MgmtStatus) (data : List Byte) (g : Nat) :
    (s.answered id req st data).record g = s.record g := rfl

theorem exec_evict_of_served {f : Nat} (h : s.servesRequest id (.evict f)) : exec .evict s = .next (takeEvict f s) := by
  change execEvict s = _
  rw [execEvict, whenOperating, h.servedRequest, if_pos h.operating]

theorem exec_quarantine_of_served {f : Nat} (h : s.servesRequest id (.quarantine f)) :
    exec .quarantine s = .next (takeQuarantine f s) := by
  change execQuarantine s = _
  rw [execQuarantine, whenOperating, h.servedRequest, if_pos h.operating]

theorem exec_returnFrame_of_served {f : Nat} (h : s.servesRequest id (.returnFrame f)) :
    exec .returnFrame s = .next (takeReturn f s) := by
  change execReturnFrame s = _
  rw [execReturnFrame, whenOperating, h.servedRequest, if_pos h.operating]

end

/-! ### The Scrub Engine takes the next frame (R150) -/

section
variable {s : State}

theorem takeScrub_of_nil (hqueue : s.scrub.queue = []) : takeScrub s = s := by
  simp only [takeScrub, hqueue]

theorem takeScrub_of_not_ready (h : s.scrub.phase ≠ .idle ∨ s.device ≠ .run) : takeScrub s = s := by
  unfold takeScrub
  split
  · rfl
  · exact if_neg (not_and_or.2 h)

theorem takeScrub_of_cons {g : Nat} {rest : List Nat} (hqueue : s.scrub.queue = g :: rest)
    (hphase : s.scrub.phase = .idle) (hdevice : s.device = .run) :
    takeScrub s = s.setScrub { s.scrub with
      queue := rest, phase := .zero, current := some g, nextLine := 0, verified := 0, uncorrectableSeen := false,
      number := s.scrub.number + 1, ended := false } := by
  simp only [takeScrub, hqueue, hphase, hdevice, and_self, if_true]

/-- Taking a frame to scrub changes the Scrub Engine alone, and no scrub has ended by it. -/
theorem takeScrub_frame (s : State) : ∃ x, takeScrub s = s.setScrub x ∧ x.outstanding = s.scrub.outstanding ∧
    (s.scrub.ended = false → x.ended = false) := by
  unfold takeScrub
  split
  · exact ⟨s.scrub, rfl, rfl, id⟩
  · split
    · exact ⟨_, rfl, rfl, fun _ => rfl⟩
    · exact ⟨s.scrub, rfl, rfl, id⟩

/-- The Scrub Engine without a current frame. -/
def Scrub.toIdle (x : Scrub) : Scrub :=
  { x with phase := .idle, current := none, nextLine := 0, verified := 0, uncorrectableSeen := false, ended := false }

/-- Once its current frame is gone, the Scrub Engine takes the next one that waits. -/
theorem takeScrub_scrub_of_toIdle {u : State} (hscrub : u.scrub = s.scrub.toIdle) (hdevice : u.device = s.device) :
    (takeScrub u).scrub.ended = false ∧ (takeScrub u).scrub.outstanding = s.scrub.outstanding ∧
      (s.scrub.queue = [] → (takeScrub u).scrub.current = none ∧ (takeScrub u).scrub.phase = .idle) ∧
      (∀ g rest, s.scrub.queue = g :: rest → s.device = .run → (takeScrub u).scrub.current = some g ∧
        (takeScrub u).scrub.phase = .zero ∧ (takeScrub u).scrub.nextLine = 0 ∧ (takeScrub u).scrub.queue = rest) := by
  have hwaiting : u.scrub.queue = s.scrub.queue := by rw [hscrub, Scrub.toIdle]
  obtain ⟨x, hx, houtstanding, hended⟩ := takeScrub_frame u
  refine ⟨?_, ?_, fun hqueue => ?_, fun g rest hqueue hrun => ?_⟩
  · rw [hx]
    exact hended (by rw [hscrub, Scrub.toIdle])
  · rw [hx]
    exact houtstanding.trans (by rw [hscrub, Scrub.toIdle])
  · rw [takeScrub_of_nil (hwaiting.trans hqueue), hscrub]
    exact ⟨rfl, rfl⟩
  · rw [takeScrub_of_cons (hwaiting.trans hqueue) (by rw [hscrub, Scrub.toIdle]) (hdevice.trans hrun)]
    exact ⟨rfl, rfl, rfl, rfl⟩

end

/-! ### A frame taken back by management (R10, R186) -/

/-- The request `req` was answered OK, and frame `f` recalled with reason EVICT for each ACTIVE item. -/
def evicted (id f : Nat) (req : MgmtReq) (flag : Bool) (s t : State) : Prop :=
  t.mgmt.buffer = .ready id req .ok [] ∧ t.engine.slot = none ∧
    t.record f = (s.record f).toRecalling .evict flag ∧ (∀ g, g ≠ f → t.record g = s.record g) ∧
    offersWithdrawn f s t ∧
    (t.recalls.table.drop s.recalls.table.length).map RecallRecord.purpose =
      (s.record f).activeItems.map fun i => (f, i.port, i.hpn, i.role, RecallReason.evict, true)

section
variable {id f : Nat} {req : MgmtReq} {s : State} (hrun : s.mgmt.buffer = .running id req) (flag : Bool)
include hrun

theorem evictFrame_of_few (hfew : s.freeRecords < (s.record f).activeItems.length) :
    evictFrame f flag s = s.answered id req .busy [] := by
  rw [evictFrame, if_pos hfew, answerSlot_of_running hrun]

theorem evictFrame_of_enough (henough : (s.record f).activeItems.length ≤ s.freeRecords)
    (hw : sparseWf FrameRecord.afterReset s.engine.directory = true) :
    evicted id f req flag s (evictFrame f flag s) := by
  have hrecord := enterRecalling_record f .evict flag evictReason (s := s.answered id req .ok []) hw
  rw [evictFrame, if_neg (Nat.not_lt.2 henough), answerSlot_of_running hrun]
  exact ⟨congrArg Mgmt.buffer (enterRecalling_mgmt ..), enterRecalling_slot .., (hrecord f).trans (if_pos rfl),
    fun g hg => (hrecord g).trans (if_neg hg), enterRecalling_offersWithdrawn f .evict flag evictReason _,
    enterRecalling_new_purposes f .evict flag evictReason (s.answered id req .ok [])⟩

end

/-! ### A frame quarantined by management (R14, R22) -/

/-- QUARANTINE was answered OK, frame `f` is QUARANTINED with a fault record, and no recall record changed. -/
def quarantinedByRequest (id f : Nat) (s t : State) : Prop :=
  t.mgmt.buffer = .ready id (.quarantine f) .ok [] ∧ t.engine.slot = none ∧
    t.record f = { s.record f with state := .quarantined } ∧ (∀ g, g ≠ f → t.record g = s.record g) ∧
    t.flight = { s.flight with faults := s.flight.faults ++ [.quarantined f .management] } ∧ t.recalls = s.recalls

theorem quarantineFrame_quarantinedByRequest {id f : Nat} {s t : State}
    (hw : sparseWf FrameRecord.afterReset s.engine.directory = true)
    (hbuffer : t.mgmt.buffer = .ready id (.quarantine f) .ok []) (hslot : t.engine.slot = none)
    (hdirectory : t.engine.directory = s.engine.directory) (hflight : t.flight = s.flight)
    (hrecalls : t.recalls = s.recalls) : quarantinedByRequest id f s (quarantineFrame f .management t) := by
  have hsame : ∀ g, t.record g = s.record g := fun g => by rw [State.record, hdirectory, State.record]
  have hrecord := fun g => quarantineFrame_record (s := t) (by rw [hdirectory]; exact hw) f g .management
  refine ⟨hbuffer, hslot, ?_, fun g hg => ?_, ?_, hrecalls⟩
  · rw [hrecord, if_pos rfl, hsame]
  · rw [hrecord, if_neg hg, hsame]
  · rw [← hflight]
    rfl

/-- What the Scrub Engine does in the same event is no part of it. -/
theorem quarantinedByRequest.setScrub {id f : Nat} {s t : State} (h : quarantinedByRequest id f s t) (x : Scrub) :
    quarantinedByRequest id f s (t.setScrub x) := h

theorem quarantineFrame_scrub (f : Nat) (c : QuarantineCause) (s : State) : (quarantineFrame f c s).scrub = s.scrub := rfl

theorem quarantineFrame_device (f : Nat) (c : QuarantineCause) (s : State) : (quarantineFrame f c s).device = s.device :=
  rfl

theorem quarantineFrame_freeList (f : Nat) (c : QuarantineCause) (s : State) :
    (quarantineFrame f c s).engine.freeList = s.engine.freeList := rfl

section
variable {id f : Nat} {s : State} (hw : sparseWf FrameRecord.afterReset s.engine.directory = true)
  (hrun : s.mgmt.buffer = .running id (.quarantine f))
include hw hrun

theorem takeQuarantine_free (hstate : (s.record f).state = .free) :
    quarantinedByRequest id f s (takeQuarantine f s) ∧
      (takeQuarantine f s).engine.freeList = s.engine.freeList.filter (fun g => !(g == f)) ∧
      (takeQuarantine f s).scrub = s.scrub := by
  rw [takeQuarantine_of_free hstate, answerSlot_of_running (s := s.offFreeList f) hrun, quarantineFrame_freeList,
    quarantineFrame_scrub]
  refine ⟨?_, ?_, ?_⟩
  · apply quarantineFrame_quarantinedByRequest hw <;> rfl
  · rfl
  · rfl

theorem takeQuarantine_queued (hstate : (s.record f).state = .scrubbing) (hcurrent : s.scrub.current ≠ some f) :
    quarantinedByRequest id f s (takeQuarantine f s) ∧ (takeQuarantine f s).engine.freeList = s.engine.freeList ∧
      (takeQuarantine f s).scrub = { s.scrub with queue := s.scrub.queue.filter (fun g => !(g == f)) } := by
  rw [takeQuarantine_of_queued hstate hcurrent, answerSlot_of_running (s := s.offScrubQueue f) hrun,
    quarantineFrame_freeList, quarantineFrame_scrub]
  refine ⟨?_, ?_, ?_⟩
  · apply quarantineFrame_quarantinedByRequest hw <;> rfl
  · rfl
  · rfl

/-- The scrub of the current frame is aborted, its outstanding accesses stay, and the next frame is taken (R155). -/
theorem takeQuarantine_current (hstate : (s.record f).state = .scrubbing) (hcurrent : s.scrub.current = some f) :
    quarantinedByRequest id f s (takeQuarantine f s) ∧ (takeQuarantine f s).scrub.ended = false ∧
      (takeQuarantine f s).scrub.outstanding = s.scrub.outstanding ∧
      (s.scrub.queue = [] → (takeQuarantine f s).scrub.current = none ∧ (takeQuarantine f s).scrub.phase = .idle) ∧
      (∀ g rest, s.scrub.queue = g :: rest → s.device = .run → (takeQuarantine f s).scrub.current = some g ∧
        (takeQuarantine f s).scrub.phase = .zero ∧ (takeQuarantine f s).scrub.nextLine = 0 ∧
        (takeQuarantine f s).scrub.queue = rest) := by
  rw [takeQuarantine_of_current hstate hcurrent, answerSlot_of_running hrun]
  have hquarantined : quarantinedByRequest id f s
      (quarantineFrame f .management (scrubIdle (s.answered id (.quarantine f) .ok []))) := by
    apply quarantineFrame_quarantinedByRequest hw <;> rfl
  have hscrub : (quarantineFrame f .management (scrubIdle (s.answered id (.quarantine f) .ok []))).scrub =
      s.scrub.toIdle := by
    rw [quarantineFrame_scrub]
    rfl
  refine ⟨?_, takeScrub_scrub_of_toIdle hscrub (quarantineFrame_device ..)⟩
  obtain ⟨x, hx, -⟩ := takeScrub_frame (quarantineFrame f .management _)
  rw [hx]
  exact hquarantined.setScrub x

theorem takeQuarantine_recalling (hstate : (s.record f).state = .recalling) :
    (takeQuarantine f s).record f = { s.record f with quarantineOnExit := true } ∧
      (∀ g, g ≠ f → (takeQuarantine f s).record g = s.record g) ∧
      (takeQuarantine f s).mgmt.buffer = .ready id (.quarantine f) .ok [] ∧ (takeQuarantine f s).flight = s.flight ∧
      (takeQuarantine f s).recalls = s.recalls := by
  have hrecord := fun g => State.record_setRecord hw f g { s.record f with quarantineOnExit := true }
  rw [takeQuarantine_of_recalling hstate, answerSlot_of_running (s := s.setRecord f _) hrun]
  refine ⟨?_, fun g hg => ?_, rfl, rfl, rfl⟩
  · rw [State.answered_record, hrecord, if_pos rfl]
  · rw [State.answered_record, hrecord, if_neg hg]

end

/-! ### A frame returned (R15) -/

section
variable {id f : Nat} {s : State} (hw : sparseWf FrameRecord.afterReset s.engine.directory = true)
  (hrun : s.mgmt.buffer = .running id (.returnFrame f)) (hstate : (s.record f).state = .quarantined)
include hw hrun hstate

/-- The frame joins the Scrub Queue tail with its mark and count cleared, and an IDLE Scrub Engine takes it at once. -/
theorem takeReturn_quarantined :
    (takeReturn f s).record f = { s.record f with state := .scrubbing, damaged := false, count := 0 } ∧
      (∀ g, g ≠ f → (takeReturn f s).record g = s.record g) ∧
      (takeReturn f s).mgmt.buffer = .ready id (.returnFrame f) .ok [] ∧
      (s.scrub.phase = .idle → s.device = .run → s.scrub.queue = [] → (takeReturn f s).scrub.current = some f) ∧
      (s.scrub.phase ≠ .idle ∨ s.device ≠ .run →
        (takeReturn f s).scrub = { s.scrub with queue := s.scrub.queue ++ [f] }) := by
  have hrecord := fun g =>
    State.record_setRecord hw f g { s.record f with state := .scrubbing, damaged := false, count := 0 }
  rw [takeReturn_of_quarantined hstate, answerSlot_of_running (s := s.setRecord f _) hrun, joinScrub]
  refine ⟨?_, fun g hg => ?_, congrArg Mgmt.buffer (takeScrub_mgmt _), fun hphase hdevice hqueue => ?_, fun h => ?_⟩
  · obtain ⟨x, hx, -⟩ := takeScrub_frame (State.setScrub _ _)
    rw [hx, State.setScrub_record, State.setScrub_record, State.answered_record, hrecord, if_pos rfl]
  · obtain ⟨x, hx, -⟩ := takeScrub_frame (State.setScrub _ _)
    rw [hx, State.setScrub_record, State.setScrub_record, State.answered_record, hrecord, if_neg hg]
  · rw [takeScrub_of_cons (g := f) (rest := []) (by exact congrArg (· ++ [f]) hqueue) (by exact hphase)
      (by exact hdevice)]
    rfl
  · rw [takeScrub_of_not_ready (by exact h)]
    rfl

end

/-- Settles O49: one case per request and frame state, each by what the request does to a frame in that state. -/
theorem frameRequestsFollowFrameState : Obligations.FrameRequestsFollowFrameState := by
  unfold Obligations.FrameRequestsFollowFrameState
  intro id f s hw r recalled quarantined
  have hrecalled : ∀ c req flag, s.mgmt.buffer = .running id req → exec c s = .next (evictFrame f flag s) →
      recalled c req flag := fun c req flag hrun hexec =>
    ⟨fun hfew => by rw [hexec, evictFrame_of_few hrun flag hfew],
      fun henough => ⟨_, hexec, evictFrame_of_enough hrun flag henough hw⟩⟩
  refine ⟨fun hserves => ?evict, fun hserves => ?quarantine, fun hserves => ?returnFrame⟩
  all_goals have hrun := hserves.running
  case evict =>
    have hexec := exec_evict_of_served hserves
    refine ⟨fun hlent => hrecalled _ _ _ hrun (by rw [hexec, takeEvict_of_lent hlent]), fun hheld hshared => ?_⟩
    rw [hexec, takeEvict_of_not_lent (not_or.2 ⟨hheld, hshared⟩), answerSlot_of_running hrun]
  case quarantine =>
    have hexec := exec_quarantine_of_served hserves
    refine ⟨fun hreserved => ?_, fun hfree => ⟨_, hexec, takeQuarantine_free hw hrun hfree⟩,
      fun hscrubbing hqueued => ⟨_, hexec, takeQuarantine_queued hw hrun hscrubbing hqueued⟩,
      fun hscrubbing hcurrent => ⟨_, hexec, takeQuarantine_current hw hrun hscrubbing hcurrent⟩,
      fun hlent => hrecalled _ _ _ hrun (by rw [hexec, takeQuarantine_of_lent hlent]),
      fun hrecalling => ⟨_, hexec, takeQuarantine_recalling hw hrun hrecalling⟩, fun hquarantined => ?_⟩
    · rw [hexec, takeQuarantine_of_reserved hreserved, answerSlot_of_running hrun]
    · rw [hexec, takeQuarantine_of_quarantined hquarantined, answerSlot_of_running hrun]
  case returnFrame =>
    have hexec := exec_returnFrame_of_served hserves
    refine ⟨fun hquarantined => ⟨_, hexec, takeReturn_quarantined hw hrun hquarantined⟩, fun hother => ?_⟩
    rw [hexec, takeReturn_of_not_quarantined hother, answerSlot_of_running hrun]

end Sys2Proof.Machine
end

section
/-! What each operation leaves outside the blocks it writes (00_scope.md, Section 2), and from these the frame of every
command: `touches` lists the blocks it may change. -/

namespace Sys2Proof.Machine

/-! ### The state outside some blocks -/

/-- `s` with the blocks `bs` blanked: two states agree outside `bs` exactly when these are equal. -/
def State.outside (bs : List Block) (s : State) : State :=
  { supplyValid := if .supply ∈ bs then false else s.supplyValid
    resetAsserted := if .resetPin ∈ bs then false else s.resetAsserted
    pop := if .population ∈ bs then ⟨0, 0⟩ else s.pop
    device := if .device ∈ bs then .starting else s.device
    links := if .links ∈ bs then .all (LinkPort.afterReset []) else s.links
    requests := if .requests ∈ bs then .all [] else s.requests
    caches := if .caches ∈ bs then .all [] else s.caches
    walker := if .walker ∈ bs then Walker.afterReset else s.walker
    mapUnit := if .mapUnit ∈ bs then MapUnit.afterReset false else s.mapUnit
    engine := if .engine ∈ bs then Engine.afterReset else s.engine
    recalls := if .recalls ∈ bs then RecallUnit.afterReset else s.recalls
    channels := if .channels ∈ bs then .all (Channel.afterReset (.all 0)) else s.channels
    scrub := if .scrub ∈ bs then Scrub.afterReset 0 else s.scrub
    mgmt := if .mgmt ∈ bs then Mgmt.afterReset else s.mgmt
    flight := if .flight ∈ bs then InFlight.none else s.flight
    dram := if .dram ∈ bs then Dram.atPowerOn else s.dram
    now := s.now
    freeCount := if .freeCount ∈ bs then 0 else s.freeCount
    pending := s.pending }

section
variable {bs : List Block} {s t : State}

/-- A block outside `bs` is as before when the states agree outside `bs`. -/
theorem Block.same_of_outside (h : t.outside bs = s.outside bs) {b : Block} (hb : b ∉ bs) : b.same s t := by
  simp only [State.outside, State.mk.injEq] at h
  obtain ⟨h1, h2, h3, h4, h5, h6, h7, h8, h9, h10, h11, h12, h13, h14, h15, h16, -, h17, -⟩ := h
  cases b <;> simp only [hb, if_false] at * <;> assumption

theorem State.pending_of_outside (h : t.outside bs = s.outside bs) : t.pending = s.pending := by
  simpa [State.outside] using congrArg State.pending h

end

/-! ### Replacing one block -/

section
variable {bs : List Block} (s : State)

@[simp] theorem State.setLink_outside (h : .links ∈ bs) (p : PortId) (x : LinkPort) :
    (s.setLink p x).outside bs = s.outside bs := by simp [State.outside, h]
@[simp] theorem State.setQueue_outside (h : .requests ∈ bs) (p : PortId) (x : List ReqEntry) :
    (s.setQueue p x).outside bs = s.outside bs := by simp [State.outside, h]
@[simp] theorem State.setCache_outside (h : .caches ∈ bs) (p : PortId) (x : List CacheEntry) :
    (s.setCache p x).outside bs = s.outside bs := by simp [State.outside, h]
@[simp] theorem State.setWalker_outside (h : .walker ∈ bs) (x : Walker) :
    (s.setWalker x).outside bs = s.outside bs := by simp [State.outside, h]
@[simp] theorem State.setMapUnit_outside (h : .mapUnit ∈ bs) (x : MapUnit) :
    (s.setMapUnit x).outside bs = s.outside bs := by simp [State.outside, h]
@[simp] theorem State.setEngine_outside (h : .engine ∈ bs) (x : Engine) :
    (s.setEngine x).outside bs = s.outside bs := by simp [State.outside, h]
@[simp] theorem State.setRecalls_outside (h : .recalls ∈ bs) (x : RecallUnit) :
    (s.setRecalls x).outside bs = s.outside bs := by simp [State.outside, h]
@[simp] theorem State.setChannel_outside (h : .channels ∈ bs) (c : ChannelId) (x : Channel) :
    (s.setChannel c x).outside bs = s.outside bs := by simp [State.outside, h]
@[simp] theorem State.setScrub_outside (h : .scrub ∈ bs) (x : Scrub) :
    (s.setScrub x).outside bs = s.outside bs := by simp [State.outside, h]
@[simp] theorem State.setMgmt_outside (h : .mgmt ∈ bs) (x : Mgmt) :
    (s.setMgmt x).outside bs = s.outside bs := by simp [State.outside, h]
@[simp] theorem State.setFlight_outside (h : .flight ∈ bs) (x : InFlight) :
    (s.setFlight x).outside bs = s.outside bs := by simp [State.outside, h]
@[simp] theorem State.setDram_outside (h : .dram ∈ bs) (x : Dram) :
    (s.setDram x).outside bs = s.outside bs := by simp [State.outside, h]
@[simp] theorem State.setDevice_outside (h : .device ∈ bs) (x : DeviceState) :
    (s.setDevice x).outside bs = s.outside bs := by simp [State.outside, h]
@[simp] theorem State.useFree_outside (h : .freeCount ∈ bs) : s.useFree.outside bs = s.outside bs := by
  simp [State.outside, h]

end

/-! ### Operations of one block -/

section
variable {bs : List Block} (s : State)

@[simp] theorem handFault_outside (h : .flight ∈ bs) (i : FaultInfo) : (handFault i s).outside bs = s.outside bs :=
  s.setFlight_outside h _
@[simp] theorem send_outside (h : .links ∈ bs) (p : PortId) (m : OutMsg) : (send p m s).outside bs = s.outside bs :=
  s.setLink_outside h _ _
@[simp] theorem appendNotice_outside (h : .links ∈ bs) (p : PortId) (n : Notice) :
    (appendNotice p n s).outside bs = s.outside bs := s.setLink_outside h _ _
@[simp] theorem removeNotice_outside (h : .links ∈ bs) (p : PortId) (f : Notice → Bool) :
    (removeNotice p f s).outside bs = s.outside bs := s.setLink_outside h _ _
@[simp] theorem handOver_outside (h : .links ∈ bs) (p : PortId) (c : Completion) :
    (handOver p c s).outside bs = s.outside bs := by
  unfold handOver
  split <;> simp [h]
@[simp] theorem handOverAll_outside (h : .links ∈ bs) (p : PortId) (cs : List Completion) :
    (handOverAll p cs s).outside bs = s.outside bs :=
  foldl_keeps (State.outside bs) _ (fun s c => handOver_outside s h p c) cs s
@[simp] theorem returnCredits_outside (h : .links ∈ bs) (p : PortId) :
    (returnCredits p s).outside bs = s.outside bs := by
  unfold returnCredits
  dsimp only
  split <;> simp [h]
@[simp] theorem updateRecall_outside (h : .recalls ∈ bs) (rid : Nat) (f : RecallRecord → RecallRecord) :
    (updateRecall rid f s).outside bs = s.outside bs := s.setRecalls_outside h _
@[simp] theorem setPending_outside (h : .recalls ∈ bs) (p : PortId) (l : List Nat) :
    (setPending p l s).outside bs = s.outside bs := s.setRecalls_outside h _
@[simp] theorem leavePending_outside (h : .recalls ∈ bs) (r : RecallRecord) :
    (leavePending r s).outside bs = s.outside bs := s.setRecalls_outside h _
@[simp] theorem reportComplete_outside (h : .recalls ∈ bs) (rid : Nat) :
    (reportComplete rid s).outside bs = s.outside bs := by
  unfold reportComplete
  split <;> simp [h]
@[simp] theorem drainCheck_outside (h : .recalls ∈ bs) (rid : Nat) : (drainCheck rid s).outside bs = s.outside bs := by
  unfold drainCheck
  (repeat' split) <;> simp [h]
@[simp] theorem drainReport_outside (h : .recalls ∈ bs) (p : PortId) (f : Nat) :
    (drainReport p f s).outside bs = s.outside bs := by
  unfold drainReport
  split <;> simp [h]
@[simp] theorem unmapPerformed_outside (h : .recalls ∈ bs) (rid : Nat) :
    (unmapPerformed rid s).outside bs = s.outside bs := by simp [unmapPerformed, h]
@[simp] theorem holderMayComplete_outside (h : .recalls ∈ bs) (f : Nat) :
    (holderMayComplete f s).outside bs = s.outside bs := by
  unfold holderMayComplete
  (repeat' split) <;> simp [h]
@[simp] theorem askWrite_outside (h : .mapUnit ∈ bs) (w : MapWrite) : (askWrite w s).outside bs = s.outside bs :=
  s.setMapUnit_outside h _
@[simp] theorem askRead_outside (h : .mapUnit ∈ bs) (p : PortId) (hpn : Nat) :
    (askRead p hpn s).outside bs = s.outside bs := s.setMapUnit_outside h _
@[simp] theorem startHeadRepair_outside (h : .mapUnit ∈ bs) : (startHeadRepair s).outside bs = s.outside bs := by
  unfold startHeadRepair
  (repeat' split) <;> simp [h]
@[simp] theorem startRepair_outside (h : .mapUnit ∈ bs) (p : PortId) (hpn : Nat) :
    (startRepair p hpn s).outside bs = s.outside bs := by simp [startRepair, h]
@[simp] theorem finishSearch_outside (h : .mapUnit ∈ bs) (r : Repair) (rest : List Repair) (v : MapValue) :
    (finishSearch r rest v s).outside bs = s.outside bs := by simp [finishSearch, h]
@[simp] theorem setStale_outside (h : .walker ∈ bs) (p : PortId) (hpn : Nat) (b : Bool) :
    (setStale p hpn b s).outside bs = s.outside bs := s.setWalker_outside h _
@[simp] theorem markStale_outside (h : .walker ∈ bs) (p : PortId) (hpn : Nat) :
    (markStale p hpn s).outside bs = s.outside bs := by
  unfold markStale
  split <;> simp [h]
@[simp] theorem leaveRetry_outside (h : .walker ∈ bs) (p : PortId) (tag : Nat) :
    (leaveRetry p tag s).outside bs = s.outside bs := s.setWalker_outside h _
@[simp] theorem joinRetry_outside (h : .walker ∈ bs) (p : PortId) (tag : Nat) :
    (joinRetry p tag s).outside bs = s.outside bs := by
  unfold joinRetry
  split <;> simp [h]
@[simp] theorem setEntryState_outside (h : .requests ∈ bs) (p : PortId) (tag : Nat) (st : ReqState) :
    (setEntryState p tag st s).outside bs = s.outside bs := s.setQueue_outside h _ _
@[simp] theorem State.setRecord_outside (h : .engine ∈ bs) (f : Nat) (r : FrameRecord) :
    (s.setRecord f r).outside bs = s.outside bs := s.setEngine_outside h _
@[simp] theorem movePointer_outside (h : .engine ∈ bs) (i : Fin 5) : (movePointer i s).outside bs = s.outside bs :=
  s.setEngine_outside h _
@[simp] theorem deferCommand_outside (h : .engine ∈ bs) (p : PortId) : (deferCommand p s).outside bs = s.outside bs :=
  s.setEngine_outside h _
@[simp] theorem clearWaiting_outside (h : .engine ∈ bs) : (clearWaiting s).outside bs = s.outside bs :=
  s.setEngine_outside h _
@[simp] theorem setScan_outside (h : .engine ∈ bs) (p : PortId) (x : ScanState) :
    (setScan p x s).outside bs = s.outside bs := s.setEngine_outside h _
@[simp] theorem lendFrame_outside (h : .engine ∈ bs) (p : PortId) (hpn f : Nat) :
    (lendFrame p hpn f s).outside bs = s.outside bs := s.setEngine_outside h _
@[simp] theorem parkClaim_outside (h : .engine ∈ bs) (p : PortId) (tag hpn n : Nat) :
    (parkClaim p tag hpn n s).outside bs = s.outside bs := s.setEngine_outside h _
@[simp] theorem placeInSlot_outside (h : .engine ∈ bs) (r : MgmtReq) : (placeInSlot r s).outside bs = s.outside bs :=
  s.setEngine_outside h _
@[simp] theorem takeScrub_outside (h : .scrub ∈ bs) : (takeScrub s).outside bs = s.outside bs := by
  unfold takeScrub
  (repeat' split) <;> simp [h]
@[simp] theorem joinScrub_outside (h : .scrub ∈ bs) (f : Nat) : (joinScrub f s).outside bs = s.outside bs := by
  simp [joinScrub, h]
@[simp] theorem scrubIdle_outside (h : .scrub ∈ bs) : (scrubIdle s).outside bs = s.outside bs := s.setScrub_outside h _
@[simp] theorem enqueue_outside (h : .channels ∈ bs) (c : ChannelId) (r : Round) (a : Access64) :
    (enqueue c r a s).outside bs = s.outside bs := s.setChannel_outside h _ _
@[simp] theorem completeAccess_outside (h : .channels ∈ bs) (c : ChannelId) (i : Nat) :
    (completeAccess c i s).outside bs = s.outside bs := s.setChannel_outside h _ _
@[simp] theorem handResult_outside (h : .flight ∈ bs) (a : Access64) (o : AccessOutcome) :
    (handResult a o s).outside bs = s.outside bs := by
  unfold handResult
  split <;> simp [h]
@[simp] theorem reportCorrectable_outside (h : .flight ∈ bs) (a : Access64) :
    (reportCorrectable a s).outside bs = s.outside bs := by
  unfold reportCorrectable
  split <;> simp [h]
@[simp] theorem placeResult_outside (h : .mgmt ∈ bs) (st : MgmtStatus) (data : List Byte) :
    (placeResult st data s).outside bs = s.outside bs := by
  unfold placeResult
  split <;> simp [h]
@[simp] theorem answerPort_outside (h : .mgmt ∈ bs) (st : MgmtStatus) : (answerPort st s).outside bs = s.outside bs := by
  simp [answerPort, h]
@[simp] theorem writeSetting_outside (h : .mgmt ∈ bs) (x : Settings) : (writeSetting x s).outside bs = s.outside bs := by
  simp [writeSetting, h]
@[simp] theorem readLog_outside (h : .mgmt ∈ bs) : (readLog s).outside bs = s.outside bs := by
  unfold readLog
  split <;> simp [h]
@[simp] theorem handPortRequest_outside (h : .mgmt ∈ bs) (r : PortRequest) :
    (handPortRequest r s).outside bs = s.outside bs := s.setMgmt_outside h _
@[simp] theorem requestMiso_outside (h : .mgmt ∈ bs) (n : Nat) : (requestMiso n s).outside bs = s.outside bs :=
  s.setMgmt_outside h _
@[simp] theorem takeResultTransaction_outside (h : .mgmt ∈ bs) (n : Nat) :
    (takeResultTransaction n s).outside bs = s.outside bs := s.setMgmt_outside h _

end

/-! ### Notices, recall records and map writes -/

section
variable {bs : List Block} (s : State)

@[simp] theorem fillPending_outside (hl : .links ∈ bs) (hr : .recalls ∈ bs) (p : PortId) :
    (fillPending p s).outside bs = s.outside bs := by
  unfold fillPending
  dsimp only
  (repeat' split) <;> simp [hl, hr]

theorem fillPendingTimes_outside (hl : .links ∈ bs) (hr : .recalls ∈ bs) (p : PortId) (n : Nat) :
    (fillPendingTimes p n s).outside bs = s.outside bs := by
  induction n generalizing s with
  | zero => rfl
  | succ n ih => simp [fillPendingTimes, ih, hl, hr]

@[simp] theorem fillAllPending_outside (hl : .links ∈ bs) (hr : .recalls ∈ bs) :
    (fillAllPending s).outside bs = s.outside bs :=
  foldl_keeps (State.outside bs) _ (fun s p => fillPendingTimes_outside s hl hr p _) ports s

@[simp] theorem removeNoticeAndFill_outside (hl : .links ∈ bs) (hr : .recalls ∈ bs) (p : PortId) (f : Notice → Bool) :
    (removeNoticeAndFill p f s).outside bs = s.outside bs := by
  unfold removeNoticeAndFill
  split <;> simp [hl, hr]

@[simp] theorem startUnmap_outside (hr : .recalls ∈ bs) (hm : .mapUnit ∈ bs) (r : RecallRecord) :
    (startUnmap r s).outside bs = s.outside bs := by simp [startUnmap, hr, hm]

@[simp] theorem createRecall_outside (hl : .links ∈ bs) (hr : .recalls ∈ bs) (hm : .mapUnit ∈ bs) (f : Nat)
    (i : MapItem) (reason : RecallReason) (notify : Bool) (origin : Option (PortId × Nat)) :
    (createRecall f i reason notify origin s).outside bs = s.outside bs := by
  unfold createRecall
  dsimp only
  (repeat' split) <;> simp [hl, hr, hm]

@[simp] theorem recallsAtTeardown_outside (hr : .recalls ∈ bs) (hm : .mapUnit ∈ bs) (p : PortId) :
    (recallsAtTeardown p s).outside bs = s.outside bs :=
  foldl_keeps (State.outside bs) _ (fun s r => by simp [hr, hm]) _ s

@[simp] theorem forceRecall_outside (hl : .links ∈ bs) (hr : .recalls ∈ bs) (hm : .mapUnit ∈ bs) (hf : .flight ∈ bs)
    (r : RecallRecord) : (forceRecall r s).outside bs = s.outside bs := by
  unfold forceRecall
  dsimp only
  split <;> simp [hl, hr, hm, hf]

@[simp] theorem takeRecallAck_outside_of_encoded (hl : .links ∈ bs) (hr : .recalls ∈ bs) (hm : .mapUnit ∈ bs)
    (p : PortId) (rid : Nat) : (takeRecallAck p rid true s).outside bs = s.outside bs := by
  unfold takeRecallAck
  (repeat' split) <;> simp_all

end

/-! ### Walks, repairs and translation -/

section
variable {bs : List Block} (s : State)

@[simp] theorem walkAgain_outside (hw : .walker ∈ bs) (hm : .mapUnit ∈ bs) (p : PortId) (hpn : Nat) :
    (walkAgain p hpn s).outside bs = s.outside bs := by
  unfold walkAgain
  split <;> simp [hw, hm]

@[simp] theorem endRepair_outside (hf : .flight ∈ bs) (hw : .walker ∈ bs) (hm : .mapUnit ∈ bs) (p : PortId)
    (hpn : Nat) (d : RepairDetail) : (endRepair p hpn d s).outside bs = s.outside bs := by
  simp [endRepair, hf, hw, hm]

@[simp] theorem endSuperseded_outside (hf : .flight ∈ bs) (hw : .walker ∈ bs) (hm : .mapUnit ∈ bs) (w : QueuedWrite) :
    (endSuperseded w s).outside bs = s.outside bs := by
  unfold endSuperseded
  split <;> simp [hf, hw, hm]

@[simp] theorem createWalk_outside (hw : .walker ∈ bs) (hm : .mapUnit ∈ bs) (p : PortId) (hpn : Nat) :
    (createWalk p hpn s).outside bs = s.outside bs := by simp [createWalk, hw, hm]

@[simp] theorem settlePort_outside (hl : .links ∈ bs) (hq : .requests ∈ bs) (p : PortId) (before : List ReqEntry) :
    (settlePort p before s).outside bs = s.outside bs := by simp [settlePort, hl, hq]

@[simp] theorem settleAll_outside (hl : .links ∈ bs) (hq : .requests ∈ bs) (s0 : State) :
    (settleAll s0 s).outside bs = s.outside bs :=
  foldl_keeps (State.outside bs) _ (fun s p => by simp [hl, hq]) ports s

variable (hq : .requests ∈ bs) (hc : .caches ∈ bs) (hw : .walker ∈ bs) (hm : .mapUnit ∈ bs)
include hq hc hw hm

@[simp] theorem translate_outside (p : PortId) (tag : Nat) : (translate p tag s).outside bs = s.outside bs := by
  unfold translate
  dsimp only
  (repeat' split) <;> simp [hq, hc, hw, hm]

@[simp] theorem retryOne_outside (r : PortId × Nat) : (retryOne s r).outside bs = s.outside bs := by
  unfold retryOne
  (repeat' split) <;> simp [hq, hc, hw, hm]

@[simp] theorem retryAll_outside : (retryAll s).outside bs = s.outside bs :=
  foldl_keeps (State.outside bs) _ (fun s r => retryOne_outside s hq hc hw hm r) _ s

@[simp] theorem deliverWalk_outside (p : PortId) (hpn : Nat) (v : MapValue) :
    (deliverWalk p hpn v s).outside bs = s.outside bs := by
  unfold deliverWalk
  dsimp only
  (repeat' split) <;> simp [hq, hc, hw, hm]

@[simp] theorem unbind_outside (p : PortId) (hpn : Nat) : (unbind p hpn s).outside bs = s.outside bs := by
  unfold unbind
  dsimp only
  rw [foldl_keeps (State.outside bs) _ (fun s e => by simp [hq, hc, hw, hm]),
    foldl_keeps (State.outside bs) _ (fun s e => by simp [hq])]

@[simp] theorem takeMapResult_outside (p : PortId) (hpn : Nat) (v : Option MapValue) :
    (takeMapResult p hpn v s).outside bs = s.outside bs := by
  unfold takeMapResult
  (repeat' split) <;> simp [hq, hc, hw, hm]

end

/-! ### The Allocation Engine's operations -/

section
variable {bs : List Block} (s : State) (hl : .links ∈ bs) (he : .engine ∈ bs)
include hl he

@[simp] theorem takeCommand_outside (p : PortId) : (takeCommand p s).outside bs = s.outside bs := by
  simp [takeCommand, hl, he]

@[simp] theorem refuseCommand_outside (p : PortId) (tag : Nat) (st : Status) :
    (refuseCommand p tag st s).outside bs = s.outside bs := by simp [refuseCommand, hl, he]

@[simp] theorem resolveOffer_outside (o : Offer) (st : Status) : (resolveOffer o st s).outside bs = s.outside bs := by
  simp [resolveOffer, hl, he]

@[simp] theorem claimWritePerformed_outside (p : PortId) (tag : Nat) :
    (claimWritePerformed p tag s).outside bs = s.outside bs := by
  unfold claimWritePerformed
  (repeat' split) <;> simp [hl, he]

@[simp] theorem makeOffer_outside (p : PortId) (tag hpn f : Nat) (t : PortId) (a : Access) :
    (makeOffer p tag hpn f t a s).outside bs = s.outside bs := by simp [makeOffer, hl, he]

@[simp] theorem checkTeardownEnd_outside (p : PortId) : (checkTeardownEnd p s).outside bs = s.outside bs := by
  unfold checkTeardownEnd
  dsimp only
  split <;> simp [hl, he]

@[simp] theorem engineTeardownReport_outside (p : PortId) : (engineTeardownReport p s).outside bs = s.outside bs := by
  unfold engineTeardownReport
  split <;> simp [hl, he]

@[simp] theorem recallTeardownReport_outside (p : PortId) : (recallTeardownReport p s).outside bs = s.outside bs := by
  unfold recallTeardownReport
  split <;> simp [hl, he]

@[simp] theorem queueTeardownReport_outside (p : PortId) : (queueTeardownReport p s).outside bs = s.outside bs := by
  unfold queueTeardownReport
  split <;> simp [hl, he]

@[simp] theorem scanPast_outside (p : PortId) (f : Nat) : (scanPast p f s).outside bs = s.outside bs := by
  unfold scanPast
  split <;> simp [hl, he]

end

section
variable {bs : List Block} (s : State)

@[simp] theorem answerSlot_outside (he : .engine ∈ bs) (hg : .mgmt ∈ bs) (st : MgmtStatus) (data : List Byte) :
    (answerSlot st data s).outside bs = s.outside bs := by simp [answerSlot, he, hg]

@[simp] theorem quarantineFrame_outside (he : .engine ∈ bs) (hf : .flight ∈ bs) (f : Nat) (c : QuarantineCause) :
    (quarantineFrame f c s).outside bs = s.outside bs := by simp [quarantineFrame, he, hf]

@[simp] theorem markDamaged_outside (he : .engine ∈ bs) (hf : .flight ∈ bs) (f : Nat) :
    (markDamaged f s).outside bs = s.outside bs := by
  unfold markDamaged
  dsimp only
  split <;> simp [he, hf]

@[simp] theorem countCorrectable_outside (he : .engine ∈ bs) (hf : .flight ∈ bs) (f : Nat) :
    (countCorrectable f s).outside bs = s.outside bs := by
  unfold countCorrectable
  dsimp only
  split <;> simp [he, hf]

@[simp] theorem removeReader_outside (he : .engine ∈ bs) (hr : .recalls ∈ bs) (f : Nat) (p : PortId) :
    (removeReader f p s).outside bs = s.outside bs := by
  unfold removeReader
  dsimp only
  (repeat' split) <;> simp [he, hr]

@[simp] theorem exitRecalling_outside (hl : .links ∈ bs) (he : .engine ∈ bs) (hx : .scrub ∈ bs) (hf : .flight ∈ bs)
    (f : Nat) : (exitRecalling f s).outside bs = s.outside bs := by
  unfold exitRecalling
  dsimp only
  (repeat' split) <;> simp [hl, he, hx, hf]

@[simp] theorem takeCompletion_outside (hl : .links ∈ bs) (he : .engine ∈ bs) (hr : .recalls ∈ bs) (hx : .scrub ∈ bs)
    (hf : .flight ∈ bs) (r : RecallRecord) : (takeCompletion r s).outside bs = s.outside bs := by
  unfold takeCompletion
  dsimp only
  (repeat' split) <;> simp [hl, he, hr, hx, hf]

@[simp] theorem grantClaim_outside (he : .engine ∈ bs) (hm : .mapUnit ∈ bs) (p : PortId) (tag hpn n : Nat) :
    (grantClaim p tag hpn n s).outside bs = s.outside bs := by
  unfold grantClaim
  dsimp only
  rw [foldl_keeps (State.outside bs) _ (fun s e => by simp [hm]),
    foldl_keeps (State.outside bs) _ (fun s e => by simp [he])]
  simp [he]

section
variable (hl : .links ∈ bs) (he : .engine ∈ bs) (hm : .mapUnit ∈ bs)
include hl he hm

@[simp] theorem examineClaims_outside (cs : List ParkedClaim) : (examineClaims cs s).outside bs = s.outside bs := by
  induction cs generalizing s with
  | nil => simp [examineClaims, he]
  | cons c rest ih =>
    unfold examineClaims
    dsimp only
    (repeat' split) <;> simp [ih, hl, he, hm]

@[simp] theorem examineHead_outside : (examineHead s).outside bs = s.outside bs := examineClaims_outside s hl he hm _

@[simp] theorem removeClaims_outside (g : ParkedClaim → Bool) : (removeClaims g s).outside bs = s.outside bs := by
  unfold removeClaims
  dsimp only
  split <;> simp [hl, he, hm]

@[simp] theorem examineClaim_outside (p : PortId) (tag hpn n : Nat) :
    (examineClaim p tag hpn n s).outside bs = s.outside bs := by
  unfold examineClaim
  (repeat' split) <;> simp [hl, he, hm]

@[simp] theorem scrubOutcome_outside (hf : .flight ∈ bs) (f : Nat) : (scrubOutcome f s).outside bs = s.outside bs := by
  unfold scrubOutcome
  dsimp only
  split <;> simp [hl, he, hm, hf]

@[simp] theorem takeScrubEnd_outside (hf : .flight ∈ bs) (hx : .scrub ∈ bs) (f : Nat) :
    (takeScrubEnd f s).outside bs = s.outside bs := by
  unfold takeScrubEnd
  dsimp only
  split <;> simp [hl, he, hm, hf, hx]

end

section
variable (hl : .links ∈ bs) (he : .engine ∈ bs) (hr : .recalls ∈ bs)

@[simp] theorem noticeSent_outside (he : .engine ∈ bs) (hr : .recalls ∈ bs) (n : Notice) :
    (noticeSent n s).outside bs = s.outside bs := by
  cases n <;> simp [noticeSent, he, hr]

include hl hr

@[simp] theorem informTarget_outside (fill : Bool) (o : Offer) (c : WithdrawnCause) :
    (informTarget fill o c s).outside bs = s.outside bs := by
  unfold informTarget
  (repeat' split) <;> simp [hl, hr]

include he

@[simp] theorem withdrawOffer_outside (fill : Bool) (o : Offer) :
    (withdrawOffer fill o s).outside bs = s.outside bs := by simp [withdrawOffer, hl, he, hr]

@[simp] theorem withdrawFrameOffers_outside (f : Nat) : (withdrawFrameOffers f s).outside bs = s.outside bs :=
  foldl_keeps (State.outside bs) _ (fun s o => by simp [hl, he, hr]) _ s

@[simp] theorem teardownOffer_outside (p : PortId) (fill : Bool) (o : Offer) :
    (teardownOffer p fill s o).outside bs = s.outside bs := by
  unfold teardownOffer
  split <;> simp [hl, he, hr]

@[simp] theorem takeUpOffer_outside (o : Offer) : (takeUpOffer o s).outside bs = s.outside bs := by
  simp [takeUpOffer, hl, he, hr]

@[simp] theorem examineDecline_outside (p : PortId) (tag gid : Nat) :
    (examineDecline p tag gid s).outside bs = s.outside bs := by
  unfold examineDecline
  dsimp only
  split <;> simp [hl, he, hr]

@[simp] theorem sendNotice_outside (p : PortId) (n : Notice) (rest : List Notice) :
    (sendNotice p n rest s).outside bs = s.outside bs := by simp [sendNotice, hl, he, hr]

end

section
variable (hl : .links ∈ bs) (he : .engine ∈ bs) (hr : .recalls ∈ bs) (hm : .mapUnit ∈ bs)
include hl he hr hm

@[simp] theorem enterRecalling_outside (f : Nat) (l : LeaveReason) (q : Bool) (w : MapItem → RecallReason × Bool) :
    (enterRecalling f l q w s).outside bs = s.outside bs := by
  unfold enterRecalling
  dsimp only
  rw [withdrawFrameOffers_outside _ hl he hr, foldl_keeps (State.outside bs) _ (fun s i => by simp [hl, hr, hm])]
  simp [he]

@[simp] theorem recallItem_outside (f : Nat) (i : MapItem) (reason : RecallReason) (notify : Bool)
    (origin : Option (PortId × Nat)) : (recallItem f i reason notify origin s).outside bs = s.outside bs := by
  simp [recallItem, hl, he, hr, hm]

@[simp] theorem examineRelease_outside (p : PortId) (tag hpn : Nat) :
    (examineRelease p tag hpn s).outside bs = s.outside bs := by
  unfold examineRelease
  (repeat' split) <;> simp [hl, he, hr, hm]

@[simp] theorem examineDrop_outside (p : PortId) (tag hpn : Nat) :
    (examineDrop p tag hpn s).outside bs = s.outside bs := by
  unfold examineDrop
  (repeat' split) <;> simp [hl, he, hr, hm]

@[simp] theorem examineAccept_outside (p : PortId) (tag gid hpn : Nat) :
    (examineAccept p tag gid hpn s).outside bs = s.outside bs := by
  unfold examineAccept
  dsimp only
  (repeat' split) <;> simp [hl, he, hr, hm]

@[simp] theorem revokeFrom_outside (p : PortId) (tag f : Nat) (t : PortId) :
    (revokeFrom p tag f t s).outside bs = s.outside bs := by
  unfold revokeFrom
  (repeat' split) <;> simp [hl, he, hr, hm]

@[simp] theorem examineRevoke_outside (p : PortId) (tag hpn target : Nat) :
    (examineRevoke p tag hpn target s).outside bs = s.outside bs := by
  unfold examineRevoke
  (repeat' split) <;> simp [hl, he, hr, hm]

@[simp] theorem takeTeardown_outside (hu : .freeCount ∈ bs) (p : PortId) :
    (takeTeardown p s).outside bs = s.outside bs := by
  unfold takeTeardown
  dsimp only
  rw [State.setEngine_outside _ he, fillAllPending_outside _ hl hr,
    foldl_keeps (State.outside bs) _ (fun s o => by simp [hl, he, hr])]
  simp [hl, he, hm, hu]

@[simp] theorem scanFrame_outside (p : PortId) (f : Nat) (i : MapItem) :
    (scanFrame p f i s).outside bs = s.outside bs := by
  unfold scanFrame
  cases i.role <;> dsimp only <;> split <;> simp [hl, he, hr, hm]

@[simp] theorem scanTurn_outside (p : PortId) (n : Nat) : (scanTurn p n s).outside bs = s.outside bs := by
  unfold scanTurn
  dsimp only
  split <;> simp [hl, he, hr, hm]

@[simp] theorem evictFrame_outside (hg : .mgmt ∈ bs) (f : Nat) (q : Bool) :
    (evictFrame f q s).outside bs = s.outside bs := by
  unfold evictFrame
  split <;> simp [hl, he, hr, hm, hg]

@[simp] theorem takeEvict_outside (hg : .mgmt ∈ bs) (f : Nat) : (takeEvict f s).outside bs = s.outside bs := by
  unfold takeEvict
  split <;> simp [hl, he, hr, hm, hg]

@[simp] theorem takeQuarantine_outside (hg : .mgmt ∈ bs) (hx : .scrub ∈ bs) (hf : .flight ∈ bs) (f : Nat) :
    (takeQuarantine f s).outside bs = s.outside bs := by
  unfold takeQuarantine abortScrub
  (repeat' split) <;> simp [hl, he, hr, hm, hg, hx, hf]

end

@[simp] theorem examineGrant_outside (hl : .links ∈ bs) (he : .engine ∈ bs) (p : PortId) (tag hpn target : Nat)
    (a : Access) : (examineGrant p tag hpn target a s).outside bs = s.outside bs := by
  unfold examineGrant
  (repeat' split) <;> simp [hl, he]

@[simp] theorem takeReturn_outside (he : .engine ∈ bs) (hx : .scrub ∈ bs) (hg : .mgmt ∈ bs) (f : Nat) :
    (takeReturn f s).outside bs = s.outside bs := by
  unfold takeReturn
  dsimp only
  split <;> simp [he, hx, hg]

end

/-! ### Teardown, messages and map accesses -/

section
variable {bs : List Block} (s : State)

@[simp] theorem discardRequests_outside (hq : .requests ∈ bs) (hw : .walker ∈ bs) (p : PortId) :
    (discardRequests p s).outside bs = s.outside bs := by simp [discardRequests, hq, hw]

@[simp] theorem openSession_outside (hl : .links ∈ bs) (p : PortId) : (openSession p s).outside bs = s.outside bs := by
  simp [openSession, hl]

section
variable (ht : teardownBlockList ⊆ bs)
include ht

@[simp] theorem beginTeardown_outside (p : PortId) (c : TeardownCause) :
    (beginTeardown p c s).outside bs = s.outside bs := by
  simp only [teardownBlockList, List.cons_subset] at ht
  simp [beginTeardown, ht]

@[simp] theorem violation_outside (hf : .flight ∈ bs) (p : PortId) (k : Violation) :
    (violation p k s).outside bs = s.outside bs := by simp [violation, ht, hf]

@[simp] theorem takeMalformed_outside (hf : .flight ∈ bs) (p : PortId) :
    (takeMalformed p s).outside bs = s.outside bs := by
  unfold takeMalformed
  split <;> simp [ht, hf]

@[simp] theorem takeAttach_outside (hf : .flight ∈ bs) (p : PortId) : (takeAttach p s).outside bs = s.outside bs := by
  have hl : Block.links ∈ bs := ht (by simp [teardownBlockList])
  unfold takeAttach
  (repeat' split) <;> simp [ht, hf, hl]

@[simp] theorem takeCredit_outside (hf : .flight ∈ bs) (p : PortId) (a b : Nat) (e : Bool) :
    (takeCredit p a b e s).outside bs = s.outside bs := by
  have hl : Block.links ∈ bs := ht (by simp [teardownBlockList])
  unfold takeCredit
  dsimp only
  (repeat' split) <;> simp [ht, hf, hl]

@[simp] theorem takeRecallAck_outside (hf : .flight ∈ bs) (p : PortId) (rid : Nat) (e : Bool) :
    (takeRecallAck p rid e s).outside bs = s.outside bs := by
  have hsub := ht
  simp only [teardownBlockList, List.cons_subset] at hsub
  unfold takeRecallAck
  (repeat' split) <;> simp [ht, hf, hsub]

@[simp] theorem takeResetPort_outside (p : PortId) : (takeResetPort p s).outside bs = s.outside bs := by
  unfold takeResetPort
  split <;> simp [ht]

@[simp] theorem takePoolCommand_outside (hf : .flight ∈ bs) (p : PortId) (tag : Nat) (cmd : PoolCmd) (e : Bool) :
    (takePoolCommand p tag cmd e s).outside bs = s.outside bs := by
  have hl : Block.links ∈ bs := ht (by simp [teardownBlockList])
  unfold takePoolCommand
  dsimp only
  (repeat' split) <;> simp [ht, hf, hl]

@[simp] theorem acceptRequest_outside (hc : .caches ∈ bs) (p : PortId) (tag : Nat) (kind : ReqKind) :
    (acceptRequest p tag kind s).outside bs = s.outside bs := by
  simp only [teardownBlockList, List.cons_subset] at ht
  unfold acceptRequest
  dsimp only
  split <;> simp [ht, hc]

@[simp] theorem takeRequest_outside (hf : .flight ∈ bs) (hc : .caches ∈ bs) (p : PortId) (tag : Nat) (kind : ReqKind)
    (e : Bool) : (takeRequest p tag kind e s).outside bs = s.outside bs := by
  have hl : Block.links ∈ bs := ht (by simp [teardownBlockList])
  unfold takeRequest
  dsimp only
  (repeat' split) <;> simp [ht, hf, hc, hl]

@[simp] theorem takeMessage_outside (hf : .flight ∈ bs) (hc : .caches ∈ bs) (p : PortId) (m : HostMsg) :
    (takeMessage p m s).outside bs = s.outside bs := by
  cases m <;> simp [takeMessage, ht, hf, hc]

@[simp] theorem sendCompletion_outside (p : PortId) (c : Completion) (rest : List Completion) :
    (sendCompletion p c rest s).outside bs = s.outside bs := by
  have hsub := ht
  simp only [teardownBlockList, List.cons_subset] at hsub
  unfold sendCompletion retire
  dsimp only
  split <;> simp [ht, hsub]

@[simp] theorem takePortReset_outside (hg : .mgmt ∈ bs) (p : PortId) :
    (takePortReset p s).outside bs = s.outside bs := by
  unfold takePortReset
  split <;> simp [ht, hg]

@[simp] theorem takePortDisable_outside (hg : .mgmt ∈ bs) (p : PortId) :
    (takePortDisable p s).outside bs = s.outside bs := by
  have hl : Block.links ∈ bs := ht (by simp [teardownBlockList])
  unfold takePortDisable
  dsimp only
  split <;> simp [ht, hg, hl]

end

@[simp] theorem takePortEnable_outside (hl : .links ∈ bs) (hg : .mgmt ∈ bs) (p : PortId) :
    (takePortEnable p s).outside bs = s.outside bs := by
  unfold takePortEnable
  dsimp only
  split <;> simp [hl, hg]

@[simp] theorem leaveIssued_outside (hl : .links ∈ bs) (hq : .requests ∈ bs) (he : .engine ∈ bs) (hr : .recalls ∈ bs)
    (p : PortId) (tag frame : Nat) (got : Gathered) : (leaveIssued p tag frame got s).outside bs = s.outside bs := by
  unfold leaveIssued
  split <;> simp [hl, hq, he, hr]

@[simp] theorem takeLineResult_outside (hl : .links ∈ bs) (hq : .requests ∈ bs) (he : .engine ∈ bs)
    (hr : .recalls ∈ bs) (p : PortId) (r : LineResult) : (takeLineResult p r s).outside bs = s.outside bs := by
  unfold takeLineResult
  dsimp only
  (repeat' split) <;> simp [hl, hq, he, hr]

@[simp] theorem sendLine_outside (hq : .requests ∈ bs) (hn : .channels ∈ bs) (c : ChannelId) (p : PortId) (r : Round) :
    (sendLine c p r s).outside bs = s.outside bs := by
  unfold sendLine
  (repeat' split) <;> simp [hq, hn]

@[simp] theorem sendScrub_outside (hx : .scrub ∈ bs) (hn : .channels ∈ bs) (c : ChannelId) (r : Round) (f : Nat) :
    (sendScrub c r f s).outside bs = s.outside bs := by simp [sendScrub, hx, hn]

@[simp] theorem sendMapRead_outside (hm : .mapUnit ∈ bs) (hn : .channels ∈ bs) (x : Round) (r : MapRead) :
    (sendMapRead x r s).outside bs = s.outside bs := by simp [sendMapRead, hm, hn]

@[simp] theorem reportPerformed_outside (hl : .links ∈ bs) (he : .engine ∈ bs) (hr : .recalls ∈ bs) (hf : .flight ∈ bs)
    (hw : .walker ∈ bs) (hm : .mapUnit ∈ bs) (w : MapWrite) : (reportPerformed w s).outside bs = s.outside bs := by
  unfold reportPerformed
  split <;> simp [hl, he, hr, hf, hw, hm]

section
variable (hb : [Block.links, .requests, .caches, .walker, .mapUnit, .engine, .recalls, .channels, .flight] ⊆ bs)
include hb

@[simp] theorem performWrite_outside (w : QueuedWrite) : (performWrite w s).outside bs = s.outside bs := by
  simp only [List.cons_subset] at hb
  simp [performWrite, hb]

@[simp] theorem sendMapAccess_outside (r : Round) : (sendMapAccess r s).outside bs = s.outside bs := by
  have hsub := hb
  simp only [List.cons_subset] at hsub
  unfold sendMapAccess sendMapWrite
  dsimp only
  (repeat' split) <;> simp [hb, hsub]

end

@[simp] theorem endMapClear_outside (hd : .device ∈ bs) (hm : .mapUnit ∈ bs) (hx : .scrub ∈ bs) :
    (endMapClear s).outside bs = s.outside bs := by simp [endMapClear, hd, hm, hx]

@[simp] theorem readAccess_outside (hf : .flight ∈ bs) (hd : .dram ∈ bs) (a : Access64) (e : EccCondition)
    (store : List Byte → Option (List Byte)) (outcome : List Byte → AccessOutcome) :
    (readAccess a e store outcome s).outside bs = s.outside bs := by
  rw [(readAccess_onlyDramAndFlight store outcome : s.onlyDramAndFlight (readAccess a e store outcome s))]
  simp [hf, hd]

end

/-! ### Resets and management requests -/

section
variable {bs : List Block} (s : State)

@[simp] theorem discardAccess_outside (hd : .dram ∈ bs) (hu : .freeCount ∈ bs) (a : Access64) :
    (discardAccess s a).outside bs = s.outside bs := by
  unfold discardAccess
  dsimp only
  (repeat' split) <;> simp [hd, hu]

@[simp] theorem discardAccesses_outside (hd : .dram ∈ bs) (hu : .freeCount ∈ bs) :
    (discardAccesses s).outside bs = s.outside bs :=
  foldl_keeps (State.outside bs) (fun s (ch : Channel) => ch.queue.foldl discardAccess s)
    (fun s ch => foldl_keeps (State.outside bs) _ (fun s a => discardAccess_outside s hd hu a) ch.queue s) _ _

/-- A reset that keeps the population leaves it as it is. -/
theorem resetBlocks_outside_of_pop (hb : resetBlockList ⊆ bs) (startUp : Bool) :
    (resetBlocks s.pop startUp s).outside bs = s.outside bs := by
  simp only [resetBlockList, List.cons_subset] at hb
  simp [resetBlocks, State.outside, hb]

theorem discardAccesses_pop : (discardAccesses s).pop = s.pop := by
  simpa [State.outside] using congrArg State.pop (discardAccesses_outside (bs := [.dram, .freeCount]) s (by simp) (by simp))

@[simp] theorem chipReset_outside (hb : resetBlockList ⊆ bs) (hg : .mgmt ∈ bs) (hu : .freeCount ∈ bs) :
    (chipReset s).outside bs = s.outside bs := by
  have hd : Block.dram ∈ bs := hb (by simp [resetBlockList])
  have hkept := resetBlocks_outside_of_pop (discardAccesses s) hb true
  rw [discardAccesses_pop] at hkept
  simp [chipReset, hg, hkept, hd, hu]

/-- Only CHIP-RESET reaches more than the Management Interface and the slot of the Allocation Engine. -/
theorem runRequest_outside (hg : .mgmt ∈ bs) (he : .engine ∈ bs) {r : MgmtReq} (hr : r ≠ .chipReset) :
    (runRequest r s).outside bs = s.outside bs := by
  cases r <;> simp_all [runRequest]

theorem takeMgmtRequest_outside (hg : .mgmt ∈ bs) {r : MgmtReq} (id : Nat)
    (hrun : badArgument r s.frames = false → ∀ s, (runRequest r s).outside bs = s.outside bs) :
    (takeMgmtRequest id r s).outside bs = s.outside bs := by
  unfold takeMgmtRequest
  split
  · simp [hg]
  · dsimp only
    split
    · simp [hg]
    · next h => rw [hrun (by simpa using h)]; simp [hg]

end

/-! ### The commands -/

/-- If the outcome is a next state, it agrees with `s` outside `bs`. -/
def leavesOutside (bs : List Block) (s : State) (o : Host.Outcome State Fault Refusal) : Prop :=
  ∀ t, o = .next t → t.outside bs = s.outside bs

section
variable {bs : List Block} {s t : State}

theorem leavesOutside_next (h : t.outside bs = s.outside bs) : leavesOutside bs s (.next t) := by
  intro u hu
  cases hu
  exact h

theorem leavesOutside_whenOperating (h : t.outside bs = s.outside bs) : leavesOutside bs s (whenOperating s t) := by
  refine leavesOutside_next ?_
  split
  · exact h
  · rfl

theorem leavesOutside_onArrival (p : PortId) (h : t.outside bs = s.outside bs) : leavesOutside bs s (onArrival p s t) := by
  refine leavesOutside_whenOperating ?_
  split
  · exact h
  · rfl

theorem leavesOutside_onEngine (h : t.outside bs = s.outside bs) : leavesOutside bs s (onEngine s t) := by
  refine leavesOutside_whenOperating ?_
  split
  · exact h
  · rfl

theorem leavesOutside_carryOut (hn : .channels ∈ bs) (c : ChannelId) (i : Nat) (a : Access64) {f : State → State}
    (hf : ∀ s, (f s).outside bs = s.outside bs) : leavesOutside bs s (carryOut c i a f s) := by
  unfold carryOut
  split
  · exact leavesOutside_next (by simp [hf, hn])
  · intro t ht
    cases ht

end

/-- The frame of every command. The commands that carry a memory request are given the Translation Caches too: a FENCE,
FLUSH or DETACH whose tag an earlier entry of the queue carries translates that entry. -/
theorem exec_outside (c : Instr) (s : State) : leavesOutside (.caches :: touches c) s (exec c s) := by
  cases c
  case powerOn pins =>
    refine leavesOutside_next ?_
    simp [resetBlocks, State.outside, touches, resetBlockList]
  case resetNAssert =>
    refine leavesOutside_next ?_
    split
    · have hkept := discardAccesses_outside (bs := .caches :: touches (.resetNAssert 0)) s (by simp [touches, resetBlockList])
        (by simp [touches])
      simpa [resetBlocks, State.outside, touches, resetBlockList] using hkept
    · simp [State.outside, touches, resetBlockList]
  case resetNRelease =>
    refine leavesOutside_next ?_
    dsimp only
    (repeat' split) <;> simp [State.outside, touches]
  case supplyFail => exact leavesOutside_next (by simp [State.outside, touches])
  case attach => exact leavesOutside_onArrival _ (takeAttach_outside _ (by simp [touches]) (by simp [touches]) _)
  case credit => exact leavesOutside_onArrival _ (takeCredit_outside _ (by simp [touches]) (by simp [touches]) ..)
  case recallAck => exact leavesOutside_onArrival _ (takeRecallAck_outside _ (by simp [touches]) (by simp [touches]) ..)
  case resetPort => exact leavesOutside_onArrival _ (takeResetPort_outside _ (by simp [touches]) _)
  case commandArrival =>
    exact leavesOutside_onArrival _ (takePoolCommand_outside _ (by simp [touches]) (by simp [touches]) ..)
  case read | write | cswap | fence | flush | detach =>
    exact leavesOutside_onArrival _ (takeRequest_outside _ (by simp [touches, teardownBlockList]) (by simp [touches]) (by simp) ..)
  case malformedMessage =>
    refine leavesOutside_onArrival _ ?_
    split
    · exact takeMalformed_outside _ (by simp [touches, teardownBlockList]) (by simp [touches]) _
    · exact takeMessage_outside _ (by simp [touches, teardownBlockList]) (by simp [touches]) (by simp) ..
  case claim | release | drop | grant | accept | decline | revoke =>
    refine leavesOutside_whenOperating ?_
    split <;> simp [serveCommand, touches]
  case engineTakesTeardown | claimDeadline | offerDeadline | recallCompletionReport | scrubEndReport | correctableReport =>
    refine leavesOutside_onEngine ?_
    (repeat' split) <;> simp [touches]
  case uncorrectableReport =>
    refine leavesOutside_onEngine ?_
    dsimp only
    (repeat' split) <;> simp [touches]
  case linkDown p =>
    refine leavesOutside_whenOperating ?_
    dsimp only
    split
    · split
      case h_2 =>
        rw [beginTeardown_outside _ (by simp [touches, teardownBlockList])]
        simp [touches, teardownBlockList]
      all_goals simp [touches, teardownBlockList]
    · rfl
  case completionSend =>
    refine leavesOutside_whenOperating ?_
    dsimp only
    (repeat' split) <;> first
      | exact sendCompletion_outside _ (by simp [touches, teardownBlockList]) ..
      | rfl
  case trainingCompletes | noticeSend =>
    refine leavesOutside_whenOperating ?_
    dsimp only
    (repeat' split) <;> simp [touches]
  case portDisable =>
    refine leavesOutside_whenOperating ?_
    split
    · exact takePortDisable_outside _ (by simp [touches, teardownBlockList]) (by simp [touches]) _
    · rfl
  case portReset =>
    refine leavesOutside_whenOperating ?_
    split
    · exact takePortReset_outside _ (by simp [touches, teardownBlockList]) (by simp [touches]) _
    · rfl
  case portEnable | getPoolStatus | getPortStatus | queryFrame | evict | quarantine | returnFrame =>
    refine leavesOutside_whenOperating ?_
    split <;> simp [touches]
  case farEndDetected | trainingFails | teardownScan | recallDeadline | repairSearchStep | mapAccessGrant |
      mapClearWrite | portAccessGrant | scrubAccessGrant | mapReadResult | lineResult | scrubResult |
      faultRecordAppend | resultTransaction =>
    refine leavesOutside_whenOperating ?_
    (repeat' split) <;> simp [touches]
  case setQuota | setWeight | setTimeout | setThreshold | logRead =>
    refine leavesOutside_whenOperating ?_
    rw [takeMgmtRequest_outside _ (by simp [touches]) _ (fun _ s => by simp [runRequest, touches])]
    simp [touches]
  case chipReset =>
    refine leavesOutside_whenOperating ?_
    rw [takeMgmtRequest_outside _ (by simp [touches]) _
      (fun _ s => chipReset_outside s (by simp [touches, resetBlockList]) (by simp [touches]) (by simp [touches]))]
    simp [touches]
  case mgmtRequestTransaction bytes =>
    refine leavesOutside_whenOperating ?_
    split
    · rfl
    · simp [touches]
    · next id r _ =>
      rw [takeMgmtRequest_outside _ (by simp [touches]) _ (fun _ s => ?_)]
      · simp [touches]
      · by_cases hr : r = .chipReset
        · subst hr
          exact chipReset_outside s (by simp [touches, resetBlockList]) (by simp [touches]) (by simp [touches])
        · exact runRequest_outside _ (by simp [touches]) (by simp [touches, resetBlockList]) hr
  case channelRead | channelFullWrite | channelPartialWrite | channelCswap =>
    simp only [exec, execChannelRead, execChannelFullWrite, execChannelPartialWrite, execChannelCswap]
    (repeat' split) <;> first
      | exact leavesOutside_carryOut (by simp [touches]) _ _ _ (fun s => by simp [touches])
      | exact leavesOutside_next rfl

end Sys2Proof.Machine
end

section
/-! What every command's outcome is: a next state, but for a channel's access to a frame that the pool does not have; and
that no command changes the queue of waiting commands. -/

namespace Sys2Proof.Machine

/-- Settles O1: both sides take the front command. -/
theorem stepTakesFrontCommand : Obligations.StepTakesFrontCommand := by
  unfold Obligations.StepTakesFrontCommand
  intro c rest s
  rfl

/-- The outcome is a next state, or a fault at an access of a Channel Queue that names a frame outside the pool. -/
def nextOrNoSuchFrame (s : State) (o : Host.Outcome State Fault Refusal) : Prop :=
  (∃ t, o = .next t) ∨ ∃ d, ∃ a ∈ (s.channel d).queue, s.frames ≤ a.frame ∧ o = .fault (.noSuchFrame a.frame)

theorem nextOrNoSuchFrame_next (s t : State) : nextOrNoSuchFrame s (.next t) := .inl ⟨t, rfl⟩

theorem State.mem_queue_of_carriedOut {s : State} {c : ChannelId} {i : Nat} {a : Access64}
    (h : s.carriedOut c i = some a) : a ∈ (s.channel c).queue := by
  unfold State.carriedOut at h
  split at h
  · cases h
  · next b hb =>
    split at h
    · cases h
    · cases h
      exact List.mem_of_getElem? hb

theorem nextOrNoSuchFrame_carryOut {s : State} {c : ChannelId} {i : Nat} {a : Access64}
    (h : s.carriedOut c i = some a) (f : State → State) : nextOrNoSuchFrame s (carryOut c i a f s) := by
  unfold carryOut
  split
  · exact nextOrNoSuchFrame_next _ _
  · next hf => exact .inr ⟨c, a, State.mem_queue_of_carriedOut h, not_lt.1 hf, rfl⟩

/-- Only the four channel commands can end otherwise than in a next state. -/
theorem exec_nextOrNoSuchFrame (c : Instr) (s : State) : nextOrNoSuchFrame s (exec c s) := by
  cases c
  case channelRead | channelFullWrite | channelPartialWrite | channelCswap =>
    simp only [exec, execChannelRead, execChannelFullWrite, execChannelPartialWrite, execChannelCswap]
    split
    · split
      · next a ha =>
        split <;> first
          | exact nextOrNoSuchFrame_carryOut ha _
          | exact nextOrNoSuchFrame_next _ _
      · exact nextOrNoSuchFrame_next _ _
    · exact nextOrNoSuchFrame_next _ _
  all_goals exact .inl ⟨_, rfl⟩

/-- Settles O2: the queue by the frame of every command, the outcomes by `exec_nextOrNoSuchFrame`. -/
theorem commandsKeepQueueAndDoNotStop : Obligations.CommandsKeepQueueAndDoNotStop := by
  unfold Obligations.CommandsKeepQueueAndDoNotStop
  intro c s
  refine ⟨fun t ht => State.pending_of_outside (exec_outside c s t ht), fun r hr => ?_, fun hframes f hf => ?_⟩
  · rcases exec_nextOrNoSuchFrame c s with ⟨t, ht⟩ | ⟨d, a, -, -, ha⟩ <;> simp_all
  · rcases exec_nextOrNoSuchFrame c s with ⟨t, ht⟩ | ⟨d, a, ha, hout, -⟩
    · simp_all
    · exact absurd (hframes d a ha) (not_lt.2 hout)

/-! ### A FENCE that moves a cache entry -/

/-- Port 0 in a session with an entry of tag 0 WAITING in its queue, that tag not among the outstanding ones, and the
entry's page second in the Translation Cache. -/
def State.queuedTagFree : State :=
  ((State.reset.setLink 0
    { LinkPort.afterReset [] with link := .up, state := .attached, requestCredits := 31 }).setQueue 0
    [{ tag := 0, kind := .read .normal 5 0 1, state := .waiting }]).setCache 0
    [{ hpn := 4, frame := 1, access := .read }, { hpn := 5, frame := 2, access := .read }]

/-- Settles O3, refuted: `touches` gives a FENCE no Translation Cache, and a FENCE that arrives with the tag of a WAITING
READ of its queue (a tag that the Link Port does not list) translates that READ, whose hit moves a cache entry. -/
theorem not_commandsChangeOnlyTheirBlocks : ¬ Obligations.CommandsChangeOnlyTheirBlocks := by
  unfold Obligations.CommandsChangeOnlyTheirBlocks
  intro h
  have hcaches := (h (.fence 0 0) State.queuedTagFree _ rfl).2.1 .caches (by decide)
  have hmoved : ((takeRequest 0 0 .fence (requestEncoded 0 .fence) State.queuedTagFree).cache 0).map CacheEntry.hpn =
      [5, 4] := by decide
  have hbefore : (State.queuedTagFree.cache 0).map CacheEntry.hpn = [4, 5] := by decide
  have hsame : (takeRequest 0 0 .fence (requestEncoded 0 .fence) State.queuedTagFree).cache 0 =
      State.queuedTagFree.cache 0 := congrArg (fun q => Quad.get q 0) hcaches
  rw [hsame, hbefore] at hmoved
  exact absurd hmoved (by decide)

/-! ### The part after power-on -/

/-- Settles O4, each value from the definition of the reset state. -/
theorem resetLeavesStatedValues : Obligations.ResetLeavesStatedValues := by
  unfold Obligations.ResetLeavesStatedValues
  refine ⟨rfl, rfl, ?_, rfl, rfl, rfl, rfl, rfl, rfl, rfl, rfl, rfl, rfl, rfl, rfl, rfl, ?_, rfl, rfl, rfl, rfl, rfl, rfl,
    rfl, rfl, rfl, rfl, fun f => ⟨rfl, rfl, rfl, rfl, rfl, rfl, rfl⟩⟩
  · intro p
    have hlink : State.reset.link p = LinkPort.afterReset [] := Quad.get_all _ p
    have hqueue : State.reset.queue p = [] := Quad.get_all _ p
    have hcache : State.reset.cache p = [] := Quad.get_all _ p
    have hpending : State.reset.recalls.pendingLists.get p = [] := Quad.get_all _ p
    have hheld : State.reset.engine.held.get p = 0 := Quad.get_all _ p
    simp [hlink, hqueue, hcache, hpending, hheld, LinkPort.afterReset]
  · intro c
    have hchannel : State.reset.channel c = Channel.afterReset Settings.default.weight := Quad.get_all _ c
    simp [hchannel, Channel.afterReset, Round.afterReset, Settings.default]

end Sys2Proof.Machine
end

section
/-! The part after power-on meets every invariant: its tables are empty, and each frame but frame 0 waits to be scrubbed. -/

namespace Sys2Proof.Machine

@[simp] theorem State.reset_link (p : PortId) : State.reset.link p = LinkPort.afterReset [] := Quad.get_all _ p
@[simp] theorem State.reset_queue (p : PortId) : State.reset.queue p = [] := Quad.get_all _ p
@[simp] theorem State.reset_cache (p : PortId) : State.reset.cache p = [] := Quad.get_all _ p
@[simp] theorem State.reset_channel_queue (c : ChannelId) : (State.reset.channel c).queue = [] :=
  congrArg Channel.queue (Quad.get_all _ c)
theorem State.reset_record (f : Nat) : State.reset.record f = FrameRecord.afterReset f := rfl

theorem State.reset_scrub : State.reset.scrub = Scrub.afterReset State.reset.frames := rfl

theorem State.reset_withinCapacity : State.reset.withinCapacity := by
  refine ⟨by decide, fun p => by simp [LinkPort.afterReset], by decide, by decide, by decide, by decide, by decide, .inl rfl,
    by decide, fun p => by simp, fun p => by simp [LinkPort.afterReset], fun c => by simp, ?_, by decide⟩
  rw [State.reset_scrub]
  exact Nat.zero_le _

theorem LinkPort.afterReset_sessionInOrder (sent : List OutMsg) : (LinkPort.afterReset sent).sessionInOrder := by
  simp [LinkPort.sessionInOrder, LinkPort.afterReset]

theorem LinkPort.afterReset_stateFitsLink (sent : List OutMsg) : (LinkPort.afterReset sent).stateFitsLink := by
  simp [LinkPort.stateFitsLink, LinkPort.afterReset]

theorem State.reset_sessionsInOrder : State.reset.sessionsInOrder := fun p => by
  simp [LinkPort.afterReset_sessionInOrder, LinkPort.afterReset_stateFitsLink]

theorem Scrub.afterReset_zero_not_mem (frames : Nat) : 0 ∉ (Scrub.afterReset frames).queue := by
  simp [Scrub.afterReset, List.mem_range'_1]

theorem State.reset_frameZeroApart : State.reset.frameZeroApart := by
  refine ⟨rfl, rfl, List.not_mem_nil, ?_, ?_, List.forall_mem_nil _, List.forall_mem_nil _, List.forall_mem_nil _, List.forall_mem_nil _, fun p n w h => ?_⟩
  · rw [State.reset_scrub]
    exact Scrub.afterReset_zero_not_mem _
  · rw [State.reset_scrub]
    exact Option.some_ne_none 0 |>.symm
  have hidle : State.reset.engine.teardown.get p = .idle := Quad.get_all _ p
  rw [hidle] at h
  cases h

theorem State.reset_requestsInOrder : State.reset.requestsInOrder := fun p => by
  simp [LinkPort.afterReset]

theorem State.reset_framesInOrder : State.reset.framesInOrder := by
  have hframes : State.reset.scrub.frames = List.range' 1 (State.reset.frames - 1) := by
    rw [State.reset_scrub]
    exact List.append_nil _
  refine ⟨rfl, ⟨List.nodup_nil, List.forall_mem_nil _, List.forall_mem_nil _⟩, ⟨?_, ?_, ?_, ?_⟩, fun p => Quad.get_all _ p, List.forall_mem_nil _, ⟨List.forall_mem_nil _, List.nodup_nil⟩,
    ⟨List.forall_mem_nil _, List.nodup_nil⟩, rfl⟩
  · rw [hframes]
    exact List.nodup_range'
  · intro f hf
    rw [hframes, List.mem_range'_1] at hf
    refine ⟨by omega, ?_⟩
    simp [State.reset_record, FrameRecord.afterReset, show f ≠ 0 by omega]
  · intro f hf _
    rw [hframes]
    exact hf
  · rw [State.reset_scrub]
    simp [Scrub.afterReset]

theorem State.reset_walksInOrder : State.reset.walksInOrder := by
  refine ⟨List.nodup_nil, List.Perm.refl _, ?_, List.Perm.refl _, fun c a ha => ?_⟩
  · simp [State.mapReadsInQueue, State.reset, MapUnit.afterReset, InFlight.none, State.channel, Channel.afterReset]
  · simp at ha

theorem State.reset_startingInOrder : State.reset.startingInOrder := by
  refine ⟨fun _ => rfl, fun _ => Bool.noConfusion, fun _ => ⟨fun p => ?_, rfl, rfl, rfl, rfl, rfl, List.forall_mem_nil _⟩⟩
  simp [LinkPort.afterReset]

theorem State.reset_mapsInOrder : State.reset.mapsInOrder := by
  refine ⟨State.reset_walksInOrder, ⟨List.nodup_nil, List.nodup_nil, List.forall_mem_nil _, List.forall_mem_nil _, List.nodup_nil, List.forall_mem_nil _⟩,
    ⟨List.nodup_nil, List.forall_mem_nil _, List.forall_mem_nil _, List.Pairwise.nil⟩, State.reset_startingInOrder, ?_, List.forall_mem_nil _, List.forall_mem_nil _, ?_, List.forall_mem_nil _, List.forall_mem_nil _⟩
  · rintro p h - (hrun | ⟨n, hn, hlt⟩)
    · cases hrun
    · have hzero : (0 : Nat) = n := Option.some.inj hn
      omega
  · intro p c hc
    simp at hc

/-- Settles O51, an invariant at a time. -/
theorem resetMeetsInvariants : Obligations.ResetMeetsInvariants := by
  unfold Obligations.ResetMeetsInvariants
  exact ⟨rfl, Mgmt.afterReset_logInOrder, State.reset_withinCapacity, State.reset_sessionsInOrder, State.reset_frameZeroApart,
    State.reset_requestsInOrder, State.reset_framesInOrder, State.reset_mapsInOrder⟩

end Sys2Proof.Machine
end

section
/-! The power and reset events and CHIP-RESET (R148, R158, R178, R188): the values they give every block, and that a part
which is held takes no other command. -/

namespace Sys2Proof.Machine

/-! ### A part that is held (R158) -/

theorem exec_of_held {c : Instr} {s : State} (hheld : s.operating = false) (hpower : ∀ q, c ≠ .powerOn q)
    (hassert : ∀ q, c ≠ .resetNAssert q) (hrelease : c ≠ .resetNRelease) (hfail : c ≠ .supplyFail) :
    exec c s = .next s := by
  have hwhen : ∀ t, whenOperating s t = .next s := fun t => by simp [whenOperating, hheld]
  cases c
  case powerOn q => exact absurd rfl (hpower q)
  case resetNAssert q => exact absurd rfl (hassert q)
  case resetNRelease => exact absurd rfl hrelease
  case supplyFail => exact absurd rfl hfail
  case channelRead | channelFullWrite | channelPartialWrite | channelCswap =>
    simp [exec, execChannelRead, execChannelFullWrite, execChannelPartialWrite, execChannelCswap, hheld]
  all_goals exact hwhen _

/-! ### The blocks after a reset -/

section
variable (pop : Population) (startUp : Bool) (s : State)

theorem resetBlocks_link (p : PortId) : (resetBlocks pop startUp s).link p = LinkPort.afterReset (s.link p).sent := by
  fin_cases p <;> rfl

theorem resetBlocks_queue (p : PortId) : (resetBlocks pop startUp s).queue p = [] := Quad.get_all _ p

theorem resetBlocks_cache (p : PortId) : (resetBlocks pop startUp s).cache p = [] := Quad.get_all _ p

theorem resetBlocks_channel (c : ChannelId) :
    (resetBlocks pop startUp s).channel c = Channel.afterReset s.mgmt.settings.weight := Quad.get_all _ c

end

theorem discardAccesses_link (s : State) (p : PortId) : (discardAccesses s).link p = s.link p :=
  congrArg (fun q => Quad.get q p) (Block.same_of_outside (discardAccesses_outside (bs := [.dram, .freeCount]) s (by simp)
    (by simp)) (b := .links) (by simp))

theorem discardAccesses_operating (s : State) : (discardAccesses s).operating = s.operating := by
  have hkept := discardAccesses_outside (bs := [.dram, .freeCount]) s (by simp) (by simp)
  have hsupply : (discardAccesses s).supplyValid = s.supplyValid := Block.same_of_outside hkept (b := .supply) (by simp)
  have hpin : (discardAccesses s).resetAsserted = s.resetAsserted := Block.same_of_outside hkept (b := .resetPin) (by simp)
  simp [State.operating, hsupply, hpin]

theorem discardAccesses_supplyValid (s : State) : (discardAccesses s).supplyValid = s.supplyValid :=
  Block.same_of_outside (discardAccesses_outside (bs := [.dram, .freeCount]) s (by simp) (by simp)) (b := .supply) (by simp)

/-- Settles O5, an event at a time. -/
theorem powerAndResetEventsSetEveryBlock : Obligations.PowerAndResetEventsSetEveryBlock := by
  unfold Obligations.PowerAndResetEventsSetEveryBlock
  intro held
  have hheld : ∀ t : State, t.operating = false → held t := fun t ht => ⟨ht, fun c h1 h2 h3 h4 => exec_of_held ht h1 h2 h3 h4⟩
  refine ⟨fun pins s => ?power, fun pins s hop => ?assert, fun pins s hop => ?assertHeld, fun s hlow => ?release,
    fun s => ?fail⟩
  case power =>
    refine ⟨_, rfl, rfl, rfl, rfl, rfl, fun p => ⟨?_, Quad.get_all _ p, Quad.get_all _ p⟩, rfl, rfl, rfl, rfl, ?_, rfl, rfl,
      rfl, fun hhigh => ⟨?_, ?_⟩, fun hlow => ⟨?_, hheld _ ?_⟩⟩
    · rw [resetBlocks_link]
      rfl
    · rw [State.reset_scrub]
      rfl
    · show MapUnit.afterReset (!s.resetAsserted) = MapUnit.afterReset true
      rw [hhigh]
      rfl
    · simp [State.operating, resetBlocks, hhigh]
    · show MapUnit.afterReset (!s.resetAsserted) = { MapUnit.afterReset true with clearNext := none }
      rw [hlow]
      rfl
    · simp [State.operating, resetBlocks, hlow]
  case assert =>
    have hsupply : s.supplyValid = true := by
      simp only [State.operating, Bool.and_eq_true] at hop
      exact hop.1
    have hexec : exec (.resetNAssert pins) s = .next (resetBlocks (Population.ofPins pins) false
        ({ discardAccesses s with resetAsserted := true }.setMgmt Mgmt.afterReset)) := by
      simp [exec, execResetNAssert, hop]
    refine ⟨_, hexec, hheld _ ?_, ?_, rfl, rfl, rfl,
      fun p => ⟨?_, Quad.get_all _ p, Quad.get_all _ p⟩, fun c => Quad.get_all _ c, rfl, rfl, rfl, rfl, rfl, rfl, rfl⟩
    · simp [State.operating, resetBlocks]
    · exact (discardAccesses_supplyValid s).trans hsupply
    · rw [resetBlocks_link]
      exact congrArg (fun l => LinkPort.afterReset l.sent) (discardAccesses_link s p)
  case assertHeld =>
    exact ⟨by simp [exec, execResetNAssert, hop], hheld _ (by simp [State.operating])⟩
  case release =>
    constructor <;> intro hsupply <;> simp [exec, execResetNRelease, hlow, hsupply, State.setMapUnit]
  case fail =>
    refine ⟨_, rfl, hheld _ rfl, rfl, fun p => ?_⟩
    fin_cases p <;> rfl

/-! ### CHIP-RESET (R188) -/

/-- The part after CHIP-RESET has taken its request: every block but the Management Interface. -/
theorem chipReset_eq (s : State) : chipReset s = placeResult .ok []
    ((resetBlocks (discardAccesses s).pop true (discardAccesses s)).setMgmt
      { appendFault .chipReset s.mgmt with portSlot := none }) := by
  show placeResult .ok [] ((resetBlocks s.pop true (discardAccesses s)).setMgmt
    { appendFault .chipReset (discardAccesses s).mgmt with portSlot := none }) = _
  rw [discardAccesses_mgmt, discardAccesses_pop]

theorem chipReset_of_running {id : Nat} {r : MgmtReq} {s : State} (hrun : s.mgmt.buffer = .running id r) :
    chipReset s = (resetBlocks (discardAccesses s).pop true (discardAccesses s)).setMgmt
      { appendFault .chipReset s.mgmt with portSlot := none, buffer := .ready id r .ok [] } := by
  rw [chipReset_eq, placeResult_of_running (id := id) (r := r) (by exact hrun)]
  rfl

/-- `s` with the request taken that a CHIP_RESET with this id carries. -/
def State.tookChipReset (s : State) (id : Nat) : State :=
  (requestMiso 2 s).setMgmt ((requestMiso 2 s).mgmt.taken id .chipReset)

theorem exec_chipReset_of_not_running {s : State} (hop : s.operating = true)
    (hbuffer : ∀ i r, s.mgmt.buffer ≠ .running i r) (id : Nat) :
    exec (.chipReset id) s = .next (chipReset (s.tookChipReset id)) := by
  show whenOperating s _ = _
  rw [whenOperating, hop, takeMgmtRequest_of_not_running (by exact hbuffer)]
  rfl

/-- Settles O6: the state that answers is written out by `chipReset_of_running`, and each clause reads one part of it. -/
theorem chipResetKeepsManagementState : Obligations.ChipResetKeepsManagementState := by
  unfold Obligations.ChipResetKeepsManagementState
  intro id s hop hbuffer
  refine ⟨_, exec_chipReset_of_not_running hop hbuffer id, ?_⟩
  rw [chipReset_of_running (id := id) (r := .chipReset) rfl]
  refine ⟨(discardAccesses_operating _).trans hop, rfl, discardAccesses_pop _, rfl, rfl, rfl, rfl, rfl, rfl,
    fun p => ⟨?_, Quad.get_all _ p, Quad.get_all _ p⟩, rfl, rfl, rfl, rfl, fun c => ?_, ?_, rfl⟩
  · have hlink := resetBlocks_link (discardAccesses (s.tookChipReset id)).pop true (discardAccesses (s.tookChipReset id)) p
    rw [discardAccesses_link] at hlink
    exact hlink
  · have hchannel :=
      resetBlocks_channel (discardAccesses (s.tookChipReset id)).pop true (discardAccesses (s.tookChipReset id)) c
    rw [discardAccesses_mgmt] at hchannel
    exact hchannel
  · show Scrub.afterReset (discardAccesses _).pop.frames = _
    rw [discardAccesses_pop]
    rfl

end Sys2Proof.Machine
end

section
/-! Pool memory, map lines and line conditions over a step (R133, R135, R136, R140, R148): what the channels' accesses and
the resets store, and that nothing else reaches DRAM. -/

namespace Sys2Proof.Machine

/-! ### Reading elsewhere, in any form of the table -/

/-- Putting a value at one key leaves what every other key reads, also where the table is not in canonical form. -/
theorem sparseGet_sparsePut_ne {α : Type} [DecidableEq α] (d : Nat → α) (m : List (Nat × α)) {k j : Nat} (v : α)
    (hj : j ≠ k) : sparseGet d (sparsePut d m k v) j = sparseGet d m j := by
  induction m with
  | nil => by_cases hv : v = d k <;> simp [sparsePut, sparseGet, hv, hj.symm]
  | cons e t ih =>
    unfold sparsePut
    split
    · split <;> simp [sparseGet, hj.symm]
    · split
      · next hk => split <;> simp [sparseGet, ← hk, hj.symm]
      · simp [sparseGet, ih]

theorem Memory.read_writeBytes_outside (bs : List Byte) (m : Memory) {a x : Nat} (hx : x < a ∨ a + bs.length ≤ x) :
    Memory.read (Memory.writeBytes m a bs) x = Memory.read m x := by
  induction bs generalizing m a with
  | nil => rfl
  | cons b bs ih =>
    rw [List.length_cons] at hx
    exact (ih _ (by omega)).trans (sparseGet_sparsePut_ne _ _ _ (by omega))

theorem Dram.read_storeLine_elsewhere (d : Dram) {n x : Nat} (bs : List Byte) (hx : x < byteAddr n ∨ byteAddr n + 64 ≤ x) :
    Memory.read (d.storeLine n bs).mem x = Memory.read d.mem x := by
  refine Memory.read_writeBytes_outside _ _ ?_
  have hlen : (bs.take Config.lineBytes).length ≤ 64 := List.length_take_le _ _
  omega

/-! ### What an access does to DRAM -/

theorem readAccess_dram_wf {a : Access64} {e : EccCondition} {store : List Byte → Option (List Byte)}
    {outcome : List Byte → AccessOutcome} {s : State} (hw : s.dram.wf = true) :
    (readAccess a e store outcome s).dram.wf = true := by
  by_cases hbad : meetsUncorrectable a e s
  · rw [readAccess_of_uncorrectable store outcome hbad, (handResult_frame ..).1]
    unfold reportUncorrectable
    dsimp only
    split <;> exact Dram.markBad_wf _ _ hw
  · rw [(readAccess_readable store outcome hw hbad).2.2.2]
    cases store (s.dram.readLine (s.lineOf a)) with
    | none => exact hw
    | some bs => exact Dram.storeLine_wf _ _ _ hw

/-- An access changes bytes of its own line only, and a READ none. -/
theorem readAccess_read (a : Access64) (e : EccCondition) (store : List Byte → Option (List Byte))
    (outcome : List Byte → AccessOutcome) (s : State) {x : Nat}
    (hx : (∀ bs, store bs = none) ∨ x < byteAddr (s.lineOf a) ∨ byteAddr (s.lineOf a) + 64 ≤ x) :
    Memory.read (readAccess a e store outcome s).dram.mem x = Memory.read s.dram.mem x := by
  by_cases hbad : meetsUncorrectable a e s
  · rw [readAccess_of_uncorrectable store outcome hbad, (handResult_frame ..).1]
    unfold reportUncorrectable
    dsimp only
    split <;> rfl
  · rw [readAccess_of_readable store outcome hbad, reportReadable_dram, (handResult_frame ..).1]
    unfold State.lineStored
    cases hstore : store (s.dram.readLine (s.lineOf a)) with
    | none => rfl
    | some bs =>
      rcases hx with hnone | houtside
      · rw [hnone] at hstore
        cases hstore
      · exact Dram.read_storeLine_elsewhere _ _ houtside

/-- What a CHANNEL_FULL_WRITE leaves of DRAM. -/
def Dram.fullWritten (d : Dram) (n line : Nat) : AccessKind → Dram
  | .fullWrite data => d.storeLine n data
  | .mapWrite v => d.storeMap line v
  | .read => d
  | .partialWrite _ _ => d
  | .cswap _ _ _ => d

theorem Dram.fullWritten_wf {d : Dram} (hw : d.wf = true) (n line : Nat) (k : AccessKind) :
    (d.fullWritten n line k).wf = true := by
  cases k
  case fullWrite => exact Dram.storeLine_wf _ _ _ hw
  case mapWrite => exact Dram.storeMap_wf _ _ _ hw
  all_goals exact hw

theorem Dram.read_fullWritten (d : Dram) {n x : Nat} (line : Nat) (k : AccessKind)
    (hx : x < byteAddr n ∨ byteAddr n + 64 ≤ x) : Memory.read (d.fullWritten n line k).mem x = Memory.read d.mem x := by
  cases k
  case fullWrite => exact Dram.read_storeLine_elsewhere _ _ hx
  all_goals rfl

theorem storedBy_wf {a : Access64} {n : Nat} {d d' : Dram} (hw : d.wf = true) (h : storedBy a n d = some d') :
    d'.wf = true := by
  unfold storedBy at h
  split at h
  · cases h
  · cases h
    exact Dram.storeLine_wf _ _ _ hw
  · cases h
    exact Dram.storeMap_wf _ _ _ hw
  · split at h
    · cases h
    · cases h
      exact Dram.storeLine_wf _ _ _ hw
  · split at h
    · cases h
    · split at h
      · cases h
        exact Dram.storeLine_wf _ _ _ hw
      · cases h

theorem discardAccess_dram_wf {s : State} (hw : s.dram.wf = true) (a : Access64) : (discardAccess s a).dram.wf = true := by
  unfold discardAccess
  dsimp only
  split
  · split
    · next hstored => exact storedBy_wf hw hstored
    · exact hw
  · exact hw

theorem discardAccesses_dram_wf {s : State} (hw : s.dram.wf = true) : (discardAccesses s).dram.wf = true := by
  unfold discardAccesses
  refine List.foldlRecOn (motive := fun u : State => u.dram.wf = true) _ _ hw fun s hs ch _ => ?_
  exact List.foldlRecOn (motive := fun u : State => u.dram.wf = true) _ _ hs fun s hs a _ => discardAccess_dram_wf hs a

theorem chipReset_dram (s : State) : (chipReset s).dram = (discardAccesses s).dram := by
  rw [chipReset_eq]
  unfold placeResult
  split <;> rfl

theorem takeMgmtRequest_dram_cases (id : Nat) (r : MgmtReq) (s : State) :
    (takeMgmtRequest id r s).dram = s.dram ∨
      r = .chipReset ∧ ∃ m, (takeMgmtRequest id r s).dram = (discardAccesses (s.setMgmt m)).dram := by
  by_cases hr : r = .chipReset
  · subst hr
    unfold takeMgmtRequest
    split
    · exact .inl rfl
    · exact .inr ⟨rfl, _, chipReset_dram _⟩
  · refine .inl (Block.same_of_outside (b := .dram) (bs := [.mgmt, .engine]) ?_ (by simp))
    exact takeMgmtRequest_outside s (by simp) id fun _ s => runRequest_outside s (by simp) (by simp) hr

/-! ### What a command does to DRAM -/

/-- The ways in which a command can reach DRAM: a channel carries an access out, POWER_ON empties it, or a reset discards
the accesses of the Channel Queues. -/
inductive ReachesDram (c : Instr) (s t : State) : Prop
  | kept (h : t.dram = s.dram)
  | read (d : ChannelId) (i : Nat) (a : Access64) (e : EccCondition) (store : List Byte → Option (List Byte))
      (outcome : List Byte → AccessOutcome) (hcarried : s.carriedOut d i = some a)
      (hc : (∀ bs, store bs = none) ∨ c = .channelPartialWrite d i e ∨ c = .channelCswap d i e)
      (h : t = readAccess a e store outcome (completeAccess d i s))
  | written (d : ChannelId) (i : Nat) (a : Access64) (hcarried : s.carriedOut d i = some a)
      (hc : c = .channelFullWrite d i) (h : t.dram = s.dram.fullWritten (s.lineOf a) a.line a.kind)
  | powered (pins : BitVec 3) (hc : c = .powerOn pins) (h : t.dram = Dram.atPowerOn)
  | discarded (m : Mgmt) (hc : (∃ pins, c = .resetNAssert pins) ∨ (∃ id, c = .chipReset id) ∨
        ∃ bytes id, c = .mgmtRequestTransaction bytes ∧ parseMgmtTransaction bytes = .request id .chipReset)
      (h : t.dram = (discardAccesses (s.setMgmt m)).dram)

theorem handResult_dram (a : Access64) (o : AccessOutcome) (s : State) : (handResult a o s).dram = s.dram :=
  (handResult_frame a o s).1

theorem carryOut_next {c : ChannelId} {i : Nat} {a : Access64} {f : State → State} {s t : State}
    (h : carryOut c i a f s = .next t) : t = f (completeAccess c i s) := by
  unfold carryOut at h
  split at h
  · exact (Host.Outcome.next.inj h).symm
  · cases h

theorem exec_reachesDram {c : Instr} {s t : State} (hexec : exec c s = .next t) : ReachesDram c s t := by
  by_cases hdram : Block.dram ∉ Block.caches :: touches c
  · exact .kept (Block.same_of_outside (exec_outside c s t hexec) hdram)
  cases c
  case powerOn pins =>
    cases hexec
    exact .powered pins rfl rfl
  case resetNAssert pins =>
    simp only [exec, execResetNAssert] at hexec
    split at hexec <;> cases hexec
    · exact .discarded s.mgmt (.inl ⟨pins, rfl⟩) rfl
    · exact .kept rfl
  case chipReset id =>
    cases hexec
    split
    · rcases takeMgmtRequest_dram_cases id .chipReset (requestMiso 2 s) with h | ⟨-, m, h⟩
      · exact .kept h
      · exact .discarded m (.inr (.inl ⟨id, rfl⟩)) h
    · exact .kept rfl
  case mgmtRequestTransaction bytes =>
    cases hexec
    split
    · split
      · exact .kept rfl
      · exact .kept rfl
      · next id r hparse =>
        rcases takeMgmtRequest_dram_cases id r (requestMiso bytes.length s) with h | ⟨rfl, m, h⟩
        · exact .kept h
        · exact .discarded m (.inr (.inr ⟨bytes, id, rfl, hparse⟩)) h
    · exact .kept rfl
  case channelRead d i e =>
    simp only [exec, execChannelRead] at hexec
    split at hexec
    · split at hexec
      · next a ha =>
        split at hexec
        · exact .read d i a e _ _ ha (.inl fun _ => rfl) (carryOut_next hexec)
        · cases hexec
          exact .kept rfl
      · cases hexec
        exact .kept rfl
    · cases hexec
      exact .kept rfl
  case channelFullWrite d i =>
    simp only [exec, execChannelFullWrite] at hexec
    split at hexec
    · split at hexec
      · next a ha =>
        split at hexec
        · next data hkind =>
          refine .written d i a ha rfl ?_
          rw [carryOut_next hexec, handResult_dram, hkind]
          rfl
        · next v hkind =>
          refine .written d i a ha rfl ?_
          rw [carryOut_next hexec, handResult_dram, hkind]
          rfl
        · cases hexec
          exact .kept rfl
      · cases hexec
        exact .kept rfl
    · cases hexec
      exact .kept rfl
  case channelPartialWrite d i e =>
    simp only [exec, execChannelPartialWrite] at hexec
    split at hexec
    · split at hexec
      · next a ha =>
        split at hexec
        · exact .read d i a e _ _ ha (.inr (.inl rfl)) (carryOut_next hexec)
        · cases hexec
          exact .kept rfl
      · cases hexec
        exact .kept rfl
    · cases hexec
      exact .kept rfl
  case channelCswap d i e =>
    simp only [exec, execChannelCswap] at hexec
    split at hexec
    · split at hexec
      · next a ha =>
        split at hexec
        · exact .read d i a e _ _ ha (.inr (.inr rfl)) (carryOut_next hexec)
        · cases hexec
          exact .kept rfl
      · cases hexec
        exact .kept rfl
    · cases hexec
      exact .kept rfl
  all_goals exact absurd (by simp [touches, teardownBlockList]) hdram

/-- Settles O52: a command reaches DRAM in one of the ways of `ReachesDram`, each of which keeps the canonical form. -/
theorem stepKeepsDramCanonical : Obligations.StepKeepsDramCanonical := by
  unfold Obligations.StepKeepsDramCanonical
  intro s t hstep hw
  unfold step at hstep
  split at hstep
  · cases hstep
    exact hw
  · next c rest _ =>
    cases exec_reachesDram hstep with
    | kept h => exact h ▸ hw
    | read d i a e store outcome _ _ h =>
      subst h
      exact readAccess_dram_wf hw
    | written d i a _ _ h => exact h ▸ Dram.fullWritten_wf hw _ _ _
    | powered pins _ h => exact h ▸ Dram.atPowerOn_wf
    | discarded m _ h => exact h ▸ discardAccesses_dram_wf hw

/-- Settles O60 in the same way: a channel's access stores in its own line, and the other ways are resets. -/
theorem onlyWritesAndResetsChangeMemory : Obligations.OnlyWritesAndResetsChangeMemory := by
  unfold Obligations.OnlyWritesAndResetsChangeMemory
  intro c s t x hexec hchanged
  cases exec_reachesDram hexec with
  | kept h => exact absurd (by rw [h]) hchanged
  | read d i a e store outcome hcarried hc h =>
    subst h
    by_cases hin : byteAddr (s.lineOf a) ≤ x ∧ x < byteAddr (s.lineOf a) + 64
    · rcases hc with hnone | hc
      · exact absurd (readAccess_read a e store outcome (completeAccess d i s) (.inl hnone)) hchanged
      · exact .inl ⟨d, i, a, hcarried, hin.1, hin.2, .inr ⟨e, hc⟩⟩
    · refine absurd (readAccess_read a e store outcome (completeAccess d i s) (.inr ?_)) hchanged
      show x < byteAddr (s.lineOf a) ∨ byteAddr (s.lineOf a) + 64 ≤ x
      omega
  | written d i a hcarried hc h =>
    by_cases hin : byteAddr (s.lineOf a) ≤ x ∧ x < byteAddr (s.lineOf a) + 64
    · exact .inl ⟨d, i, a, hcarried, hin.1, hin.2, .inl hc⟩
    · refine absurd ?_ hchanged
      rw [h]
      exact Dram.read_fullWritten _ _ _ (by omega)
  | powered pins hc _ => exact .inr (.inl ⟨pins, .inl hc⟩)
  | discarded m hc _ =>
    rcases hc with ⟨pins, hc⟩ | ⟨id, hc⟩ | hc
    · exact .inr (.inl ⟨pins, .inr hc⟩)
    · exact .inr (.inr (.inl ⟨id, hc⟩))
    · exact .inr (.inr (.inr hc))

/-! ### READ, FULL WRITE and map writes (R135, R136) -/

section
variable {c : ChannelId} {i : Nat} {a : Access64} {s : State} (hop : s.operating = true)
  (hcarried : s.carriedOut c i = some a) (hframe : a.frame < s.frames)
include hop hcarried hframe

theorem exec_channelRead (e : EccCondition) (hkind : a.kind = .read) :
    exec (.channelRead c i e) s =
      .next (readAccess a e (fun _ => none) (readOutcome e) (completeAccess c i s)) := by
  change execChannelRead c i e s = _
  simp [execChannelRead, carryOut, hop, hcarried, hframe, hkind]

theorem exec_channelFullWrite {data : List Byte} (hkind : a.kind = .fullWrite data) :
    exec (.channelFullWrite c i) s = .next (handResult a .written
      ((completeAccess c i s).setDram (s.dram.storeLine (s.lineOf a) data))) := by
  change execChannelFullWrite c i s = _
  simp [execChannelFullWrite, carryOut, hop, hcarried, hframe, hkind]
  rfl

theorem exec_channelFullWrite_mapWrite {v : MapValue} (hkind : a.kind = .mapWrite v) :
    exec (.channelFullWrite c i) s =
      .next (handResult a .written ((completeAccess c i s).setDram (s.dram.storeMap a.line v))) := by
  change execChannelFullWrite c i s = _
  simp [execChannelFullWrite, carryOut, hop, hcarried, hframe, hkind]
  rfl

end

/-- A map entry stored is read back, and every other entry and condition stays. -/
theorem Dram.storeMap_reads {d : Dram} (hw : d.wf = true) (line : Nat) (v : MapValue) :
    (d.storeMap line v).readMap line = v ∧ (∀ l, l ≠ line → (d.storeMap line v).readMap l = d.readMap l) ∧
      (d.storeMap line v).isBad line = false ∧ ∀ n, n ≠ line → (d.storeMap line v).isBad n = d.isBad n := by
  have hmaps : sparseWf mapUnlisted d.maps = true := by
    simp only [Dram.wf, Bool.and_eq_true] at hw
    exact hw.1.2
  have hread : ∀ l, (d.storeMap line v).readMap l = if l = line then v else d.readMap l :=
    sparseGet_sparsePut _ _ _ _ hmaps
  have hbad : ∀ n, (d.storeMap line v).isBad n = if n = line then false else d.isBad n :=
    sparseGet_sparsePut _ _ _ _ (Dram.bad_wf hw)
  exact ⟨by simp [hread], fun l hl => by simp [hread, hl], by simp [hbad], fun n hn => by simp [hbad, hn]⟩

/-- Settles O43: a READ is an access that stores nothing; a FULL WRITE stores its line, or the entry of a map write. -/
theorem readsAndFullWritesByRule : Obligations.ReadsAndFullWritesByRule := by
  unfold Obligations.ReadsAndFullWritesByRule
  refine ⟨fun pop f l => rfl, fun c i a s hop hcarried hframe hw => ⟨fun e hkind => ?read, fun data hkind hlen => ?full,
    fun v hkind howner => ?map⟩⟩
  case read =>
    obtain ⟨hcompleted, hfailed, hreadable⟩ := readAccess_carriedOut (a := a) (e := e)
      (fun _ => none) (readOutcome e) c i hw rfl
    refine ⟨_, exec_channelRead hop hcarried hframe e hkind, hcompleted, hfailed, fun hline he => ?_⟩
    obtain ⟨hreported, hresult, -, hdram⟩ := hreadable (by simp [meetsUncorrectable, hline, he])
    refine ⟨hdram, hreported, ?_⟩
    cases e with
    | clean => exact hresult
    | correctable => exact hresult
    | uncorrectable => exact absurd rfl he
  case full =>
    have hstored : (completeAccess c i s).onlyDramAndFlight
        ((completeAccess c i s).setDram (s.dram.storeLine (s.lineOf a) data)) := rfl
    refine ⟨_, exec_channelFullWrite hop hcarried hframe hkind,
      accessCompleted_of_onlyDramAndFlight (hstored.trans (handResult_onlyDramAndFlight a _ _)), ?_⟩
    obtain ⟨hdram, hfaults, hcorrectable, huncorrectable⟩ :=
      handResult_frame a .written ((completeAccess c i s).setDram (s.dram.storeLine (s.lineOf a) data))
    rw [hdram]
    refine ⟨⟨hfaults, huncorrectable, hcorrectable⟩, resultHanded_handResult (s := s)
      (t := (completeAccess c i s).setDram (s.dram.storeLine (s.lineOf a) data)) ⟨rfl, rfl, rfl, rfl⟩ a _,
      Dram.readLine_storeLine hw _ hlen, fun x hx => Dram.read_storeLine_outside hw _ hx, ?_, fun n hn => ?_, rfl⟩
    · exact (Dram.isBad_storeLine hw ..).trans (if_pos rfl)
    · exact (Dram.isBad_storeLine hw ..).trans (if_neg hn)
  case map =>
    obtain ⟨hsame, hother, hgood, hconditions⟩ := Dram.storeMap_reads hw a.line v
    have hnext := exec_channelFullWrite_mapWrite hop hcarried hframe hkind
    rw [handResult, howner] at hnext
    exact ⟨_, hnext, ⟨rfl, rfl, rfl, rfl, rfl, rfl, rfl, rfl, rfl⟩, rfl, hsame, hother, rfl, hgood, hconditions⟩

/-! ### MAP_CLEAR (R46) -/

/-- Settles O38: the grant of a line before the last goes on to the next; the last one's makes the device RUN and the Scrub
Engine take its head. -/
theorem mapClearWritesEveryLine : Obligations.MapClearWritesEveryLine := by
  unfold Obligations.MapClearWritesEveryLine
  intro n round s hop hgranted hclear s1
  have hexec : exec .mapClearWrite s = .next (if n + 1 < Config.mapLines
      then s1.setMapUnit { s1.mapUnit with clearNext := some (n + 1) } else endMapClear s1) := by
    simp [exec, execMapClearWrite, whenOperating, hop, hgranted, hclear, s1, enqueue]
  refine ⟨fun hn => ?_, fun hn hidle f rest hqueue => ?_⟩
  · rw [hexec, if_pos (by simpa [Config.mapLines] using (by omega : n + 1 < 32768))]
    rfl
  · rw [hexec, if_neg (by simp [Config.mapLines, hn]), endMapClear, takeScrub_of_cons (by exact hqueue) (by exact hidle) rfl]
    rfl

end Sys2Proof.Machine
end

section
/-! Messages that arrive and link events by port state (R161, R163, R165, R166, R168, R173, R192): what each command's
arrival comes to, and which checks end the session. -/

namespace Sys2Proof.Machine

/-! ### What an arrival comes to -/

section
variable {p : PortId} {s : State}

theorem exec_requestCommand (p : PortId) (tag : Nat) (kind : ReqKind) (s : State) :
    exec (requestCommand p tag kind) s = onArrival p s (takeRequest p tag kind (requestEncoded tag kind) s) := by
  cases kind <;> rfl

theorem takeMalformed_of_attached (h : (s.link p).state = .attached) : takeMalformed p s = violation p .badEncoding s :=
  if_pos h

theorem takeMalformed_of_not_attached (h : (s.link p).state ≠ .attached) : takeMalformed p s = s := if_neg h

theorem takeRequest_of_not_attached (h : (s.link p).state ≠ .attached) (tag : Nat) (kind : ReqKind) (e : Bool) :
    takeRequest p tag kind e s = s := if_neg h

theorem takePoolCommand_of_not_attached (h : (s.link p).state ≠ .attached) (tag : Nat) (cmd : PoolCmd) (e : Bool) :
    takePoolCommand p tag cmd e s = s := if_neg h

theorem credit_inEncoding_iff (a b : Nat) : (HostMsg.credit a b).inEncoding = true ↔ a ≤ 255 ∧ b ≤ 255 := by
  simp only [HostMsg.inEncoding, fits8, Bool.and_eq_true, decide_eq_true_eq]
  omega

/-- What a session answers a request with, by the checks of R166 in their order. -/
theorem takeRequest_of_attached (h : (s.link p).state = .attached) (tag : Nat) (kind : ReqKind) :
    (takeRequest p tag kind false s = violation p .badEncoding s) ∧
      ((s.link p).requestCredits = 0 → takeRequest p tag kind true s = violation p .noCredit s) ∧
      ((s.link p).requestCredits ≠ 0 → tag ∈ (s.link p).tags →
        takeRequest p tag kind true s = violation p .tagInUse s) ∧
      ((s.link p).requestCredits ≠ 0 → tag ∉ (s.link p).tags →
        takeRequest p tag kind true s = acceptRequest p tag kind (s.setLink p { s.link p with
          requestCredits := (s.link p).requestCredits - 1, tags := (s.link p).tags ++ [tag] })) := by
  refine ⟨?_, fun hnone => ?_, fun hsome htag => ?_, fun hsome htag => ?_⟩ <;> simp [takeRequest, *]

/-- What a session answers a pool command with, by the checks of R166 in their order. -/
theorem takePoolCommand_of_attached (h : (s.link p).state = .attached) (tag : Nat) (cmd : PoolCmd) :
    (takePoolCommand p tag cmd false s = violation p .badEncoding s) ∧
      ((s.link p).commandCredits = 0 → takePoolCommand p tag cmd true s = violation p .noCredit s) ∧
      ((s.link p).commandCredits ≠ 0 → tag ∈ (s.link p).tags →
        takePoolCommand p tag cmd true s = violation p .tagInUse s) ∧
      ((s.link p).commandCredits ≠ 0 → tag ∉ (s.link p).tags →
        takePoolCommand p tag cmd true s = s.setLink p { s.link p with
          commandCredits := (s.link p).commandCredits - 1, tags := (s.link p).tags ++ [tag],
          commands := (s.link p).commands ++ [(tag, cmd)] }) := by
  refine ⟨?_, fun hnone => ?_, fun hsome htag => ?_, fun hsome htag => ?_⟩ <;> simp [takePoolCommand, *]

/-- A CREDIT would take one of the two counts past 255 (R168). -/
def LinkPort.overflows (l : LinkPort) (a b : Nat) : Prop := 255 < l.completionCredits + a ∨ 255 < l.noticeCredits + b

theorem takeCredit_added {a b : Nat} (hstate : (s.link p).state = .idle ∨ (s.link p).state = .attached)
    (hfits : ¬(s.link p).overflows a b) : takeCredit p a b true s = s.setLink p { s.link p with
      completionCredits := (s.link p).completionCredits + a, noticeCredits := (s.link p).noticeCredits + b } := by
  obtain ⟨ha, hb⟩ := not_or.1 hfits
  rcases hstate with h | h <;> simp [takeCredit, h, Config.maxHostCredits, ha, hb]

theorem takeCredit_overflow_idle {a b : Nat} (hstate : (s.link p).state = .idle) (hmany : (s.link p).overflows a b) :
    takeCredit p a b true s = s := by
  unfold LinkPort.overflows at hmany
  rcases hmany with h | h <;> simp [takeCredit, hstate, Config.maxHostCredits, h]

theorem takeCredit_overflow_attached {a b : Nat} (hstate : (s.link p).state = .attached)
    (hmany : (s.link p).overflows a b) : takeCredit p a b true s = violation p .creditOverflow s := by
  unfold LinkPort.overflows at hmany
  rcases hmany with h | h <;> simp [takeCredit, hstate, Config.maxHostCredits, h]

theorem takeCredit_closed (a b : Nat) (hstate : (s.link p).state = .detaching ∨ (s.link p).state = .disabled) :
    takeCredit p a b true s = s := by
  rcases hstate with h | h <;> simp [takeCredit, h]

end

/-! ### Violations (R166) -/

/-- A session in which the violation is found ends with its record, and nothing else in flight changes. -/
theorem violation_breaks {p : PortId} {s : State} (c : Instr) (k : Violation) (h : exec c s = .next (violation p k s)) :
    ∃ t, exec c s = .next t ∧ teardownBegun p .protocol s t ∧
      t.flight = { s.flight with faults := s.flight.faults ++ [.protocol p (s.link p).session k] } :=
  ⟨_, h, violation_begun p k s, beginTeardown_flight ..⟩

/-- Settles O9: each command comes to the violation of the first check that fails. -/
theorem violationsEndSession : Obligations.ViolationsEndSession := by
  unfold Obligations.ViolationsEndSession
  rintro p s ⟨hop, hup, hattached⟩ l broken
  have harrives : ∀ {c : Instr} {t : State} {k : Violation}, exec c s = onArrival p s t → t = violation p k s →
      broken c k := fun {c t k} hc ht => violation_breaks c k (by rw [hc, onArrival_of_up hop hup, ht])
  have hrequest := fun tag kind => takeRequest_of_attached hattached tag kind
  have hcommand := fun tag cmd => takePoolCommand_of_attached hattached tag cmd
  refine ⟨fun bytes hbytes => ?_, harrives rfl (takeAttach_of_attached hattached), fun tag kind hencoded => ?_,
    fun tag kind hencoded hnone => ?_, fun tag kind hencoded hsome htag => ?_, fun tag cmd hencoded => ?_,
    fun tag cmd hencoded hnone => ?_, fun tag cmd hencoded hsome htag => ?_, fun a b ha hb hmany => ?_,
    fun a b hbig => ?_, fun rid hbig => ?_⟩
  · refine harrives rfl ?_
    rw [hbytes]
    exact takeMalformed_of_attached hattached
  · refine harrives (exec_requestCommand p tag kind s) ?_
    rw [requestEncoded, hencoded]
    exact (hrequest tag kind).1
  · refine harrives (exec_requestCommand p tag kind s) ?_
    rw [requestEncoded, hencoded]
    exact (hrequest tag kind).2.1 hnone
  · refine harrives (exec_requestCommand p tag kind s) ?_
    rw [requestEncoded, hencoded]
    exact (hrequest tag kind).2.2.1 hsome htag
  · refine harrives rfl ?_
    rw [hencoded]
    exact (hcommand tag cmd).1
  · refine harrives rfl ?_
    rw [hencoded]
    exact (hcommand tag cmd).2.1 hnone
  · refine harrives rfl ?_
    rw [hencoded]
    exact (hcommand tag cmd).2.2.1 hsome htag
  · refine harrives rfl ?_
    rw [(credit_inEncoding_iff a b).2 ⟨ha, hb⟩]
    exact takeCredit_overflow_attached hattached hmany
  · refine harrives rfl ?_
    have hbad : (HostMsg.credit a b).inEncoding = false := Bool.eq_false_iff.2 fun hfits => by
      have := (credit_inEncoding_iff a b).1 hfits
      omega
    rw [hbad]
    exact takeMalformed_of_attached hattached
  · refine harrives rfl ?_
    rw [show (HostMsg.recallAck rid).inEncoding = false by simp [HostMsg.inEncoding, fits16]; omega]
    exact takeMalformed_of_attached hattached

/-! ### Messages by port state (R163) -/

/-- Settles O10. -/
theorem portStateGatesMessages : Obligations.PortStateGatesMessages := by
  unfold Obligations.PortStateGatesMessages
  intro p s hop hup
  dsimp only
  have harrives : ∀ {c : Instr} {t u : State}, exec c s = onArrival p s t → t = u → exec c s = .next u :=
    fun hc ht => by rw [hc, onArrival_of_up hop hup, ht]
  have hcredit : ∀ a b u, a ≤ 255 → b ≤ 255 → takeCredit p a b true s = u → exec (.credit p a b) s = .next u :=
    fun a b u ha hb hu => by
      refine harrives rfl ?_
      rw [(credit_inEncoding_iff a b).2 ⟨ha, hb⟩, hu]
  refine ⟨fun hattached tag cmd hencoded hsome htag => ?_, fun hstate a b ha hb => ?_, fun hidle a b ha hb hmany => ?_,
    fun hclosed a b ha hb => ?_, fun hout => ⟨fun tag kind => ?_, fun tag cmd => ?_, fun rid hrid => ?_, ?_,
      fun bytes hbytes => ?_⟩⟩
  · refine harrives rfl ?_
    rw [hencoded]
    exact (takePoolCommand_of_attached hattached tag cmd).2.2.2 hsome htag
  · exact hcredit a b _ (by omega) (by omega) (takeCredit_added hstate (by simp only [LinkPort.overflows]; omega))
  · exact hcredit a b _ ha hb (takeCredit_overflow_idle hidle hmany)
  · exact hcredit a b _ ha hb (takeCredit_closed a b hclosed)
  · exact harrives (exec_requestCommand p tag kind s) (takeRequest_of_not_attached hout _ _ _)
  · exact harrives rfl (takePoolCommand_of_not_attached hout _ _ _)
  · rw [exec_recallAck_of_up hop hup hrid, takeRecallAck_discarded (.inl hout)]
  · exact harrives rfl (if_neg hout)
  · refine harrives rfl ?_
    rw [hbytes]
    exact takeMalformed_of_not_attached hout

/-! ### Link events (R161, R173) -/

/-- Settles O7: each event by the link state and the port state that it finds. -/
theorem linkEventsMovePort : Obligations.LinkEventsMovePort := by
  unfold Obligations.LinkEventsMovePort
  intro p s hop
  dsimp only
  have hwhen : ∀ {c : Instr} {t u : State}, exec c s = whenOperating s t → t = u → exec c s = .next u :=
    fun hc ht => by rw [hc, whenOperating, hop, ht]; rfl
  refine ⟨fun hdown => ?_, fun htraining hoffline => ?_, fun htraining hother => ?_, fun htraining => ?_,
    fun hup hidle => ?_, fun hup hidle hattached => ?_, fun hup hattached => ⟨?_, ?_⟩⟩
  · exact hwhen rfl (if_pos hdown)
  · exact hwhen rfl (by simp [htraining, hoffline])
  · exact hwhen rfl (by simp [htraining, hother])
  · exact hwhen rfl (if_pos htraining)
  · exact hwhen rfl (by simp [hup, hidle])
  · refine hwhen rfl ?_
    dsimp only
    rw [if_pos hup]
    cases hstate : (s.link p).state <;> simp_all
  · refine ⟨beginTeardown p .linkLost (handFault (.linkLost p (s.link p).session)
      (s.setLink p { s.link p with link := .down })), hwhen rfl (by simp [hup, hattached]), ?_, beginTeardown_flight ..⟩
    exact beginTeardown_begun ..
  · exact ⟨beginTeardown p .resetPort s, hwhen rfl (by simp [hup, takeResetPort, hattached]), beginTeardown_begun ..,
      beginTeardown_flight ..⟩

end Sys2Proof.Machine
end

section
/-! The request buffer (R178 to R181, R183 to R185, R193): what taking a request comes to, the settings it writes, the
status values it reports, and the bytes of both transactions. -/

namespace Sys2Proof.Machine

/-! ### Taking a request -/

section
variable {id : Nat} {r : MgmtReq} {s : State}

theorem takeMgmtRequest_of_running {i : Nat} {x : MgmtReq} (hrun : s.mgmt.buffer = .running i x) (id : Nat) (r : MgmtReq) :
    takeMgmtRequest id r s = s.setMgmt { s.mgmt with refused := some id } := by
  simp [takeMgmtRequest, hrun]

theorem takeMgmtRequest_of_bad (hbuffer : ∀ i x, s.mgmt.buffer ≠ .running i x) (hbad : badArgument r s.frames = true)
    (id : Nat) : takeMgmtRequest id r s =
      s.setMgmt { s.mgmt with buffer := .ready id r .badArgument [], refused := none } := by
  rw [takeMgmtRequest_of_not_running hbuffer, if_pos hbad]
  exact placeResult_of_running rfl _ _

theorem takeMgmtRequest_of_good (hbuffer : ∀ i x, s.mgmt.buffer ≠ .running i x) (hgood : badArgument r s.frames = false)
    (id : Nat) : takeMgmtRequest id r s = runRequest r (s.setMgmt (s.mgmt.taken id r)) := by
  rw [takeMgmtRequest_of_not_running hbuffer, if_neg (by simp [hgood])]

theorem writeSetting_of_running (hrun : s.mgmt.buffer = .running id r) (x : Settings) :
    writeSetting x s = s.setMgmt { s.mgmt with settings := x, buffer := .ready id r .ok [] } :=
  placeResult_of_running (id := id) (r := r) (by exact hrun) _ _

end

theorem portOf_val (p : PortId) : portOf p.val = p := Fin.ext (Nat.mod_eq_of_lt p.isLt)

/-! ### The SET requests (R181) -/

/-- The command `c`, a transaction of `n` bytes, carries the SET request `r`: refused while the buffer is RUNNING, else
answered by its argument check. -/
theorem setRequest_outcome (id n : Nat) (c : Instr) (r : MgmtReq) (valid : Prop) {s : State} {x' : Settings}
    (hop : s.operating = true) (hc : exec c s = whenOperating s (takeMgmtRequest id r (requestMiso n s)))
    (hvalid : valid → badArgument r s.frames = false ∧ ∀ u : State, u.mgmt.settings = s.mgmt.settings →
      runRequest r u = writeSetting x' u)
    (hinvalid : ¬valid → badArgument r s.frames = true) :
    let m := { s.mgmt with miso := List.replicate n 0 }
    (∀ i y, s.mgmt.buffer = .running i y → exec c s = .next (s.setMgmt { m with refused := some id })) ∧
      ((∀ i y, s.mgmt.buffer ≠ .running i y) →
        (valid → exec c s = .next (s.setMgmt { m with settings := x', buffer := .ready id r .ok [], refused := none })) ∧
        (¬valid → exec c s = .next (s.setMgmt { m with buffer := .ready id r .badArgument [], refused := none }))) := by
  have hexec : exec c s = .next (takeMgmtRequest id r (requestMiso n s)) := by rw [hc, whenOperating, hop]; rfl
  refine ⟨fun i y hrun => ?_, fun hbuffer => ⟨fun hv => ?_, fun hv => ?_⟩⟩
  · rw [hexec, takeMgmtRequest_of_running (i := i) (x := y) (by exact hrun)]
    rfl
  · obtain ⟨hgood, hrunRequest⟩ := hvalid hv
    have hrun := hrunRequest ((requestMiso n s).setMgmt ((requestMiso n s).mgmt.taken id r)) rfl
    rw [hexec, takeMgmtRequest_of_good (by exact hbuffer) (by exact hgood), hrun,
      writeSetting_of_running (id := id) (r := r) rfl]
    rfl
  · rw [hexec, takeMgmtRequest_of_bad (by exact hbuffer) (by exact hinvalid hv)]
    rfl

/-- Settles O50: each SET request is `setRequest_outcome` with its range and the setting it writes. -/
theorem setRequestsWriteSettings : Obligations.SetRequestsWriteSettings := by
  unfold Obligations.SetRequestsWriteSettings
  intro id s hop
  dsimp only
  refine ⟨fun p q => ?_, fun p w => ?_, fun n v hn => ⟨?_, ?_⟩, fun ms => ⟨?_, ?_, ?_⟩, fun k ms hk => ?_, fun n => ?_⟩
  case refine_1 =>
    refine setRequest_outcome id 5 (.setQuota id p.val q) (.setQuota p.val q) (q ≤ 8192) hop rfl
      (fun hq => ⟨?_, fun u hu => ?_⟩) (fun hq => ?_)
    · simp [badArgument, p.isLt, hq]
    · simp [runRequest, hu, portOf_val]
    · simp [badArgument]; omega
  case refine_2 =>
    refine setRequest_outcome id 4 (.setWeight id p.val w) (.setWeight p.val w) (1 ≤ w ∧ w ≤ 15) hop rfl
      (fun hw => ⟨?_, fun u hu => ?_⟩) (fun hw => ?_)
    · simp [badArgument, p.isLt]; omega
    · simp [runRequest, hu, portOf_val]
    · simp [badArgument]; omega
  case refine_3 =>
    exact setRequest_outcome id 5 (.setQuota id n v) (.setQuota n v) False hop rfl False.elim
      (fun _ => by simp [badArgument]; omega)
  case refine_4 =>
    exact setRequest_outcome id 4 (.setWeight id n v) (.setWeight n v) False hop rfl False.elim
      (fun _ => by simp [badArgument]; omega)
  case refine_5 =>
    refine setRequest_outcome id 5 (.setTimeout id 0 ms) (.setTimeout 0 ms) (1 ≤ ms ∧ ms ≤ 1000) hop rfl
      (fun hms => ⟨?_, fun u hu => ?_⟩) (fun hms => ?_)
    · simp [badArgument, timeoutInRange, hms]
    · simp [runRequest, hu, withTimeout]
    · simp [badArgument, timeoutInRange]; omega
  case refine_6 =>
    refine setRequest_outcome id 5 (.setTimeout id 1 ms) (.setTimeout 1 ms) (10 ≤ ms ∧ ms ≤ 10000) hop rfl
      (fun hms => ⟨?_, fun u hu => ?_⟩) (fun hms => ?_)
    · simp [badArgument, timeoutInRange, hms]
    · simp [runRequest, hu, withTimeout]
    · simp [badArgument, timeoutInRange]; omega
  case refine_7 =>
    refine setRequest_outcome id 5 (.setTimeout id 2 ms) (.setTimeout 2 ms) (ms ≤ 10000) hop rfl
      (fun hms => ⟨?_, fun u hu => ?_⟩) (fun hms => ?_)
    · simp [badArgument, timeoutInRange, hms]
    · simp [runRequest, hu, withTimeout]
    · simp [badArgument, timeoutInRange]; omega
  case refine_8 =>
    obtain ⟨j, rfl⟩ := Nat.exists_eq_add_of_le' hk
    exact setRequest_outcome id 5 (.setTimeout id (j + 3) ms) (.setTimeout (j + 3) ms) False hop rfl False.elim
      (fun _ => by simp [badArgument, timeoutInRange])
  case refine_9 =>
    refine setRequest_outcome id 3 (.setThreshold id n) (.setThreshold n) (1 ≤ n ∧ n ≤ 255) hop rfl
      (fun hn => ⟨?_, fun u hu => ?_⟩) (fun hn => ?_)
    · simp [badArgument]; omega
    · simp [runRequest, hu]
    · simp [badArgument]; omega

/-! ### Status requests (R183 to R185) -/

/-- Settles O48: the slot's request is answered with its values, which the model lists in the rules' order. -/
theorem statusRequestsReportState : Obligations.StatusRequestsReportState := by
  unfold Obligations.StatusRequestsReportState
  intro id s
  dsimp only
  refine ⟨fun hserves => ?_, fun p hserves => ?_, fun f hserves => ?_⟩
  all_goals
    have hrun := hserves.running
    have hslot := hserves.servedRequest
    have hop := hserves.operating
  · rw [show exec .getPoolStatus s = .next (answerSlot .ok (statusBytes (poolStatus s)) s) by
      simp [exec, execGetPoolStatus, whenOperating, hop, hslot], answerSlot_of_running hrun]
    rfl
  · rw [show exec .getPortStatus s = .next (answerSlot .ok (statusBytes (portStatus (portOf p.val) s)) s) by
      simp [exec, execGetPortStatus, whenOperating, hop, hslot], answerSlot_of_running hrun, portOf_val]
    rfl
  · rw [show exec .queryFrame s = .next (answerSlot .ok (s.record f).bytes s) by
      simp [exec, execQueryFrame, whenOperating, hop, hslot], answerSlot_of_running hrun]

/-! ### The bytes of a transaction (R193, Table 11-5) -/

/-- The kinds of Table 11-5 with their numbers of argument bytes. -/
def mgmtKinds : List (Nat × Nat) :=
  [(1, 0), (2, 1), (3, 2), (4, 2), (5, 2), (6, 2), (7, 3), (8, 2), (9, 3), (10, 1), (11, 1), (12, 1), (13, 1), (14, 0),
    (15, 0)]

theorem parseMgmtReq_of_not_listed {kind : Nat} {args : List Byte} (h : (kind, args.length) ∉ mgmtKinds) :
    parseMgmtReq kind args = .malformed (BitVec.ofNat 8 kind :: args) := by
  unfold parseMgmtReq
  split <;> simp_all [mgmtKinds]

theorem parseMgmtTransaction_request {k : Byte} (hk : k ≠ 0) (rest : List Byte) :
    parseMgmtTransaction (k :: rest) = .request (byteAt rest 0) (parseMgmtReq k.toNat (rest.drop 1)) := if_neg hk

theorem byteAt_zero (rest : List Byte) : byteAt rest 0 = (rest.head?.map BitVec.toNat).getD 0 := by
  cases rest <;> rfl

theorem badArgument_iff (frames : Nat) (r : MgmtReq) : badArgument r frames = true ↔
    (∃ p, 3 < p ∧ (r = .getPortStatus p ∨ r = .portDisable p ∨ r = .portEnable p ∨ r = .portReset p ∨
      (∃ q, r = .setQuota p q) ∨ ∃ w, r = .setWeight p w)) ∨
    (∃ f, frames ≤ f ∧ (r = .queryFrame f ∨ r = .evict f ∨ r = .quarantine f ∨ r = .returnFrame f)) ∨
    (∃ p q, r = .setQuota p q ∧ 8192 < q) ∨
    (∃ p w, r = .setWeight p w ∧ ¬(1 ≤ w ∧ w ≤ 15)) ∨
    (∃ k ms, r = .setTimeout k ms ∧
      ¬((k = 0 ∧ 1 ≤ ms ∧ ms ≤ 1000) ∨ (k = 1 ∧ 10 ≤ ms ∧ ms ≤ 10000) ∨ (k = 2 ∧ ms ≤ 10000))) ∨
    (∃ n, r = .setThreshold n ∧ ¬(1 ≤ n ∧ n ≤ 255)) ∨
    ∃ m, r = .malformed m := by
  cases r
  case setTimeout k ms =>
    match k with
    | 0 => simp [badArgument, timeoutInRange]; omega
    | 1 => simp [badArgument, timeoutInRange]; omega
    | 2 => simp [badArgument, timeoutInRange]
    | k + 3 => simp [badArgument, timeoutInRange]
  case setWeight => simp [badArgument]; omega
  case setThreshold => simp [badArgument]; omega
  case setQuota => simp [badArgument]; omega
  case getPortStatus | portDisable | portEnable | portReset => simp [badArgument]; omega
  all_goals simp [badArgument]

/-- The command that Table 11-5's request is when it is run in the event of its transaction. -/
def runsAs (id : Nat) : MgmtReq → Option (Nat × Instr)
  | .setQuota p q => some (5, .setQuota id p q)
  | .setWeight p w => some (4, .setWeight id p w)
  | .setTimeout k ms => some (5, .setTimeout id k ms)
  | .setThreshold n => some (3, .setThreshold id n)
  | .logRead => some (2, .logRead id)
  | .chipReset => some (2, .chipReset id)
  | _ => none

theorem exec_of_runsAs {id n : Nat} {r : MgmtReq} {c : Instr} (h : runsAs id r = some (n, c)) (s : State) :
    exec c s = whenOperating s (takeMgmtRequest id r (requestMiso n s)) := by
  cases r <;> simp [runsAs] at h <;> obtain ⟨rfl, rfl⟩ := h <;> rfl

/-- A request that is run at once has as many bytes as Table 11-5 gives it. -/
theorem length_of_runsAs {bytes : List Byte} {id n : Nat} {r : MgmtReq} {c : Instr}
    (hparse : parseMgmtTransaction bytes = .request id r) (hlong : 1 < bytes.length) (h : runsAs id r = some (n, c)) :
    bytes.length = n := by
  obtain _ | ⟨k, _ | ⟨i, args⟩⟩ := bytes
  · simp at hlong
  · simp at hlong
  · by_cases hk : k = 0
    · simp [parseMgmtTransaction, hk] at hparse
    · rw [parseMgmtTransaction_request hk] at hparse
      injection hparse with _ hr
      subst hr
      simp only [List.drop_succ_cons, List.drop_zero, parseMgmtReq] at h
      split at h <;> simp_all [runsAs]

/-- Settles O47: Table 11-5 by evaluation, every other kind or length by `parseMgmtReq_of_not_listed`, the checks by
`badArgument_iff`, and the rest by what taking a request comes to. -/
theorem requestBufferTakesAndReturns : Obligations.RequestBufferTakesAndReturns := by
  unfold Obligations.RequestBufferTakesAndReturns
  intro fails runAtOnce readAs flags refusedId frame
  refine ⟨fun id a b c => ?table, rfl, rfl, rfl, fun k rest hk hlisted => ?unlisted, fun s hop => ⟨?request, ?result, ?none⟩⟩
  case table => exact ⟨rfl, rfl, rfl, rfl, rfl, rfl, rfl, rfl, rfl, rfl, rfl, rfl, rfl, rfl, rfl⟩
  case unlisted =>
    refine ⟨BitVec.ofNat 8 k.toNat :: rest.drop 1, ?_⟩
    show parseMgmtTransaction (k :: rest) = _
    rw [parseMgmtTransaction_request hk, byteAt_zero, parseMgmtReq_of_not_listed hlisted]
  case request =>
    intro bytes id r hparse
    have hexec : exec (.mgmtRequestTransaction bytes) s = .next (takeMgmtRequest id r (requestMiso bytes.length s)) := by
      simp [exec, execMgmtRequestTransaction, whenOperating, hop, hparse]
    refine ⟨fun i x hrun => ?_, fun c hc hlong => ?_, fun hbuffer => ⟨fun hfails => ?_, fun f hf hr => ?_, fun p hr => ?_,
      fun p x hr => ?_⟩⟩
    · rw [hexec, takeMgmtRequest_of_running (i := i) (x := x) (by exact hrun)]
      rfl
    · have hruns : ∃ n, runsAs id r = some (n, c) := by
        rcases hc with ⟨p, q, rfl, rfl⟩ | ⟨p, w, rfl, rfl⟩ | ⟨k, ms, rfl, rfl⟩ | ⟨n, rfl, rfl⟩ | ⟨rfl, rfl⟩ | ⟨rfl, rfl⟩ <;>
          exact ⟨_, rfl⟩
      obtain ⟨n, hn⟩ := hruns
      rw [hexec, exec_of_runsAs hn, length_of_runsAs hparse hlong hn, whenOperating, hop]
      rfl
    · have hbad : badArgument r s.frames = true := (badArgument_iff _ r).2 hfails
      rw [hexec, takeMgmtRequest_of_bad (by exact hbuffer) (by exact hbad)]
      rfl
    · have hgood : badArgument r s.frames = false := by rcases hr with rfl | rfl | rfl | rfl <;> simpa [badArgument] using hf
      rw [hexec, takeMgmtRequest_of_good (by exact hbuffer) (by exact hgood)]
      rcases hr with rfl | rfl | rfl | rfl <;> rfl
    · have hgood : badArgument r s.frames = false := by rcases hr with rfl | rfl <;> simp [badArgument]
      rw [hexec, takeMgmtRequest_of_good (by exact hbuffer) (by exact hgood)]
      rcases hr with rfl | rfl <;> rfl
    · have hgood : badArgument r s.frames = false := by
        rcases hr with ⟨rfl, -⟩ | ⟨rfl, -⟩ | ⟨rfl, -⟩ <;> simp [badArgument]
      rw [hexec, takeMgmtRequest_of_good (by exact hbuffer) (by exact hgood)]
      rcases hr with ⟨rfl, rfl⟩ | ⟨rfl, rfl⟩ | ⟨rfl, rfl⟩ <;> simp only [runRequest, portOf_val] <;> rfl
  case result =>
    intro n hn
    have hframe : resultFrame s.mgmt.buffer s.mgmt.refused = frame s.mgmt.buffer s.mgmt.refused := by
      cases s.mgmt.buffer with
      | empty => cases s.mgmt.refused <;> rfl
      | running i x => cases s.mgmt.refused <;> simp [resultFrame, frame, flags, refusedId, Buffer.code,
          Buffer.id, Buffer.statusCode, Buffer.data, byte, le16, yesNo]
      | ready i x st data => cases s.mgmt.refused <;> cases st <;> simp [resultFrame, frame, flags, refusedId, Buffer.code,
          Buffer.id, Buffer.statusCode, Buffer.data, byte, le16, yesNo, MgmtStatus.code]
    simp [exec, execResultTransaction, whenOperating, hop, hn, takeResultTransaction, hframe, resultShiftedOut]
  case none => simp [exec, execResultTransaction, whenOperating, hop]

end Sys2Proof.Machine
end

section
/-! How the Allocation Engine serves a pool command (R48 to R51): taking its head command, refusing it, deferring it; and
the checks of the commands (R55, R64, R68, R73, R76, R78, R82). -/

namespace Sys2Proof.Machine

/-! ### Serving a command -/

section
variable {p : PortId} {tag : Nat} {cmd : PoolCmd} {s : State}

/-- The engine has come to port `p` and taken its head command. -/
def State.commandTaken (s : State) (p : PortId) : State := takeCommand p (movePointer (sourceOf p) s)

theorem State.commandTaken_eq (s : State) (p : PortId) : s.commandTaken p =
    (s.setLink p { s.link p with
      commands := (s.link p).commands.tail, commandReturns := (s.link p).commandReturns + 1 }).setEngine
      (s.engine.tookCommand p) := rfl

@[simp] theorem State.commandTaken_link_self (s : State) (p : PortId) : (s.commandTaken p).link p =
    { s.link p with commands := (s.link p).commands.tail, commandReturns := (s.link p).commandReturns + 1 } := by
  simp [State.commandTaken_eq, State.link]

@[simp] theorem State.commandTaken_link_of_ne {q : PortId} (s : State) (p : PortId) (hq : q ≠ p) :
    (s.commandTaken p).link q = s.link q := by simp [State.commandTaken_eq, State.link, hq]

theorem State.servesCommand.servedCommand (h : s.servesCommand p tag cmd) : s.servedCommand p = some (tag, cmd) := by
  obtain ⟨-, hattached, hserves, hhead⟩ := h
  simp [State.servedCommand, hserves, hattached, hhead]

/-- The Link Port after it sent the pending returns (R167). -/
def LinkPort.returned (l : LinkPort) : LinkPort :=
  { l with
    requestCredits := l.requestCredits + l.requestReturns, requestReturns := 0,
    commandCredits := l.commandCredits + l.commandReturns, commandReturns := 0,
    sent := l.sent ++ [.creditReturn l.requestReturns l.commandReturns] }

theorem returnCredits_of_returns (hattached : (s.link p).state = .attached) (hreturns : (s.link p).commandReturns ≠ 0) :
    returnCredits p s = s.setLink p (s.link p).returned := if_pos ⟨hattached, .inr hreturns⟩

theorem returnCredits_of_none (hrequests : (s.link p).requestReturns = 0) (hcommands : (s.link p).commandReturns = 0) :
    returnCredits p s = s := if_neg (by simp [hrequests, hcommands])

theorem exec_claim_of_served {hpn n : Nat} (h : s.servesCommand p tag (.claim hpn n)) :
    exec (.claim p) s = .next (serveCommand p (examineClaim p tag hpn n) s) := by
  simp [exec, execClaim, whenOperating, h.1, h.servedCommand]

theorem exec_release_of_served {hpn : Nat} (h : s.servesCommand p tag (.release hpn)) :
    exec (.release p) s = .next (serveCommand p (examineRelease p tag hpn) s) := by
  simp [exec, execRelease, whenOperating, h.1, h.servedCommand]

theorem exec_drop_of_served {hpn : Nat} (h : s.servesCommand p tag (.drop hpn)) :
    exec (.drop p) s = .next (serveCommand p (examineDrop p tag hpn) s) := by
  simp [exec, execDrop, whenOperating, h.1, h.servedCommand]

theorem exec_grant_of_served {hpn target : Nat} {a : Access} (h : s.servesCommand p tag (.grant hpn target a)) :
    exec (.grant p) s = .next (serveCommand p (examineGrant p tag hpn target a) s) := by
  simp [exec, execGrant, whenOperating, h.1, h.servedCommand]

theorem exec_accept_of_served {gid hpn : Nat} (h : s.servesCommand p tag (.accept gid hpn)) :
    exec (.accept p) s = .next (serveCommand p (examineAccept p tag gid hpn) s) := by
  simp [exec, execAccept, whenOperating, h.1, h.servedCommand]

theorem exec_decline_of_served {gid : Nat} (h : s.servesCommand p tag (.decline gid)) :
    exec (.decline p) s = .next (serveCommand p (examineDecline p tag gid) s) := by
  simp [exec, execDecline, whenOperating, h.1, h.servedCommand]

theorem exec_revoke_of_served {hpn target : Nat} (h : s.servesCommand p tag (.revoke hpn target)) :
    exec (.revoke p) s = .next (serveCommand p (examineRevoke p tag hpn target) s) := by
  simp [exec, execRevoke, whenOperating, h.1, h.servedCommand]

/-- A served command that is refused comes to `State.refused`. -/
theorem serveCommand_of_refuse {examined : State → State} {st : Status} (hattached : (s.link p).state = .attached)
    (h : examined (movePointer (sourceOf p) s) = refuseCommand p tag st (movePointer (sourceOf p) s)) :
    serveCommand p examined s = s.refused p tag st := by
  have hrefuse : refuseCommand p tag st (movePointer (sourceOf p) s) =
      (s.commandTaken p).setLink p { (s.commandTaken p).link p with
        outbound := ((s.commandTaken p).link p).outbound ++ [commandCompletion tag st] } :=
    handOver_of_attached (s := s.commandTaken p) (by rw [State.commandTaken_link_self]; exact hattached) _
  rw [serveCommand, h, hrefuse, returnCredits_of_returns]
  · simp [State.commandTaken_eq, State.refused, State.setLink, State.setEngine, State.link, LinkPort.returned,
      LinkPort.tookCommand]
  · simpa [State.commandTaken_eq, State.link] using hattached
  · simp [State.commandTaken_eq, State.link]

/-- A served command that is deferred comes to `State.deferred`, where no return is pending. -/
theorem serveCommand_of_defer {examined : State → State} (hrequests : (s.link p).requestReturns = 0)
    (hcommands : (s.link p).commandReturns = 0)
    (h : examined (movePointer (sourceOf p) s) = deferCommand p (movePointer (sourceOf p) s)) :
    serveCommand p examined s = s.deferred p := by
  rw [serveCommand, h]
  exact returnCredits_of_none hrequests hcommands

end

/-! ### The checks that RELEASE, DROP, GRANT and REVOKE begin with -/

section
variable {p : PortId} {tag hpn : Nat} {s : State}

theorem checkItem_of_bounds (h : 8191 < hpn) : checkItem p hpn s = .error .bounds := if_pos h

theorem not_hpnCount_le (h : hpn ≤ 8191) : ¬Config.hpnCount ≤ hpn := by
  show ¬8192 ≤ hpn
  omega

theorem checkItem_of_none (hhpn : hpn ≤ 8191) (h : s.itemAt p hpn = none) : checkItem p hpn s = .error .notMapped := by
  rw [checkItem, if_neg (not_hpnCount_le hhpn), h]

theorem checkItem_of_leaving {f : Nat} {i : MapItem} (hhpn : hpn ≤ 8191) (h : s.itemAt p hpn = some (f, i))
    (hphase : i.phase = .leaving) : checkItem p hpn s = .error .leaving := by
  rw [checkItem, if_neg (not_hpnCount_le hhpn), h]
  exact if_pos hphase

theorem checkItem_of_active {f : Nat} {i : MapItem} (hhpn : hpn ≤ 8191) (h : s.itemAt p hpn = some (f, i))
    (hphase : i.phase = .active) : checkItem p hpn s = .ok (f, i) := by
  rw [checkItem, if_neg (not_hpnCount_le hhpn), h]
  exact if_neg (by simp [hphase])

/-- The refusals that the four commands share, for one that examines its item by `checkItem` and then its role. -/
theorem itemRefusals {c : Instr} {examined : State → State} {owned : Role} (hattached : (s.link p).state = .attached)
    (hexec : exec c s = .next (serveCommand p examined s))
    (herror : ∀ u st, checkItem p hpn u = .error st → examined u = refuseCommand p tag st u)
    (hrole : ∀ u f i, checkItem p hpn u = .ok (f, i) → i.role ≠ owned → examined u = refuseCommand p tag .role u) :
    (8191 < hpn → exec c s = .next (s.refused p tag .bounds)) ∧
      (hpn ≤ 8191 → s.itemAt p hpn = none → exec c s = .next (s.refused p tag .notMapped)) ∧
      ∀ f i, hpn ≤ 8191 → s.itemAt p hpn = some (f, i) →
        (i.phase = .leaving → exec c s = .next (s.refused p tag .leaving)) ∧
        (i.phase = .active → i.role ≠ owned → exec c s = .next (s.refused p tag .role)) := by
  have hrefused {st : Status} (h : checkItem p hpn s = .error st) : exec c s = .next (s.refused p tag st) := by
    rw [hexec, serveCommand_of_refuse hattached (herror _ _ (by exact h))]
  refine ⟨fun h => hrefused (checkItem_of_bounds h), fun h h' => hrefused (checkItem_of_none h h'),
    fun f i hhpn hi => ⟨fun h => hrefused (checkItem_of_leaving hhpn hi h), fun h hne => ?_⟩⟩
  rw [hexec, serveCommand_of_refuse hattached (hrole _ f i (by exact checkItem_of_active hhpn hi h) hne)]

theorem Role.eq_reader_of_ne_holder {r : Role} (h : r ≠ .holder) : r = .reader := by
  cases r
  · exact absurd rfl h
  · rfl

theorem Role.eq_holder_of_ne_reader {r : Role} (h : r ≠ .reader) : r = .holder := by
  cases r
  · rfl
  · exact absurd rfl h

theorem targetPort_of_bad {target : Nat} (h : target = p.val ∨ 3 < target) : targetPort p target = none := by
  unfold targetPort
  split
  · rw [if_pos (Fin.ext (by show target = p.val; omega))]
  · rfl

theorem targetPort_of_good {q : PortId} (hne : q ≠ p) : targetPort p q.val = some q := by
  simp [targetPort, hne]

end

/-- Settles O21: `itemRefusals` of each of the four commands. -/
theorem itemCommandsRefuseInOrder : Obligations.ItemCommandsRefuseInOrder := by
  unfold Obligations.ItemCommandsRefuseInOrder
  intro p tag hpn s
  refine ⟨fun h => ?_, fun h => ?_, fun target a h => ?_, fun target h => ?_⟩
  · exact itemRefusals h.2.1 (exec_release_of_served h) (fun u st hst => by simp [examineRelease, hst])
      (fun u f i hi hne => by simp [examineRelease, hi, Role.eq_reader_of_ne_holder hne])
  · exact itemRefusals h.2.1 (exec_drop_of_served h) (fun u st hst => by simp [examineDrop, hst])
      (fun u f i hi hne => by simp [examineDrop, hi, Role.eq_holder_of_ne_reader hne])
  · exact itemRefusals h.2.1 (exec_grant_of_served h) (fun u st hst => by simp [examineGrant, hst])
      (fun u f i hi hne => by simp [examineGrant, hi, Role.eq_reader_of_ne_holder hne])
  · exact itemRefusals h.2.1 (exec_revoke_of_served h) (fun u st hst => by simp [examineRevoke, hst])
      (fun u f i hi hne => by simp [examineRevoke, hi, Role.eq_reader_of_ne_holder hne])

/-! ### The later checks -/

section
variable {p : PortId} {tag hpn f : Nat} {i : MapItem} {s : State}

/-- What is left of a GRANT whose item is the sender's ACTIVE HOLDER item. -/
theorem examineGrant_of_holder {target : Nat} {a : Access} (h : checkItem p hpn s = .ok (f, i)) (hrole : i.role = .holder) :
    examineGrant p tag hpn target a s =
      match targetPort p target with
      | none => refuseCommand p tag .badPort s
      | some t =>
        if (s.link t).state ≠ .attached then refuseCommand p tag .targetGone s
        else if ((s.record f).itemOf t).isSome ∨ (s.offerOn f t).isSome then refuseCommand p tag .duplicate s
        else if 16 ≤ s.engine.offers.length ∨ 32 ≤ (s.link t).notices.length then refuseCommand p tag .busy s
        else makeOffer p tag hpn f t a (takeCommand p s) := by
  rw [examineGrant, h]
  simp only [hrole]
  rfl

/-- What is left of a REVOKE whose item is the sender's ACTIVE HOLDER item. -/
theorem examineRevoke_of_holder {target : Nat} (h : checkItem p hpn s = .ok (f, i)) (hrole : i.role = .holder) :
    examineRevoke p tag hpn target s =
      match targetPort p target with
      | none => refuseCommand p tag .badPort s
      | some t => revokeFrom p tag f t s := by
  rw [examineRevoke, h]
  simp only [hrole]
  rfl

end

/-- Settles O22: each check in its turn, the ones before it passing. -/
theorem targetsAndOffersAreChecked : Obligations.TargetsAndOffersAreChecked := by
  unfold Obligations.TargetsAndOffersAreChecked
  intro p tag s
  refine ⟨fun hpn target f i hhpn hi hphase hrole => ⟨fun a h => ⟨fun hbad => ?_, fun q hq hne => ?_⟩,
    fun h => ⟨fun hbad => ?_, fun q hq hne => ?_⟩⟩, fun gid hpn h => ⟨fun hnone => ?_, fun o ho => ⟨fun hbig => ?_, fun hhpn hocc => ?_⟩⟩,
    fun gid h hnone => ?_⟩
  all_goals have hattached := h.2.1
  · rw [exec_grant_of_served h, serveCommand_of_refuse hattached]
    rw [examineGrant_of_holder (f := f) (i := i) (by exact checkItem_of_active hhpn hi hphase) hrole, targetPort_of_bad hbad]
  · subst hq
    have hgrant := examineGrant_of_holder (tag := tag) (target := q.val) (a := a) (s := movePointer (sourceOf p) s)
      (by exact checkItem_of_active hhpn hi hphase) hrole
    rw [targetPort_of_good hne] at hgrant
    rw [exec_grant_of_served h]
    refine ⟨fun hgone => ?_, fun hq hdup => ?_, fun hq hitem hoffer hfull => ?_⟩
    · rw [serveCommand_of_refuse hattached (hgrant.trans (if_pos hgone))]
    · refine congrArg _ (serveCommand_of_refuse hattached (hgrant.trans ?_))
      refine (if_neg (not_not.2 hq)).trans (if_pos ?_)
      exact hdup.imp Option.isSome_iff_ne_none.2 Option.isSome_iff_ne_none.2
    · refine congrArg _ (serveCommand_of_refuse hattached (hgrant.trans ?_))
      refine (if_neg (not_not.2 hq)).trans ((if_neg ?_).trans (if_pos hfull))
      rintro (hsome | hsome)
      · exact Option.isSome_iff_ne_none.1 hsome hitem
      · exact Option.isSome_iff_ne_none.1 hsome hoffer
  · rw [exec_revoke_of_served h, serveCommand_of_refuse hattached]
    rw [examineRevoke_of_holder (f := f) (i := i) (by exact checkItem_of_active hhpn hi hphase) hrole, targetPort_of_bad hbad]
  · subst hq
    have hrevoke := examineRevoke_of_holder (tag := tag) (target := q.val) (s := movePointer (sourceOf p) s)
      (by exact checkItem_of_active hhpn hi hphase) hrole
    rw [targetPort_of_good hne] at hrevoke
    rw [exec_revoke_of_served h]
    refine ⟨fun j hj hleaving => ?_, fun hitem hoffer => ?_⟩
    · refine congrArg _ (serveCommand_of_refuse hattached (hrevoke.trans ?_))
      have hj' : ((movePointer (sourceOf p) s).record f).itemOf q = some j := hj
      simp [revokeFrom, hj', hleaving]
    · refine congrArg _ (serveCommand_of_refuse hattached (hrevoke.trans ?_))
      have hitem' : ((movePointer (sourceOf p) s).record f).itemOf q = none := hitem
      have hoffer' : (movePointer (sourceOf p) s).offerOn f q = none := hoffer
      simp [revokeFrom, hitem', hoffer']
  · rw [exec_accept_of_served h, serveCommand_of_refuse hattached]
    have hnone' : (movePointer (sourceOf p) s).offerTo p gid = none := hnone
    simp [examineAccept, hnone']
  · rw [exec_accept_of_served h, serveCommand_of_refuse hattached]
    have ho' : (movePointer (sourceOf p) s).offerTo p gid = some o := ho
    simp only [examineAccept, ho']
    exact if_pos hbig
  · rw [exec_accept_of_served h, serveCommand_of_refuse hattached]
    have ho' : (movePointer (sourceOf p) s).offerTo p gid = some o := ho
    simp only [examineAccept, ho']
    exact (if_neg (not_hpnCount_le hhpn)).trans (if_pos hocc)
  · rw [exec_decline_of_served h, serveCommand_of_refuse hattached]
    have hnone' : (movePointer (sourceOf p) s).offerTo p gid = none := hnone
    simp [examineDecline, hnone']

/-- Settles O28: each command passes its checks up to the one of the free records. -/
theorem commandsAreDeferredForRecords : Obligations.CommandsAreDeferredForRecords := by
  unfold Obligations.CommandsAreDeferredForRecords
  intro p tag hpn f i s hrequests hcommands hhpn hi hphase
  have hcheck : checkItem p hpn (movePointer (sourceOf p) s) = .ok (f, i) := checkItem_of_active hhpn hi hphase
  refine ⟨fun h hrole hfew => ?_, fun h hrole hnone => ?_, fun q j h hrole hne hj hjphase hnone => ?_⟩
  · rw [exec_release_of_served h, serveCommand_of_defer hrequests hcommands]
    simp only [examineRelease, hcheck, hrole]
    exact if_pos hfew
  · rw [exec_drop_of_served h, serveCommand_of_defer hrequests hcommands]
    simp only [examineDrop, hcheck, hrole]
    exact if_pos (Nat.lt_one_iff.2 hnone)
  · rw [exec_revoke_of_served h, serveCommand_of_defer hrequests hcommands]
    have hj' : ((movePointer (sourceOf p) s).record f).itemOf q = some j := hj
    rw [examineRevoke_of_holder hcheck hrole, targetPort_of_good hne]
    simp only [revokeFrom, hj', hjphase]
    exact if_pos (Nat.lt_one_iff.2 hnone)

/-! ### CLAIM -/

section
variable {p : PortId} {hpn n : Nat} {s : State}

theorem claimRefusal_of_bounds (h : n = 0 ∨ 16 < n ∨ 8191 < hpn + n - 1) : claimRefusal p hpn n s = some .bounds := by
  refine if_pos ?_
  show n = 0 ∨ 16 < n ∨ 8192 < hpn + n
  omega

theorem claimRefusal_of_in_bounds (h : ¬(n = 0 ∨ 16 < n ∨ 8191 < hpn + n - 1)) : claimRefusal p hpn n s =
    if (List.range n).any fun k => s.occupied p (hpn + k) then some .conflict
    else if s.mgmt.settings.quota.get p < s.engine.held.get p + s.parked p + n then some .quota else none := by
  refine if_neg ?_
  show ¬(n = 0 ∨ 16 < n ∨ 8192 < hpn + n)
  omega

theorem examineClaim_of_not_atOnce {tag : Nat} (hpass : claimRefusal p hpn n s = none)
    (hwaits : ¬(s.engine.claims = [] ∧ n ≤ s.engine.freeList.length)) : examineClaim p tag hpn n s =
      if s.mgmt.settings.claimMs = 0 then refuseCommand p tag .noFrames s
      else if 8 ≤ s.engine.claims.length then refuseCommand p tag .busy s
      else parkClaim p tag hpn n (takeCommand p s) := by
  rw [examineClaim, hpass]
  exact if_neg (by simpa using hwaits)

theorem any_occupied_iff : ((List.range n).any fun k => s.occupied p (hpn + k)) = true ↔
    ∃ k, k < n ∧ s.occupied p (hpn + k) = true := by simp

end

/-- Settles O19: the refusals of R55 in their order, then R56 and R58. -/
theorem claimIsRefusedOrParks : Obligations.ClaimIsRefusedOrParks := by
  unfold Obligations.ClaimIsRefusedOrParks
  intro p tag hpn n s h
  dsimp only
  have hattached := h.2.1
  have hrefused {st : Status} (hst : claimRefusal p hpn n s = some st) :
      exec (.claim p) s = .next (s.refused p tag st) := by
    rw [exec_claim_of_served h, serveCommand_of_refuse hattached]
    have hst' : claimRefusal p hpn n (movePointer (sourceOf p) s) = some st := hst
    simp [examineClaim, hst']
  refine ⟨fun hb => hrefused (claimRefusal_of_bounds hb), fun hb hc => hrefused ?_, fun hb hc hq => hrefused ?_,
    fun hb hc hq hlater => ?_⟩
  · rw [claimRefusal_of_in_bounds hb, if_pos (any_occupied_iff.2 hc)]
  · rw [claimRefusal_of_in_bounds hb, if_neg (fun hany => hc (any_occupied_iff.1 hany)), if_pos hq]
  · have hpass : claimRefusal p hpn n (movePointer (sourceOf p) s) = none := by
      show claimRefusal p hpn n s = none
      rw [claimRefusal_of_in_bounds hb, if_neg (fun hany => hc (any_occupied_iff.1 hany)), if_neg hq]
    have hexamine := examineClaim_of_not_atOnce (tag := tag) hpass (by exact hlater)
    rw [exec_claim_of_served h]
    refine ⟨fun hms => ?_, fun hms hfull => ?_, fun hms hroom => ?_⟩
    · rw [serveCommand_of_refuse hattached (hexamine.trans (if_pos hms))]
    · rw [serveCommand_of_refuse hattached (hexamine.trans ((if_neg hms).trans (if_pos hfull)))]
    · have hparks : examineClaim p tag hpn n (movePointer (sourceOf p) s) = parkClaim p tag hpn n (s.commandTaken p) :=
        hexamine.trans ((if_neg hms).trans (if_neg (Nat.not_le.2 hroom)))
      rw [serveCommand, hparks, returnCredits_of_returns]
      · simp [State.commandTaken_eq, parkClaim, State.setLink, State.setEngine, State.link, LinkPort.returned,
          LinkPort.tookCommand, Engine.tookCommand]
      · simpa [State.commandTaken_eq, parkClaim, State.link] using hattached
      · simp [State.commandTaken_eq, parkClaim, State.link]

end Sys2Proof.Machine
end

section
/-! Recall records as they begin (R88 to R92) and as their deadline forces them (R97): the next id, the three ways a record
starts, and what a forced record leaves. -/

namespace Sys2Proof.Machine

/-! ### The next id of a counter (R72, R89) -/

/-- Every value that the search passed was held, and so was the last, if the result is. -/
theorem advanceId_used {used : Nat → Bool} (n c : Nat) (hc : c < Config.idSpan) (h : used (advanceId used n c) = true) :
    ∀ k ≤ n, used ((c + k) % Config.idSpan) = true := by
  induction n generalizing c with
  | zero =>
    intro k hk
    rw [Nat.le_zero.1 hk, Nat.add_zero, Nat.mod_eq_of_lt hc]
    exact h
  | succ n ih =>
    by_cases hused : used c = true
    · rw [advanceId, if_pos hused] at h
      intro k hk
      cases k with
      | zero => rwa [Nat.add_zero, Nat.mod_eq_of_lt hc]
      | succ k =>
        have hnext := ih _ (Nat.mod_lt _ (by decide)) h k (by omega)
        rwa [Nat.mod_add_mod, show c + 1 + k = c + (k + 1) by omega] at hnext
    · rw [advanceId, if_neg hused] at h
      exact absurd h hused

theorem advanceId_lt {used : Nat → Bool} (n c : Nat) (hc : c < Config.idSpan) : advanceId used n c < Config.idSpan := by
  induction n generalizing c with
  | zero => exact hc
  | succ n ih =>
    unfold advanceId
    split
    · exact ih _ (Nat.mod_lt _ (by decide))
    · exact hc

/-- A search that may pass as many values as there are ids finds one that none of them is. -/
theorem advanceId_not_mem {ids : List Nat} (hlength : ids.length < Config.idSpan) {c : Nat} (hc : c < Config.idSpan) :
    advanceId (fun n => decide (n ∈ ids)) ids.length c ∉ ids := by
  intro hmem
  have hall := advanceId_used (used := fun n => decide (n ∈ ids)) ids.length c hc (decide_eq_true hmem)
  have hsubset : (List.range (ids.length + 1)).map (fun k => (c + k) % Config.idSpan) ⊆ ids := by
    intro x hx
    obtain ⟨k, hk, rfl⟩ := List.mem_map.1 hx
    exact of_decide_eq_true (hall k (Nat.lt_succ_iff.1 (List.mem_range.1 hk)))
  have hnodup : ((List.range (ids.length + 1)).map fun k => (c + k) % Config.idSpan).Nodup := by
    refine List.Nodup.map_on (fun j hj k hk heq => ?_) List.nodup_range
    rw [List.mem_range] at hj hk
    rw [Config.idSpan] at hlength heq
    omega
  have hle := (hnodup.subperm hsubset).length_le
  rw [List.length_map, List.length_range] at hle
  omega

theorem nextRecallId_spec {table : List RecallRecord} (hlength : table.length < Config.idSpan) (c : Nat) :
    nextRecallId table c < 65536 ∧ ∀ r ∈ table, r.recallId ≠ nextRecallId table c := by
  have hc : (c + 1) % Config.idSpan < Config.idSpan := Nat.mod_lt _ (by decide)
  have hused : (fun n => table.any fun r => r.recallId == n) = fun n => decide (n ∈ table.map RecallRecord.recallId) := by
    funext n
    rw [Bool.eq_iff_iff]
    simp
  refine ⟨advanceId_lt _ _ hc, fun r hr heq => ?_⟩
  have hfresh := advanceId_not_mem (ids := table.map RecallRecord.recallId) (by simpa using hlength) hc
  rw [List.length_map, ← hused] at hfresh
  exact hfresh (List.mem_map.2 ⟨r, hr, heq⟩)

theorem nextGrantId_spec {table : List Offer} (hlength : table.length < Config.idSpan) (c : Nat) :
    nextGrantId table c < 65536 ∧ ∀ o ∈ table, o.grantId ≠ nextGrantId table c := by
  have hc : (c + 1) % Config.idSpan < Config.idSpan := Nat.mod_lt _ (by decide)
  have hused : (fun n => table.any fun o => o.grantId == n) = fun n => decide (n ∈ table.map Offer.grantId) := by
    funext n
    rw [Bool.eq_iff_iff]
    simp
  refine ⟨advanceId_lt _ _ hc, fun o ho heq => ?_⟩
  have hfresh := advanceId_not_mem (ids := table.map Offer.grantId) (by simpa using hlength) hc
  rw [List.length_map, ← hused] at hfresh
  exact hfresh (List.mem_map.2 ⟨o, ho, heq⟩)

/-! ### How a record begins -/

section
variable {f : Nat} {i : MapItem} {reason : RecallReason} {notify : Bool} {origin : Option (PortId × Nat)} {s : State}

theorem createRecall_counter :
    (createRecall f i reason notify origin s).recalls.counter =
      nextRecallId (s.recalls.table ++ [s.newRecall f i reason notify origin]) s.recalls.counter := by
  obtain h | h | ⟨l, h⟩ := createRecall_cases f i reason notify origin s <;> rw [h] <;> rfl

theorem createRecall_table :
    (createRecall f i reason notify origin s).recalls.table =
      s.recalls.table ++ [s.newRecall f i reason notify origin] := by
  obtain h | h | ⟨l, h⟩ := createRecall_cases f i reason notify origin s <;> rw [h] <;> rfl

theorem State.notifies_eq_false (h : notify = false ∨ (s.link i.port).state ≠ .attached) : s.notifies i notify = false := by
  rcases h with rfl | h
  · rfl
  · simp [State.notifies, h]

theorem State.notifies_eq_true (h : notify = true) (h' : (s.link i.port).state = .attached) : s.notifies i notify = true := by
  simp [State.notifies, h, h']

theorem createRecall_of_silent (h : s.notifies i notify = false) : createRecall f i reason notify origin s =
    askWrite (s.newRecall f i reason notify origin).unmapWrite (s.withRecall (s.newRecall f i reason notify origin)) :=
  if_pos (by show (!s.notifies i notify) = true; rw [h]; rfl)

theorem createRecall_of_room (h : s.notifies i notify = true) (hroom : s.noticeRoom i.port = true) :
    createRecall f i reason notify origin s =
      appendNotice i.port (s.newRecall f i reason notify origin).notice
        (s.withRecall (s.newRecall f i reason notify origin)) :=
  (if_neg (by show ¬(!s.notifies i notify) = true; rw [h]; decide)).trans (if_pos hroom)

theorem createRecall_of_full (h : s.notifies i notify = true) (hroom : s.noticeRoom i.port = false) :
    createRecall f i reason notify origin s =
      setPending i.port (s.recalls.pendingLists.get i.port ++ [s.recalls.counter])
        (s.withRecall (s.newRecall f i reason notify origin)) :=
  (if_neg (by show ¬(!s.notifies i notify) = true; rw [h]; decide)).trans (if_neg (by simp [hroom]))

theorem State.noticeRoom_eq_true {p : PortId} (h : (s.link p).state = .attached) (h' : (s.link p).notices.length < 32) :
    s.noticeRoom p = true := by simp [State.noticeRoom, h, Config.noticeQueueSize, h']

theorem State.noticeRoom_eq_false {p : PortId} (h : 32 ≤ (s.link p).notices.length) : s.noticeRoom p = false := by
  simp only [State.noticeRoom, Bool.and_eq_false_iff]
  exact .inr (decide_eq_false (Nat.not_lt.2 h))

end

/-- Settles O29: the three ways a record begins, and `nextRecallId_spec`. -/
theorem recallRecordsStartByRule : Obligations.RecallRecordsStartByRule := by
  unfold Obligations.RecallRecordsStartByRule
  intro f i reason notify origin s
  dsimp only
  refine ⟨fun hlength => ?_, fun hsilent => ?_, fun hnotify hattached hroom => ?_, fun hnotify hattached hfull => ?_⟩
  · rw [createRecall_counter, createRecall_table]
    refine nextRecallId_spec ?_ _
    rw [List.length_append, List.length_singleton, Config.idSpan]
    omega
  · have hnotifies := State.notifies_eq_false hsilent
    refine ⟨?_, ?_, ?_⟩
    · rw [createRecall_table]
      simp [State.newRecall, hnotifies]
    · rw [createRecall_of_silent hnotifies]
      rfl
    · rw [createRecall_of_silent hnotifies]
      exact askWrite_writeAsked (by simp [RecallRecord.unmapWrite]) _
  · have hnotifies := State.notifies_eq_true hnotify hattached
    have hr := State.noticeRoom_eq_true hattached hroom
    refine ⟨?_, ?_, ?_⟩
    · rw [createRecall_table]
      simp [State.newRecall, hnotifies, hr]
    · rw [createRecall_of_room hnotifies hr]
      exact State.setLink_link_same _ _ _
    · rw [createRecall_of_room hnotifies hr]
      rfl
  · have hnotifies := State.notifies_eq_true hnotify hattached
    have hr := State.noticeRoom_eq_false hfull
    refine ⟨?_, ?_, ?_, ?_⟩
    · rw [createRecall_table]
      simp [State.newRecall, hnotifies, hr]
    · rw [createRecall_of_full hnotifies hr]
      rfl
    · rw [createRecall_of_full hnotifies hr]
      exact Quad.get_set_same _ _ _
    · rw [createRecall_of_full hnotifies hr]
      rfl

/-! ### A forced record (R97, R99) -/

section
variable {r : RecallRecord} {s : State}

theorem exec_recallDeadline_of_due {d : Nat} (hop : s.operating = true) (hr : s.recordById r.recallId = some r)
    (hdeadline : r.deadline = some d) (hdue : d ≤ s.now) (hphase : r.phase = .notified ∨ r.phase = .notifyPending) :
    exec (.recallDeadline r.recallId) s = .next (forceRecall r s) := by
  show whenOperating s _ = _
  rw [whenOperating, if_pos hop, hr]
  simp only [hdeadline]
  rw [if_pos ⟨hdue, hphase.symm⟩]

theorem exec_recallDeadline_of_no_deadline (hr : s.recordById r.recallId = some r) (hdeadline : r.deadline = none) :
    exec (.recallDeadline r.recallId) s = .next s := by
  show whenOperating s _ = _
  simp [whenOperating, hr, hdeadline]

/-- `s` when the record no longer waits for its notice or for the host's acknowledgment. -/
def State.notWaitingFor (s : State) (r : RecallRecord) : State :=
  if r.phase = .notifyPending then leavePending r s else removeNoticeAndFill r.port (Notice.isRecall r.recallId) s

theorem forceRecall_eq : forceRecall r s =
    startUnmap r (handFault (.forcedRecall r.port r.frame r.hpn (r.noticeSent == some true) r.reason)
      (s.notWaitingFor r)) := rfl

theorem State.notWaitingFor_noticesOnly : NoticesOnly r.port s (s.notWaitingFor r) := by
  unfold State.notWaitingFor
  split
  · exact .setRecalls _ _ s
  · exact removeNoticeAndFill_noticesOnly ..

theorem State.notWaitingFor_recordById (hr : s.recordById r.recallId = some r)
    (hphase : r.phase = .notified ∨ r.phase = .notifyPending) : (s.notWaitingFor r).recordById r.recallId = some r := by
  unfold State.notWaitingFor
  split
  · exact hr
  case isFalse h => exact removeNoticeAndFill_recordById_of_notified _ _ hr (hphase.resolve_right h)

/-- The forced record is in UNMAPPING and has no deadline. -/
theorem forceRecall_recordById (hr : s.recordById r.recallId = some r)
    (hphase : r.phase = .notified ∨ r.phase = .notifyPending) :
    (forceRecall r s).recordById r.recallId = some r.turnUnmapping :=
  startUnmap_recordById (State.notWaitingFor_recordById hr hphase)

end

/-- Settles O30. -/
theorem deadlineForcesRecall : Obligations.DeadlineForcesRecall := by
  unfold Obligations.DeadlineForcesRecall
  intro r d s hop hr hdeadline hdue hphase
  have honly := State.notWaitingFor_noticesOnly (r := r) (s := s)
  have hrecord := forceRecall_recordById hr hphase
  refine ⟨forceRecall r s, exec_recallDeadline_of_due hop hr hdeadline hdue hphase, hrecord, ?flight, ?asked, fun hpending => ?pending,
    fun hnotified hlist => ?notified, honly.engine, fun q hq => honly.samePort hq, fun later hlater => ?later⟩
  case flight =>
    have hsame : (r.noticeSent == some true) = decide (r.noticeSent = some true) := by
      rw [Bool.eq_iff_iff]
      simp
    show (handFault _ (s.notWaitingFor r)).flight = _
    rw [handFault, State.setFlight_flight, honly.flight, hsame]
  case asked => exact startUnmap_writeAsked r _
  case pending =>
    have hleaves : s.notWaitingFor r = leavePending r s := if_pos hpending
    have hlists : (forceRecall r s).recalls.pendingLists = (leavePending r s).recalls.pendingLists := by
      rw [forceRecall_eq, hleaves]
      rfl
    have hlinks : (forceRecall r s).links = (leavePending r s).links := by
      rw [forceRecall_eq, hleaves]
      rfl
    refine ⟨?_, hlinks⟩
    rw [hlists]
    simp [leavePending, setPending]
  case notified =>
    have hremoves : s.notWaitingFor r = removeNoticeAndFill r.port (Notice.isRecall r.recallId) s :=
      if_neg (by simp [hnotified])
    rw [forceRecall_eq, startUnmap_link, hremoves]
    exact removeNoticeAndFill_no_recall hlist
  case later =>
    rw [hrecord] at hlater
    exact exec_recallDeadline_of_no_deadline (r := r.turnUnmapping) hlater rfl

end Sys2Proof.Machine
end

section
/-! The pool commands that are accepted (R57, R65, R69, R74, R77, R78, R83, R84): what serving each leaves. -/

namespace Sys2Proof.Machine

/-! ### Records of the directory whatever its form -/

/-- A value that is listed reads back, in canonical form or not. -/
theorem sparseGet_sparsePut_same {α : Type} [DecidableEq α] {d : Nat → α} {k : Nat} {v : α} (hv : v ≠ d k)
    (m : List (Nat × α)) : sparseGet d (sparsePut d m k v) k = v := by
  induction m with
  | nil => simp [sparsePut, sparseGet, hv]
  | cons e t ih =>
    by_cases hlt : k < e.1
    · simp [sparsePut, sparseGet, hlt, hv]
    · by_cases heq : k = e.1
      · simp [sparsePut, sparseGet, heq, heq ▸ hv]
      · simp [sparsePut, sparseGet, hlt, heq, Ne.symm heq, ih]

theorem State.setRecord_record_ne {s : State} {f g : Nat} (r : FrameRecord) (hg : g ≠ f) :
    (s.setRecord f r).record g = s.record g := sparseGet_sparsePut_ne _ _ _ hg

/-- A record that is not in the state of a reset, or holds an item, reads back. -/
theorem State.setRecord_record_same {s : State} {f : Nat} {r : FrameRecord}
    (h : r.items ≠ [] ∨ (r.state ≠ .reserved ∧ r.state ≠ .scrubbing)) : (s.setRecord f r).record f = r := by
  refine sparseGet_sparsePut_same (fun heq => ?_) _
  obtain hitems | ⟨hreserved, hscrubbing⟩ := h
  · exact hitems (congrArg FrameRecord.items heq)
  · have hstate : r.state = if f = 0 then .reserved else .scrubbing := congrArg FrameRecord.state heq
    split at hstate
    · exact hreserved hstate
    · exact hscrubbing hstate

/-! ### The item that a command names -/

theorem State.itemAt_spec {s : State} {p : PortId} {hpn f : Nat} {i : MapItem} (h : s.itemAt p hpn = some (f, i)) :
    i.port = p ∧ i.hpn = hpn := by
  obtain ⟨e, -, he⟩ := List.exists_of_findSome?_eq_some h
  obtain ⟨j, hj, heq⟩ := Option.map_eq_some_iff.1 he
  obtain ⟨-, rfl⟩ := Prod.mk.inj heq
  simpa using List.find?_some hj

theorem FrameRecord.itemOf_spec {r : FrameRecord} {p : PortId} {i : MapItem} (h : r.itemOf p = some i) :
    i ∈ r.items ∧ i.port = p := ⟨List.mem_of_find?_eq_some h, by simpa using List.find?_some h⟩

theorem State.offerTo_spec {s : State} {p : PortId} {gid : Nat} {o : Offer} (h : s.offerTo p gid = some o) :
    o.grantId = gid ∧ o.toPort = p := by simpa using List.find?_some h

theorem State.offerOn_spec {s : State} {f : Nat} {p : PortId} {o : Offer} (h : s.offerOn f p = some o) :
    o.frame = f ∧ o.toPort = p := by simpa using List.find?_some h

/-! ### What serving an accepted command comes to -/

section
variable {p : PortId} {tag : Nat} {s u : State} {examined : State → State}

/-- Once the command was taken, and the event did no more to the Link Port of `p` than to hand completions over and to
change its notices, the returns are sent. -/
theorem serveCommand_of_taken {cs : List Completion} {ns : List Notice} (hattached : (s.link p).state = .attached)
    (h : examined (movePointer (sourceOf p) s) = u)
    (hlink : u.link p = { (s.commandTaken p).link p with outbound := (s.link p).outbound ++ cs, notices := ns }) :
    serveCommand p examined s = u.setLink p { (s.link p).tookCommand cs with notices := ns } := by
  rw [serveCommand, h, returnCredits_of_returns, hlink, State.commandTaken_link_self]
  · rfl
  · rw [hlink, State.commandTaken_link_self]
    exact hattached
  · rw [hlink, State.commandTaken_link_self]
    exact Nat.succ_ne_zero _

/-- As `serveCommand_of_taken`, for an event that leaves the notices of `p` too. -/
theorem serveCommand_of_taken_only (hattached : (s.link p).state = .attached)
    (h : examined (movePointer (sourceOf p) s) = u) (hlink : u.link p = (s.commandTaken p).link p) :
    serveCommand p examined s = u.setLink p ((s.link p).tookCommand []) := by
  rw [serveCommand_of_taken (cs := []) (ns := (s.link p).notices) hattached h]
  · rfl
  · rw [hlink, State.commandTaken_link_self, List.append_nil]

/-- A port that no command was taken from, and that the event left alone, is as before. -/
theorem samePort_of_commandTaken {q : PortId} {l : LinkPort} (hq : q ≠ p) (h : samePort q (s.commandTaken p) u) :
    samePort q s (u.setLink p l) := by
  obtain ⟨hlink, hqueue, hcache⟩ := h
  refine ⟨?_, hqueue, hcache⟩
  rw [State.setLink_link_ne _ _ hq, hlink, State.commandTaken_link_of_ne _ _ hq]

end

/-! ### CLAIM (R57) -/

section
variable {p : PortId} {tag hpn : Nat}

/-- The frames of the list, each with its place in the claim, are lent to `p`. -/
def lendFrames (p : PortId) (hpn : Nat) (fs : List (Nat × Nat)) (s : State) : State :=
  fs.foldl (fun s fk => lendFrame p (hpn + fk.2) fk.1 s) s

/-- Their valid map writes are asked for. -/
def askClaimWrites (p : PortId) (tag hpn : Nat) (fs : List (Nat × Nat)) (s : State) : State :=
  fs.foldl (fun s fk =>
    askWrite { port := p, hpn := hpn + fk.2, value := .valid fk.1 .readWrite, producer := .claim p tag } s) s

/-- `s` with the claim of `n` frames booked: they have left the Free List, held(P) counts them, and the claim is in
progress (R57). -/
def State.claimBooked (s : State) (p : PortId) (tag n : Nat) : State :=
  s.setEngine { s.engine with
    freeList := s.engine.freeList.drop n, held := s.engine.held.set p (s.engine.held.get p + n),
    granted := s.engine.granted ++ [{ port := p, tag := tag, left := n }] }

theorem grantClaim_eq (p : PortId) (tag hpn n : Nat) (s : State) : grantClaim p tag hpn n s =
    askClaimWrites p tag hpn (s.engine.freeList.take n).zipIdx
      (lendFrames p hpn (s.engine.freeList.take n).zipIdx (s.claimBooked p tag n)) := rfl

/-- The record of a frame lent to `p` at the host page. -/
def FrameRecord.lent (r : FrameRecord) (p : PortId) (hpn : Nat) : FrameRecord :=
  { r with
    state := .held, holder := some p, leave := none, quarantineOnExit := false,
    items := [{ port := p, hpn := hpn, access := .readWrite, role := .holder, phase := .active }] }

theorem lendFrame_record (p : PortId) (hpn f g : Nat) (s : State) :
    (lendFrame p hpn f s).record g = if g = f then (s.record f).lent p hpn else s.record g := by
  split
  case isTrue h =>
    subst h
    exact State.setRecord_record_same (.inl (by simp))
  case isFalse h => exact State.setRecord_record_ne _ h

theorem lendFrames_record_of_not_mem {fs : List (Nat × Nat)} {f : Nat} (h : f ∉ fs.map Prod.fst) (s : State) :
    (lendFrames p hpn fs s).record f = s.record f := by
  induction fs generalizing s with
  | nil => rfl
  | cons x fs ih =>
    rw [List.map_cons, List.mem_cons, not_or] at h
    exact (ih h.2 _).trans ((lendFrame_record ..).trans (if_neg h.1))

theorem lendFrames_record_of_mem {fs : List (Nat × Nat)} {f k : Nat} (hnodup : (fs.map Prod.fst).Nodup) (h : (f, k) ∈ fs)
    (s : State) : (lendFrames p hpn fs s).record f = (s.record f).lent p (hpn + k) := by
  induction fs generalizing s with
  | nil => cases h
  | cons x fs ih =>
    rw [List.map_cons, List.nodup_cons] at hnodup
    obtain rfl | h := List.mem_cons.1 h
    · exact (lendFrames_record_of_not_mem hnodup.1 _).trans ((lendFrame_record ..).trans (if_pos rfl))
    · have hne : f ≠ x.1 := fun heq => hnodup.1 (heq ▸ List.mem_map_of_mem (f := Prod.fst) h)
      refine (ih hnodup.2 h _).trans ?_
      rw [lendFrame_record, if_neg hne]

theorem askWrite_keeps_asked {v w : MapWrite} (hw : w.producer ≠ .repair) {s : State} (h : s.writeAsked w) :
    (askWrite v s).writeAsked w := by
  refine drainWaiting_asked hw _ (show MapUnit.asked _ w from ?_)
  exact h.imp id fun h => List.mem_append_left _ h

theorem askClaimWrites_keeps_asked {w : MapWrite} (hw : w.producer ≠ .repair) (fs : List (Nat × Nat)) {s : State}
    (h : s.writeAsked w) : (askClaimWrites p tag hpn fs s).writeAsked w :=
  List.foldlRecOn (motive := fun u : State => u.writeAsked w) fs _ h fun _ h _ _ => askWrite_keeps_asked hw h

theorem askClaimWrites_asked {fs : List (Nat × Nat)} {f k : Nat} (h : (f, k) ∈ fs) (s : State) :
    (askClaimWrites p tag hpn fs s).writeAsked
      { port := p, hpn := hpn + k, value := .valid f .readWrite, producer := .claim p tag } := by
  induction fs generalizing s with
  | nil => cases h
  | cons x fs ih =>
    obtain rfl | h := List.mem_cons.1 h
    · exact askClaimWrites_keeps_asked (by simp) fs (askWrite_writeAsked (by simp) s)
    · exact ih h _

theorem askClaimWrites_only_mapUnit (fs : List (Nat × Nat)) (s : State) :
    ∃ m, askClaimWrites p tag hpn fs s = s.setMapUnit m :=
  List.foldlRecOn (motive := fun u : State => ∃ m, u = s.setMapUnit m) fs _ ⟨s.mapUnit, rfl⟩
    fun u hu fk _ => by
      obtain ⟨m, rfl⟩ := hu
      exact ⟨_, rfl⟩

theorem lendFrames_only_directory (fs : List (Nat × Nat)) (s : State) :
    ∃ d, lendFrames p hpn fs s = s.setEngine { s.engine with directory := d } :=
  List.foldlRecOn (motive := fun u : State => ∃ d, u = s.setEngine { s.engine with directory := d }) fs _
    ⟨s.engine.directory, rfl⟩
    fun u hu fk _ => by
      obtain ⟨d, rfl⟩ := hu
      exact ⟨_, rfl⟩

/-- All that a granted claim changes: the engine's lists and records, and the Map Unit. -/
theorem grantClaim_shape (p : PortId) (tag hpn n : Nat) (s : State) :
    ∃ d m, grantClaim p tag hpn n s =
      ((s.claimBooked p tag n).setEngine { (s.claimBooked p tag n).engine with directory := d }).setMapUnit m := by
  obtain ⟨d, hd⟩ := lendFrames_only_directory (p := p) (hpn := hpn) (s.engine.freeList.take n).zipIdx (s.claimBooked p tag n)
  obtain ⟨m, hm⟩ := askClaimWrites_only_mapUnit (p := p) (tag := tag) (hpn := hpn) (s.engine.freeList.take n).zipIdx
    (lendFrames p hpn (s.engine.freeList.take n).zipIdx (s.claimBooked p tag n))
  exact ⟨d, m, by rw [grantClaim_eq, hm, hd]⟩

theorem map_fst_zipIdx {α : Type} (l : List α) (k : Nat) : (l.zipIdx k).map Prod.fst = l := List.zipIdx_map_fst k l

theorem grantClaim_record (p : PortId) (tag hpn n : Nat) (s : State) (f : Nat) : (grantClaim p tag hpn n s).record f =
    (lendFrames p hpn (s.engine.freeList.take n).zipIdx (s.claimBooked p tag n)).record f := by
  obtain ⟨m, hm⟩ := askClaimWrites_only_mapUnit (p := p) (tag := tag) (hpn := hpn) (s.engine.freeList.take n).zipIdx
    (lendFrames p hpn (s.engine.freeList.take n).zipIdx (s.claimBooked p tag n))
  rw [grantClaim_eq, hm, State.setMapUnit_record]

theorem grantClaim_record_of_not_mem {n f : Nat} {s : State} (h : f ∉ s.engine.freeList.take n) :
    (grantClaim p tag hpn n s).record f = s.record f := by
  rw [grantClaim_record]
  exact lendFrames_record_of_not_mem (by rwa [map_fst_zipIdx]) _

/-- Frame number `k` of the claim. -/
theorem mem_zipIdx_take {l : List Nat} {n k f : Nat} (hk : k < n) (hf : l[k]? = some f) : (f, k) ∈ (l.take n).zipIdx :=
  List.mk_mem_zipIdx_iff_getElem?.2 (by rwa [List.getElem?_take_of_lt hk])

theorem grantClaim_record_of_mem {n k f : Nat} {s : State} (hnodup : (s.engine.freeList.take n).Nodup) (hk : k < n)
    (hf : s.engine.freeList[k]? = some f) : (grantClaim p tag hpn n s).record f = (s.record f).lent p (hpn + k) := by
  rw [grantClaim_record]
  exact lendFrames_record_of_mem (by rwa [map_fst_zipIdx]) (mem_zipIdx_take hk hf) _

theorem grantClaim_asked {n k f : Nat} {s : State} (hk : k < n) (hf : s.engine.freeList[k]? = some f) :
    (grantClaim p tag hpn n s).writeAsked
      { port := p, hpn := hpn + k, value := .valid f .readWrite, producer := .claim p tag } := by
  rw [grantClaim_eq]
  exact askClaimWrites_asked (mem_zipIdx_take hk hf) _

theorem examineClaim_of_atOnce {n : Nat} {s : State} (hpass : claimRefusal p hpn n s = none) (hclaims : s.engine.claims = [])
    (hfree : n ≤ s.engine.freeList.length) : examineClaim p tag hpn n s = grantClaim p tag hpn n (takeCommand p s) := by
  rw [examineClaim, hpass]
  exact if_pos ⟨by simp [hclaims], hfree⟩

end

/-- Settles O20. -/
theorem claimGrantLendsFrames : Obligations.ClaimGrantLendsFrames := by
  unfold Obligations.ClaimGrantLendsFrames
  intro p tag hpn n s h hpass hclaims hfree hnodup
  obtain ⟨d, m, hshape⟩ := grantClaim_shape p tag hpn n (s.commandTaken p)
  have hgrant : examineClaim p tag hpn n (movePointer (sourceOf p) s) = grantClaim p tag hpn n (s.commandTaken p) :=
    examineClaim_of_atOnce (by exact hpass) hclaims hfree
  refine ⟨_, by rw [exec_claim_of_served h, serveCommand_of_taken_only h.2.1 hgrant (by rw [hshape]; rfl)], ?_, ?_, ?_,
    fun k f hk hf => ⟨?_, ?_⟩, fun f hf => ?_, ?_, ?_, fun q hq => ?_⟩
  · exact State.setLink_link_same _ _ _
  · rw [hshape]
    rfl
  · rw [hshape]
    rfl
  · exact grantClaim_record_of_mem (s := s.commandTaken p) hnodup hk hf
  · exact grantClaim_asked (s := s.commandTaken p) hk hf
  · exact grantClaim_record_of_not_mem (s := s.commandTaken p) hf
  · rw [hshape]
    rfl
  · rw [hshape]
    rfl
  · exact samePort_of_commandTaken hq (by rw [hshape]; exact ⟨rfl, rfl, rfl⟩)

end Sys2Proof.Machine
end

section
/-! The pool commands that recall an item or deal with an offer (R65, R69, R74, R77, R78, R83, R84): what serving each
leaves. -/

namespace Sys2Proof.Machine

theorem State.record_of_engine {s t : State} (h : t.engine = s.engine) (f : Nat) : t.record f = s.record f := by
  rw [State.record, h]
  rfl

theorem State.record_of_directory {s t : State} (h : t.engine.directory = s.engine.directory) (f : Nat) :
    t.record f = s.record f := by
  rw [State.record, h]
  rfl

@[simp] theorem State.setRecord_link (s : State) (f : Nat) (r : FrameRecord) (p : PortId) :
    (s.setRecord f r).link p = s.link p := rfl

theorem FrameRecord.turnLeaving_items_ne_nil {r : FrameRecord} (h : r.items ≠ []) (p : PortId) :
    (r.turnLeaving p).items ≠ [] := by simpa [FrameRecord.turnLeaving] using h

/-- `s` without the offer in the table. -/
def State.withoutOffer (s : State) (o : Offer) : State :=
  s.setEngine { s.engine with offers := s.engine.offers.filter fun x => !(x.grantId == o.grantId) }

/-! ### One item recalled -/

section
variable {f : Nat} {i : MapItem} {reason : RecallReason} {notify : Bool} {origin : Option (PortId × Nat)} {s : State}

theorem recallItem_noticesOnly :
    NoticesOnly i.port (s.setRecord f ((s.record f).turnLeaving i.port)) (recallItem f i reason notify origin s) :=
  createRecall_noticesOnly ..

theorem recallItem_table : (recallItem f i reason notify origin s).recalls.table =
    s.recalls.table ++ [s.newRecall f i reason notify origin] := createRecall_table

theorem recallItem_record_ne {g : Nat} (hg : g ≠ f) : (recallItem f i reason notify origin s).record g = s.record g :=
  (State.record_of_engine recallItem_noticesOnly.engine g).trans (State.setRecord_record_ne _ hg)

theorem recallItem_record_of_wf (hw : sparseWf FrameRecord.afterReset s.engine.directory = true) :
    (recallItem f i reason notify origin s).record f = (s.record f).turnLeaving i.port := by
  rw [State.record_of_engine recallItem_noticesOnly.engine, State.record_setRecord hw, if_pos rfl]

theorem recallItem_record_of_item (h : (s.record f).items ≠ []) :
    (recallItem f i reason notify origin s).record f = (s.record f).turnLeaving i.port := by
  rw [State.record_of_engine recallItem_noticesOnly.engine]
  exact State.setRecord_record_same (.inl (FrameRecord.turnLeaving_items_ne_nil h _))

theorem recallItem_held : (recallItem f i reason notify origin s).engine.held = s.engine.held := by
  rw [recallItem_noticesOnly.engine]
  rfl

theorem recallItem_samePort {q : PortId} (hq : q ≠ i.port) : samePort q s (recallItem f i reason notify origin s) :=
  recallItem_noticesOnly.samePort hq

end

theorem examineDrop_of_accepted {p : PortId} {tag hpn f : Nat} {i : MapItem} {s : State}
    (hcheck : checkItem p hpn s = .ok (f, i)) (hrole : i.role = .reader) (hrecords : 1 ≤ s.freeRecords) :
    examineDrop p tag hpn s = recallItem f i .drop false (some (p, tag)) (takeCommand p s) := by
  simp only [examineDrop, hcheck, hrole]
  exact if_neg (Nat.not_lt.2 hrecords)

/-- Settles O24. -/
theorem dropRecallsOwnItem : Obligations.DropRecallsOwnItem := by
  unfold Obligations.DropRecallsOwnItem
  intro p tag hpn f i s h hw hhpn hi hphase hrole hrecords
  obtain ⟨hport, -⟩ := State.itemAt_spec hi
  have hdrop : examineDrop p tag hpn (movePointer (sourceOf p) s) =
      recallItem f i .drop false (some (p, tag)) (s.commandTaken p) :=
    examineDrop_of_accepted (by exact checkItem_of_active hhpn hi hphase) hrole hrecords
  have hsilent : recallItem f i .drop false (some (p, tag)) (s.commandTaken p) =
      askWrite _ (State.withRecall _ _) := createRecall_of_silent rfl
  refine ⟨_, by rw [exec_drop_of_served h, serveCommand_of_taken_only h.2.1 hdrop (by rw [hsilent]; rfl)], ?_, ?_, fun g hg => ?_,
    ?_, ?_, ?_, fun q hq => ?_⟩
  · exact State.setLink_link_same _ _ _
  · rw [State.setLink_record, recallItem_record_of_wf (by exact hw), hport]
    rfl
  · exact recallItem_record_ne hg
  · rw [State.setLink_recalls, recallItem_table]
    simp [State.newRecall, State.notifies, hrole, hport, State.commandTaken_eq]
  · rw [State.writeAsked, State.setLink_mapUnit, hsilent]
    rw [← hport]
    exact askWrite_writeAsked (by simp [RecallRecord.unmapWrite]) _
  · rw [State.setLink_engine, recallItem_held]
    rfl
  · exact samePort_of_commandTaken hq (recallItem_samePort (by rwa [hport]))

/-! ### REVOKE (R83, R84) -/

section
variable {p q : PortId} {tag hpn f : Nat} {i j : MapItem} {s : State}

theorem examineRevoke_of_target (hcheck : checkItem p hpn s = .ok (f, i)) (hrole : i.role = .holder) (hq : q ≠ p) :
    examineRevoke p tag hpn q.val s = revokeFrom p tag f q s := by
  rw [examineRevoke_of_holder hcheck hrole, targetPort_of_good hq]

theorem revokeFrom_of_item (hj : (s.record f).itemOf q = some j) (hphase : j.phase = .active) (hrecords : 1 ≤ s.freeRecords) :
    revokeFrom p tag f q s = recallItem f j .revoke true (some (p, tag)) (takeCommand p s) := by
  simp only [revokeFrom, hj, hphase]
  exact if_neg (Nat.not_lt.2 hrecords)

theorem revokeFrom_of_offer {o : Offer} (hitem : (s.record f).itemOf q = none) (ho : s.offerOn f q = some o) :
    revokeFrom p tag f q s = handOver p (commandCompletion tag .ok) (withdrawOffer true o (takeCommand p s)) := by
  simp only [revokeFrom, hitem, ho]

end

theorem handOver_link_ne {p q : PortId} (c : Completion) (s : State) (hq : q ≠ p) : (handOver p c s).link q = s.link q := by
  unfold handOver
  split
  · exact State.setLink_link_ne _ _ hq
  · rfl

theorem informTarget_link_ne {o : Offer} {cause : WithdrawnCause} {s : State} {p : PortId} (hp : p ≠ o.toPort) :
    (informTarget true o cause s).link p = s.link p := (informTarget_noticesOnly o s cause).otherLinks p hp

/-- Settles O27: an item of the target is recalled by `recallItem`, an offer to it withdrawn by `withdrawOffer`. -/
theorem revokeTakesShareAway : Obligations.RevokeTakesShareAway := by
  unfold Obligations.RevokeTakesShareAway
  intro p q tag hpn f i s h hhpn hi hphase hrole hq
  have hattached := h.2.1
  have hrevoke : examineRevoke p tag hpn q.val (movePointer (sourceOf p) s) = revokeFrom p tag f q (movePointer (sourceOf p) s) :=
    examineRevoke_of_target (by exact checkItem_of_active hhpn hi hphase) hrole hq
  refine ⟨fun j hj hjphase hrecords => ?item, fun o hitem ho hfrom => ?offer⟩
  case item =>
    obtain ⟨hmem, hport⟩ := FrameRecord.itemOf_spec hj
    have hrecall : examineRevoke p tag hpn q.val (movePointer (sourceOf p) s) =
        recallItem f j .revoke true (some (p, tag)) (s.commandTaken p) :=
      hrevoke.trans (revokeFrom_of_item (by exact hj) hjphase hrecords)
    have honly := recallItem_noticesOnly (f := f) (i := j) (reason := .revoke) (notify := true) (origin := some (p, tag))
      (s := s.commandTaken p)
    refine ⟨_, by rw [exec_revoke_of_served h,
      serveCommand_of_taken_only hattached hrecall (honly.otherLinks p (by rw [hport]; exact hq.symm))], ?_, ?_, ?_,
      fun hqattached hroom => ?_, ?_⟩
    · exact State.setLink_link_same _ _ _
    · rw [State.setLink_record, recallItem_record_of_item (by exact List.ne_nil_of_mem hmem), hport]
      rfl
    · rw [State.setLink_recalls, recallItem_table]
      have hdrop : ((s.commandTaken p).recalls.table ++
          [(s.commandTaken p).newRecall f j .revoke true (some (p, tag))]).drop s.recalls.table.length =
          [(s.commandTaken p).newRecall f j .revoke true (some (p, tag))] := List.drop_left
      rw [hdrop, ← hport]
      rfl
    · rw [State.setLink_link_ne _ _ hq]
      have hlink : ((s.commandTaken p).setRecord f (((s.commandTaken p).record f).turnLeaving j.port)).link j.port = s.link q := by
        rw [hport]
        exact State.commandTaken_link_of_ne _ _ hq
      rw [show recallItem f j .revoke true (some (p, tag)) (s.commandTaken p) = _ from
        createRecall_of_room (State.notifies_eq_true rfl (by rw [hlink]; exact hqattached))
          (State.noticeRoom_eq_true (by rw [hlink]; exact hqattached) (by rw [hlink]; exact hroom)), ← hport]
      refine (appendNotice_notices ..).trans ?_
      rw [hport] at hlink ⊢
      refine congrArg (LinkPort.notices · ++ _) hlink
    · rw [State.setLink_engine, recallItem_held]
      rfl
  case offer =>
    obtain ⟨-, hto⟩ := State.offerOn_spec ho
    subst hto hfrom
    have hwithdraw : examineRevoke o.fromPort tag hpn o.toPort.val (movePointer (sourceOf o.fromPort) s) =
        handOver o.fromPort (commandCompletion tag .ok) (withdrawOffer true o (s.commandTaken o.fromPort)) :=
      hrevoke.trans (revokeFrom_of_offer (by exact hitem) (by exact ho))
    have htaken : ((s.commandTaken o.fromPort).link o.fromPort).state = .attached := by
      rw [State.commandTaken_link_self]
      exact hattached
    have hresolved : (withdrawOffer true o (s.commandTaken o.fromPort)).link o.fromPort =
        { (s.commandTaken o.fromPort).link o.fromPort with
          outbound := (s.link o.fromPort).outbound ++ [grantCompletion o.tag .withdrawn o.grantId] } := by
      rw [withdrawOffer, informTarget_link_ne hq.symm, resolveOffer, handOver_of_attached (by exact htaken),
        State.setLink_link_same]
      simp only [State.setEngine_link, State.commandTaken_link_self]
    have hanswered := handOver_of_attached (s := withdrawOffer true o (s.commandTaken o.fromPort))
      (by rw [hresolved]; exact htaken) (commandCompletion tag .ok)
    have hserved := serveCommand_of_taken
      (cs := [grantCompletion o.tag .withdrawn o.grantId, commandCompletion tag .ok])
      (ns := (s.link o.fromPort).notices) hattached hwithdraw (by
        rw [hanswered, State.setLink_link_same, hresolved, State.commandTaken_link_self]
        simp)
    refine ⟨_, by rw [exec_revoke_of_served h, hserved], ?_, ?_, fun hsent hqattached hroom => ?_, fun hsent => ?_, ?_⟩
    · rw [State.setLink_link_same]
      rfl
    · rw [State.setLink_engine, handOver_engine, withdrawOffer_engine]
      rfl
    · rw [State.setLink_link_ne _ _ hq, handOver_link_ne _ _ hq, withdrawOffer_sent _ _ hsent,
        State.commandTaken_link_of_ne _ _ hq]
      · exact congrArg _ (if_pos hroom)
      · rw [State.commandTaken_link_of_ne _ _ hq]
        exact hqattached
    · rw [State.setLink_link_ne _ _ hq, handOver_link_ne _ _ hq]
      exact withdrawOffer_unsent _ _ hsent
    · rw [State.setLink_engine, handOver_engine, withdrawOffer_engine]
      rfl

/-! ### RELEASE (R65) -/

theorem examineRelease_of_accepted {p : PortId} {tag hpn f : Nat} {i : MapItem} {s : State}
    (hcheck : checkItem p hpn s = .ok (f, i)) (hrole : i.role = .holder)
    (hrecords : 1 + (s.record f).activeReaders.length ≤ s.freeRecords) : examineRelease p tag hpn s =
      enterRecalling f (.release tag) false releaseReason (takeCommand p s) := by
  simp only [examineRelease, hcheck, hrole]
  exact if_neg (Nat.not_lt.2 hrecords)

/-- What a Link Port holds besides its outbound order and its Notice Queue. -/
def LinkPort.core (l : LinkPort) : LinkPort := { l with outbound := [], notices := [] }

/-- From `s` to `t` no Link Port changes but in its outbound order and its Notice Queue. -/
def keepsCores (s t : State) : Prop := ∀ q, (t.link q).core = (s.link q).core

theorem keepsCores.trans {s t u : State} (h : keepsCores s t) (h' : keepsCores t u) : keepsCores s u :=
  fun q => (h' q).trans (h q)

theorem NoticesOnly.keepsCores {p : PortId} {s t : State} (h : NoticesOnly p s t) : keepsCores s t := by
  intro q
  by_cases hq : q = p
  · subst hq
    rw [h.link]
    rfl
  · rw [h.otherLinks q hq]

theorem handOver_keepsCores (p : PortId) (c : Completion) (s : State) : keepsCores s (handOver p c s) := by
  intro q
  obtain ⟨cs, h⟩ := handOver_link p c s q
  rw [h]
  rfl

theorem resolveOffer_keepsCores (o : Offer) (st : Status) (s : State) : keepsCores s (resolveOffer o st s) :=
  fun q => (handOver_keepsCores o.fromPort (grantCompletion o.tag st o.grantId) (s.withoutOffer o) q :)

theorem withdrawOffer_keepsCores (o : Offer) (s : State) : keepsCores s (withdrawOffer true o s) :=
  (resolveOffer_keepsCores o .withdrawn s).trans (informTarget_noticesOnly ..).keepsCores

theorem withdrawOffers_keepsCores (os : List Offer) (s : State) : keepsCores s (withdrawOffers os s) :=
  List.foldlRecOn (motive := fun u : State => keepsCores s u) os _ (fun _ => rfl)
    fun _ h o _ => h.trans (withdrawOffer_keepsCores o _)

theorem recallItems_keepsCores (f : Nat) (why : MapItem → RecallReason × Bool) (items : List MapItem) (s : State) :
    keepsCores s (recallItems f why items s) :=
  List.foldlRecOn (motive := fun u : State => keepsCores s u) items _ (fun _ => rfl)
    fun _ h i _ => h.trans (createRecall_noticesOnly f i _ _ none _).keepsCores

theorem enterRecalling_keepsCores (f : Nat) (leave : LeaveReason) (b : Bool) (why : MapItem → RecallReason × Bool)
    (s : State) : keepsCores s (enterRecalling f leave b why s) := by
  rw [enterRecalling_eq]
  exact keepsCores.trans (t := frameRecalled f leave b why s)
    (fun q => (recallItems_keepsCores f why (s.record f).activeItems (s.setRecord f ((s.record f).toRecalling leave b)) q :))
    (withdrawOffers_keepsCores _ _)

/-- The frame of a served command that left every Link Port's core: credits are returned, and no more. -/
theorem serveCommand_of_keepsCores {p : PortId} {s u : State} {examined : State → State}
    (hattached : (s.link p).state = .attached) (h : examined (movePointer (sourceOf p) s) = u)
    (hcores : keepsCores (s.commandTaken p) u) : serveCommand p examined s = u.setLink p (u.link p).returned := by
  have hstate : (u.link p).state = (s.link p).state :=
    (congrArg LinkPort.state (hcores p)).trans (by rw [State.commandTaken_link_self]; rfl)
  have hreturns : (u.link p).commandReturns = (s.link p).commandReturns + 1 :=
    (congrArg LinkPort.commandReturns (hcores p)).trans (by rw [State.commandTaken_link_self]; rfl)
  rw [serveCommand, h, returnCredits_of_returns (hstate.trans hattached) (by omega)]

theorem keepsCores.commands {s u : State} (h : keepsCores s u) (p : PortId) : (u.link p).commands = (s.link p).commands :=
  (congrArg LinkPort.commands (h p) :)

theorem State.setLink_returned_notices (u : State) (p q : PortId) :
    ((u.setLink p (u.link p).returned).link q).notices = (u.link q).notices := by
  by_cases hq : q = p
  · subst hq
    rw [State.setLink_link_same]
    rfl
  · rw [State.setLink_link_ne _ _ hq]

theorem State.setLink_returned_outbound (u : State) (p q : PortId) :
    ((u.setLink p (u.link p).returned).link q).outbound = (u.link q).outbound := by
  by_cases hq : q = p
  · subst hq
    rw [State.setLink_link_same]
    rfl
  · rw [State.setLink_link_ne _ _ hq]

theorem State.commandTaken_notices (s : State) (p q : PortId) :
    ((s.commandTaken p).link q).notices = (s.link q).notices := by
  by_cases hq : q = p
  · subst hq
    rw [State.commandTaken_link_self]
  · rw [State.commandTaken_link_of_ne _ _ hq]

theorem State.commandTaken_link_state (s : State) (p q : PortId) :
    ((s.commandTaken p).link q).state = (s.link q).state := by
  by_cases hq : q = p
  · subst hq
    rw [State.commandTaken_link_self]
  · rw [State.commandTaken_link_of_ne _ _ hq]

/-- Withdrawn offers stay withdrawn when credits are returned, and count from before the command was taken. -/
theorem offersWithdrawn_of_commandTaken {f : Nat} {s u : State} {p : PortId} (h : offersWithdrawn f (s.commandTaken p) u) :
    offersWithdrawn f s (u.setLink p (u.link p).returned) := by
  obtain ⟨hgone, hended⟩ := h
  refine ⟨hgone, fun o ho hframe => ?_⟩
  obtain ⟨hcompletes, hunsent, hsent⟩ := hended o ho hframe
  rw [State.setLink_returned_outbound, State.setLink_returned_notices]
  rw [State.commandTaken_link_state] at hcompletes hsent
  rw [State.commandTaken_notices] at hsent
  exact ⟨hcompletes, hunsent, hsent⟩

/-- Settles O23. -/
theorem releaseRecallsFrame : Obligations.ReleaseRecallsFrame := by
  unfold Obligations.ReleaseRecallsFrame
  intro p tag hpn f i s h hhpn hi hphase hrole hrecords
  have hrelease : examineRelease p tag hpn (movePointer (sourceOf p) s) =
      enterRecalling f (.release tag) false releaseReason (s.commandTaken p) :=
    examineRelease_of_accepted (by exact checkItem_of_active hhpn hi hphase) hrole hrecords
  have hcores := enterRecalling_keepsCores f (.release tag) false releaseReason (s.commandTaken p)
  have hserved := serveCommand_of_keepsCores h.2.1 hrelease hcores
  have hengine := enterRecalling_engine f (.release tag) false releaseReason (s.commandTaken p)
  have hdirectory : (enterRecalling f (.release tag) false releaseReason (s.commandTaken p)).engine.directory =
      (s.setRecord f ((s.record f).toRecalling (.release tag) false)).engine.directory := by
    rw [hengine]
    rfl
  have hrecord := State.record_of_directory hdirectory
  refine ⟨_, (exec_release_of_served h).trans (congrArg Host.Outcome.next hserved), ?_, ?_, fun g hg => ?_, ?_,
    offersWithdrawn_of_commandTaken (enterRecalling_offersWithdrawn f _ _ _ _), ?_, ?_, ?_⟩
  · rw [State.setLink_link_same]
    refine (hcores.commands p).trans ?_
    rw [State.commandTaken_link_self]
  · exact (hrecord f).trans (State.setRecord_record_same (.inr ⟨nofun, nofun⟩))
  · exact (hrecord g).trans (State.setRecord_record_ne _ hg)
  · exact enterRecalling_new_purposes f (.release tag) false releaseReason (s.commandTaken p)
  · rw [State.setLink_engine, hengine]
    rfl
  · rw [State.setLink_engine, hengine]
    rfl
  · exact congrArg (Quad.get · p) (Block.same_of_outside (b := .requests)
      (enterRecalling_outside (bs := [.links, .engine, .recalls, .mapUnit]) _ (by simp) (by simp) (by simp) (by simp) f _ _ _)
      (by simp))

/-! ### GRANT (R74) -/

theorem examineGrant_of_accepted {p q : PortId} {tag hpn f : Nat} {a : Access} {i : MapItem} {s : State}
    (hcheck : checkItem p hpn s = .ok (f, i)) (hrole : i.role = .holder) (hq : q ≠ p) (hattached : (s.link q).state = .attached)
    (hitem : (s.record f).itemOf q = none) (hoffer : s.offerOn f q = none) (hoffers : s.engine.offers.length < 16)
    (hnotices : (s.link q).notices.length < 32) :
    examineGrant p tag hpn q.val a s = makeOffer p tag hpn f q a (takeCommand p s) := by
  rw [examineGrant_of_holder hcheck hrole, targetPort_of_good hq]
  show ite _ _ _ = _
  rw [if_neg (not_not.2 hattached), if_neg (by simp [hitem, hoffer]), if_neg (by omega)]

/-- Settles O25. -/
theorem grantMakesOffer : Obligations.GrantMakesOffer := by
  unfold Obligations.GrantMakesOffer
  intro p q tag hpn f a i s h hhpn hi hphase hrole hq hattached hitem hoffer hoffers hnotices
  have hgrant : examineGrant p tag hpn q.val a (movePointer (sourceOf p) s) = makeOffer p tag hpn f q a (s.commandTaken p) :=
    examineGrant_of_accepted (by exact checkItem_of_active hhpn hi hphase) hrole hq hattached hitem hoffer hoffers hnotices
  have hcounter := nextGrantId_spec (table := (makeOffer p tag hpn f q a (s.commandTaken p)).engine.offers)
    (by show (_ ++ [_]).length < 65536; rw [List.length_append]; exact Nat.lt_trans (Nat.add_lt_add_right hoffers 1) (by decide))
    s.engine.grantCounter
  have hserved := serveCommand_of_taken_only h.2.1 hgrant (State.setLink_link_ne _ _ hq.symm)
  have hexec := (exec_grant_of_served h).trans (congrArg Host.Outcome.next hserved)
  refine ⟨_, hexec, ?_, ?_, rfl, hcounter.1, hcounter.2, rfl, rfl, rfl, rfl, fun x hx hxq => ?_⟩
  · exact State.setLink_link_same _ _ _
  · rw [State.setLink_link_ne _ _ hq]
    refine (State.setLink_link_same _ _ _).trans ?_
    rw [State.setEngine_link, State.commandTaken_link_of_ne _ _ hq]
    rfl
  · exact samePort_of_commandTaken hx ⟨State.setLink_link_ne _ _ hxq, rfl, rfl⟩

/-! ### ACCEPT and DECLINE (R77, R78) -/

section
variable {o : Offer} {s : State}

theorem takeUpOffer_noticesOnly : NoticesOnly o.toPort (s.withoutOffer o) (takeUpOffer o s) :=
  removeNoticeAndFill_noticesOnly ..

theorem takeUpOffer_no_offer : ∀ n ∈ ((takeUpOffer o s).link o.toPort).notices, n.isOffer o.grantId = false :=
  fun _ hn => (removeNoticeAndFill_notices hn).elim And.right fun h => h _

theorem takeUpOffer_link : (takeUpOffer o s).link o.toPort =
    { s.link o.toPort with notices := ((takeUpOffer o s).link o.toPort).notices } := takeUpOffer_noticesOnly.link

theorem takeUpOffer_link_ne {p : PortId} (hp : p ≠ o.toPort) : (takeUpOffer o s).link p = s.link p :=
  takeUpOffer_noticesOnly.otherLinks p hp

theorem takeUpOffer_engine : (takeUpOffer o s).engine =
    { s.engine with offers := s.engine.offers.filter fun x => !(x.grantId == o.grantId) } := takeUpOffer_noticesOnly.engine

theorem takeUpOffer_samePort {p : PortId} (hp : p ≠ o.toPort) : samePort p s (takeUpOffer o s) :=
  takeUpOffer_noticesOnly.samePort hp

end

/-- `s` with the port of an accepted offer a reader of its frame, and the offer gone. -/
def State.offerAccepted (s : State) (p : PortId) (hpn : Nat) (o : Offer) : State :=
  takeUpOffer o (s.setRecord o.frame ((s.record o.frame).addReader
    { port := p, hpn := hpn, access := o.access, role := .reader, phase := .active }))

theorem examineAccept_of_accepted {p : PortId} {tag gid hpn : Nat} {o : Offer} {s : State} (ho : s.offerTo p gid = some o)
    (hhpn : hpn ≤ 8191) (hfree : s.occupied p hpn = false) : examineAccept p tag gid hpn s =
      askWrite { port := p, hpn := hpn, value := .valid o.frame o.access,
                 producer := .accept p tag o.fromPort o.tag o.grantId } ((takeCommand p s).offerAccepted p hpn o) := by
  simp only [examineAccept, ho]
  rw [if_neg (not_hpnCount_le hhpn), if_neg (by simp [hfree])]
  rfl

theorem examineDecline_of_declined {p : PortId} {tag gid : Nat} {o : Offer} {s : State} (ho : s.offerTo p gid = some o) :
    examineDecline p tag gid s =
      handOver p (commandCompletion tag .ok) (handOver o.fromPort (grantCompletion o.tag .declined o.grantId)
        (takeUpOffer o (takeCommand p s))) := by
  simp only [examineDecline, ho]

theorem insertItem_ne_nil (i : MapItem) (l : List MapItem) : insertItem i l ≠ [] := by
  cases l with
  | nil => simp [insertItem]
  | cons j t =>
    unfold insertItem
    split <;> simp

/-- Settles O26. -/
theorem acceptAddsReaderAndDeclineEndsOffer : Obligations.AcceptAddsReaderAndDeclineEndsOffer := by
  unfold Obligations.AcceptAddsReaderAndDeclineEndsOffer
  intro p tag gid hpn o s ho
  obtain ⟨rfl, rfl⟩ := State.offerTo_spec ho
  refine ⟨fun h hhpn hfree => ?accept, fun h hfrom => ?decline⟩
  case accept =>
    have haccept := examineAccept_of_accepted (tag := tag) (s := movePointer (sourceOf o.toPort) s) (by exact ho) hhpn
      (by exact hfree)
    have hlink : ((s.commandTaken o.toPort).offerAccepted o.toPort hpn o).link o.toPort =
        { (s.commandTaken o.toPort).link o.toPort with
          outbound := (s.link o.toPort).outbound ++ [],
          notices := (((s.commandTaken o.toPort).offerAccepted o.toPort hpn o).link o.toPort).notices } := by
      refine takeUpOffer_link.trans ?_
      rw [List.append_nil, State.setRecord_link, State.commandTaken_link_self]
      rfl
    have hserved := serveCommand_of_taken h.2.1 haccept hlink
    have hengine : ((s.commandTaken o.toPort).offerAccepted o.toPort hpn o).engine = _ := takeUpOffer_engine
    have hrecord := State.record_of_directory (t := (s.commandTaken o.toPort).offerAccepted o.toPort hpn o)
      (s := s.setRecord o.frame ((s.record o.frame).addReader
        { port := o.toPort, hpn := hpn, access := o.access, role := .reader, phase := .active }))
      (by rw [hengine]; rfl)
    refine ⟨_, (exec_accept_of_served h).trans (congrArg Host.Outcome.next hserved), ?_, ?_, ?_, fun g hg => ?_,
      fun x hx => ?_, ?_, ?_, ?_, ?_, fun q hq => samePort_of_commandTaken hq ?_⟩
    · rw [State.setLink_link_same]
      rfl
    · rw [State.setLink_link_same]
      exact List.append_nil _
    · exact (hrecord _).trans (State.setRecord_record_same (.inl (insertItem_ne_nil _ _)))
    · exact (hrecord _).trans (State.setRecord_record_ne _ hg)
    · have hx' : x ∈ ((s.commandTaken o.toPort).offerAccepted o.toPort hpn o).engine.offers := hx
      rw [hengine] at hx'
      simpa using (List.mem_filter.1 hx').2
    · rw [State.setLink_link_same]
      exact takeUpOffer_no_offer
    · exact askWrite_writeAsked (by simp) _
    · show ((s.commandTaken o.toPort).offerAccepted o.toPort hpn o).engine.held = _
      rw [hengine]
      rfl
    · exact takeUpOffer_noticesOnly.queue o.toPort
    · exact takeUpOffer_samePort hq
  case decline =>
    have hdecline := examineDecline_of_declined (tag := tag) (s := movePointer (sourceOf o.toPort) s) (by exact ho)
    have hne : o.toPort ≠ o.fromPort := Ne.symm hfrom
    have hoffer := takeUpOffer_link (o := o) (s := s.commandTaken o.toPort)
    have htarget : (handOver o.fromPort (grantCompletion o.tag .declined o.grantId)
        (takeUpOffer o (s.commandTaken o.toPort))).link o.toPort = (takeUpOffer o (s.commandTaken o.toPort)).link o.toPort :=
      handOver_link_ne _ _ hne
    have hholder : (takeUpOffer o (s.commandTaken o.toPort)).link o.fromPort = s.link o.fromPort :=
      (takeUpOffer_link_ne hfrom).trans (State.commandTaken_link_of_ne _ _ hfrom)
    have hanswered := handOver_of_attached (p := o.toPort) (s := handOver o.fromPort (grantCompletion o.tag .declined o.grantId)
        (takeUpOffer o (s.commandTaken o.toPort)))
      (by rw [htarget, hoffer, State.commandTaken_link_self]; exact h.2.1) (commandCompletion tag .ok)
    have hserved := serveCommand_of_taken (cs := [commandCompletion tag .ok])
      (ns := ((takeUpOffer o (s.commandTaken o.toPort)).link o.toPort).notices) h.2.1 hdecline (by
        refine (congrArg (State.link · o.toPort) hanswered).trans ?_
        refine (State.setLink_link_same _ _ _).trans ?_
        rw [htarget, hoffer, State.commandTaken_link_self])
    have hengine : (handOver o.toPort (commandCompletion tag .ok) (handOver o.fromPort
        (grantCompletion o.tag .declined o.grantId) (takeUpOffer o (s.commandTaken o.toPort)))).engine = _ :=
      (handOver_engine ..).trans ((handOver_engine ..).trans takeUpOffer_engine)
    have houtside : (handOver o.toPort (commandCompletion tag .ok) (handOver o.fromPort
        (grantCompletion o.tag .declined o.grantId) (takeUpOffer o (s.commandTaken o.toPort)))).outside
          [.links, .engine, .recalls] = s.outside [.links, .engine, .recalls] := by
      simp [takeUpOffer, State.commandTaken]
    refine ⟨_, (exec_decline_of_served h).trans (congrArg Host.Outcome.next hserved), ?_, ?_, fun hattached => ?_,
      fun hattached => ?_, ?_, ?_, ?_, ?_, fun x hx hxfrom => samePort_of_commandTaken hx ⟨?_, ?_, ?_⟩⟩
    · rw [State.setLink_link_same]
      rfl
    · rw [State.setLink_link_same]
      rfl
    · rw [State.setLink_link_ne _ _ hfrom]
      refine (handOver_link_ne _ _ hfrom).trans ?_
      rw [handOver_of_attached (by exact hholder ▸ hattached), State.setLink_link_same]
      exact congrArg (fun l : LinkPort => { l with
        outbound := l.outbound ++ [grantCompletion o.tag .declined o.grantId] }) hholder
    · rw [State.setLink_link_ne _ _ hfrom]
      refine (handOver_link_ne _ _ hfrom).trans ?_
      rw [handOver_of_not_attached (by exact hholder ▸ hattached)]
      exact hholder
    · exact (congrArg Engine.offers hengine :)
    · rw [State.setLink_link_same]
      exact takeUpOffer_no_offer
    · exact (congrArg Engine.directory hengine :)
    · exact Block.same_of_outside (b := .mapUnit) houtside (by simp)
    · exact (handOver_link_ne _ _ hx).trans ((handOver_link_ne _ _ hxfrom).trans (takeUpOffer_link_ne hx))
    · exact congrArg (Quad.get · x) (Block.same_of_outside (b := .requests) houtside (by simp))
    · exact congrArg (Quad.get · x) (Block.same_of_outside (b := .caches) houtside (by simp))

end Sys2Proof.Machine
end

section
/-! The repair search (R33), the Scrub Engine's accesses (R151 to R155), the arbiter's rounds (R143 to R148) and the sends of
the Link Ports (R169, R171). -/

namespace Sys2Proof.Machine

/-! ### A repair's own write (R28, R33) -/

/-- A write of any producer that is asked for while no other write waits for a free place stands in the queue or waits. -/
theorem askWrite_writeAsked_of_waitsOnlyWhenFull {s : State} (h : s.writesWaitOnlyWhenFull) (w : MapWrite) :
    (askWrite w s).writeAsked w := by
  have hlast : w ∈ s.mapUnit.waiting ++ [w] := List.mem_append_right _ (List.mem_singleton_self w)
  by_cases hroom : s.mapUnit.queue.length < Config.mapWriteQueueSize
  · have hnone : s.mapUnit.waiting = [] := h.resolve_right (Nat.not_le.2 hroom)
    by_cases hrepair : w.producer = .repair
    · refine .inl ?_
      simp [askWrite, MapUnit.drained, drainWaiting, arriveWrite, hnone, hroom, hrepair]
    · exact askWrite_writeAsked hrepair s
  · refine .inr ?_
    have hstays : (askWrite w s).mapUnit.waiting = s.mapUnit.waiting ++ [w] := by
      cases hw : s.mapUnit.waiting <;> simp [askWrite, MapUnit.drained, drainWaiting, hw, hroom]
    rw [hstays]
    exact hlast

section
variable {r : Repair} {rest : List Repair} {n : Nat} {s : State}

theorem exec_repairSearchStep_of_searching (hop : s.operating = true) (hready : s.engineReady = true)
    (hrepairs : s.mapUnit.repairs = r :: rest) (hphase : r.phase = .searching n) : exec .repairSearchStep s = .next
      (match (s.record n).items.find? fun i => i.port == r.port && i.hpn == r.hpn with
        | some i => finishSearch r rest (searchOutcome n i) s
        | none =>
          if n + 1 < s.frames then
            s.setMapUnit { s.mapUnit with repairs := { r with phase := .searching (n + 1) } :: rest }
          else finishSearch r rest .invalid s) := by
  show whenOperating s _ = _
  rw [whenOperating, if_pos hop, hready, hrepairs]
  simp only [hphase] <;> rfl

theorem finishSearch_asks (h : s.writesWaitOnlyWhenFull) (r : Repair) (rest : List Repair) (v : MapValue) :
    (finishSearch r rest v s).writeAsked { port := r.port, hpn := r.hpn, value := v, producer := .repair } :=
  askWrite_writeAsked_of_waitsOnlyWhenFull
    (s := s.setMapUnit { s.mapUnit with repairs := { r with phase := .writing v } :: rest }) h _

end

/-- Settles O41. -/
theorem repairSearchReadsRecords : Obligations.RepairSearchReadsRecords := by
  unfold Obligations.RepairSearchReadsRecords
  intro r rest n s hop hready hwaits hrepairs hphase
  dsimp only
  rw [exec_repairSearchStep_of_searching hop hready hrepairs hphase]
  refine ⟨fun i hfound hactive => ?_, fun i hfound hleaving => ?_, fun hfound hmore => ?_, fun hfound hlast => ?_⟩
  · rw [hfound]
    refine ⟨_, rfl, rfl, ?_⟩
    simp only [searchOutcome, hactive]
    exact finishSearch_asks hwaits r rest _
  · rw [hfound]
    refine ⟨_, rfl, rfl, ?_⟩
    simp only [searchOutcome, hleaving]
    exact finishSearch_asks hwaits r rest _
  · rw [hfound]
    exact congrArg _ (if_pos hmore)
  · rw [hfound]
    exact ⟨_, congrArg _ (if_neg (Nat.not_lt.2 hlast)), rfl, finishSearch_asks hwaits r rest _⟩

/-! ### The Scrub Engine's accesses (R151, R152, R154) -/

theorem nextScrubResult_of_behind {k : Nat} {r : ScrubResult} {s : State} (hr : s.flight.scrubResults[k]? = some r)
    (hbehind : ∃ x ∈ s.flight.scrubResults.take k, x.frame = r.frame ∧ x.line = r.line) : s.nextScrubResult k = none := by
  simp only [State.nextScrubResult, hr]
  exact if_pos (by simpa using hbehind)

/-- Settles O37. -/
theorem scrubAccessesAreSentAndCounted : Obligations.ScrubAccessesAreSentAndCounted := by
  unfold Obligations.ScrubAccessesAreSentAndCounted
  intro s hop
  refine ⟨fun c f round hgranted hcurrent => ?sends, fun k r hr hbehind => ?behind, fun k r hr hfirst => ?takes⟩
  case sends =>
    show whenOperating s _ = _
    rw [whenOperating, if_pos hop, hgranted, hcurrent]
    rfl
  case behind =>
    show whenOperating s _ = _
    rw [whenOperating, if_pos hop, nextScrubResult_of_behind hr hbehind]
  case takes =>
    have hexec : exec (.scrubResult k) s = .next ((s.setFlight { s.flight with
        scrubResults := s.flight.scrubResults.eraseIdx k }).setScrub (takeScrubResult r s.scrub)) := by
      show whenOperating s _ = _
      rw [whenOperating, if_pos hop, nextScrubResult_spec.2 ⟨hr, hfirst⟩]
    refine ⟨_, hexec, ?_, rfl, rfl, fun hnumber hphase hverify => ?_, fun hother => ?_⟩
    · rw [State.setScrub_scrub]
      unfold takeScrubResult
      dsimp only
      split <;> rfl
    · rw [State.setScrub_scrub, takeScrubResult]
      dsimp only
      rw [if_pos ⟨hnumber, hphase, hverify⟩]
      exact ⟨rfl, rfl, rfl⟩
    · rw [State.setScrub_scrub, takeScrubResult]
      refine if_neg ?_
      rintro ⟨hnumber, hphase, hverify⟩
      obtain h | h | h := hother
      · exact h hnumber
      · exact h hphase
      · exact absurd hverify (by simp [h])

/-! ### The arbiter (R143 to R148) -/

section
variable {r : Round} {portHas : PortId → Bool} {scrubHas : Bool}

/-- Port `p` has an access and has not used its allowance (R145). -/
def Round.mayTake (r : Round) (portHas : PortId → Bool) (p : PortId) : Prop :=
  portHas p = true ∧ r.used.get p < r.allowance.get p

theorem Round.pick_port {k : Fin 4} (hk : r.mayTake portHas (r.start + k))
    (hfirst : ∀ j, j < k → ¬r.mayTake portHas (r.start + j)) : r.pick portHas scrubHas = some
      (.port (r.start + k), { r with used := r.used.set (r.start + k) (r.used.get (r.start + k) + 1) }) := by
  have hfind : (r.order.find? fun p => portHas p && decide (r.used.get p < r.allowance.get p)) = some (r.start + k) := by
    have hyes : (portHas (r.start + k) && decide (r.used.get (r.start + k) < r.allowance.get (r.start + k))) = true := by
      simpa [Round.mayTake] using hk
    have hno (j : Fin 4) (hj : j < k) :
        (portHas (r.start + j) && decide (r.used.get (r.start + j) < r.allowance.get (r.start + j))) = false := by
      simpa [Round.mayTake] using hfirst j hj
    have h0 : r.start + 0 = r.start := add_zero _
    match k with
    | 0 => rw [h0] at hyes ⊢; simp [Round.order, hyes]
    | 1 =>
      have hno0 := hno 0 (by decide)
      rw [h0] at hno0
      simp [Round.order, List.find?, hno0, hyes]
    | 2 =>
      have hno0 := hno 0 (by decide)
      rw [h0] at hno0
      simp [Round.order, List.find?, hno0, hno 1 (by decide), hyes]
    | 3 =>
      have hno0 := hno 0 (by decide)
      rw [h0] at hno0
      simp [Round.order, List.find?, hno0, hno 1 (by decide), hno 2 (by decide), hyes]
  rw [Round.pick, hfind]

theorem Round.pick_of_no_port (h : ∀ p, ¬r.mayTake portHas p) : r.pick portHas scrubHas =
    if scrubHas && !r.scrubUsed then some (.scrub, { r with scrubUsed := true }) else none := by
  have hfind : (r.order.find? fun p => portHas p && decide (r.used.get p < r.allowance.get p)) = none :=
    List.find?_eq_none.2 fun p _ => by simpa [Round.mayTake] using h p
  rw [Round.pick, hfind]

end

section
variable {c : ChannelId} {s : State}

theorem State.granted_of_arbiter {g : Grantee} {r : Round} (h : s.arbiter c = some (g, r)) : s.granted c g = some r := by
  simp [State.granted, h]

theorem State.granted_of_other {g h : Grantee} {r : Round} (harbiter : s.arbiter c = some (g, r)) (hne : g ≠ h) :
    s.granted c h = none := by
  simp [State.granted, harbiter, hne]

theorem State.arbiter_of_granted {g : Grantee} {r : Round} (h : s.granted c g = some r) : s.arbiter c = some (g, r) := by
  unfold State.granted at h
  cases harbiter : s.arbiter c with
  | none => simp [harbiter] at h
  | some x =>
    rw [harbiter] at h
    obtain ⟨g', r'⟩ := x
    obtain ⟨rfl, rfl⟩ := by simpa using h
    rfl

theorem State.arbiter_of_no_place (h : s.operating = false ∨ s.pop.channels ≤ c.val ∨ 16 ≤ (s.channel c).queue.length) :
    s.arbiter c = none := by
  refine if_pos ?_
  obtain h | h | h := h
  · simp [h]
  · simp [h]
  · simp [Config.channelQueueSize, h]

theorem State.arbiter_of_place (hop : s.operating = true) (hpopulated : c.val < s.pop.channels)
    (hroom : (s.channel c).queue.length < 16) : s.arbiter c =
      if c = 0 ∧ s.mapHasAccess then some (.map, (s.channel c).round)
      else if ports.any (s.portHasAccess c) then
        let r := (s.channel c).round.current s.mgmt.settings.weight
        match r.pick (s.portHasAccess c) (s.scrubHasAccess c) with
        | some g => some g
        | none => (r.next s.mgmt.settings.weight).pick (s.portHasAccess c) (s.scrubHasAccess c)
      else if s.scrubHasAccess c then some (.scrub, (s.channel c).round)
      else none := by
  refine if_neg ?_
  have hplace : decide (Config.channelQueueSize ≤ (s.channel c).queue.length) = false := decide_eq_false (Nat.not_le.2 hroom)
  simp [hop, hpopulated, hplace]

theorem ports_any_iff (has : PortId → Bool) : ports.any has = true ↔ ∃ p, has p = true := by
  simp [ports, Fin.exists_fin_succ]

/-- What the arbiter decides in the round `r`, when its decision is `r`'s pick. -/
theorem State.granted_of_pick {r : Round} (h : ∀ g, r.pick (s.portHasAccess c) (s.scrubHasAccess c) = some g →
      s.arbiter c = some g) :
    (∀ k : Fin 4, r.mayTake (s.portHasAccess c) (r.start + k) →
      (∀ j, j < k → ¬r.mayTake (s.portHasAccess c) (r.start + j)) →
      s.granted c (.port (r.start + k)) =
        some { r with used := r.used.set (r.start + k) (r.used.get (r.start + k) + 1) }) ∧
    ((∀ p, ¬r.mayTake (s.portHasAccess c) p) → s.scrubHasAccess c = true ∧ r.scrubUsed = false →
      s.granted c .scrub = some { r with scrubUsed := true }) := by
  refine ⟨fun k hk hfirst => State.granted_of_arbiter (h _ (Round.pick_port hk hfirst)), fun hports hscrub => ?_⟩
  refine State.granted_of_arbiter (h _ ?_)
  rw [Round.pick_of_no_port hports, hscrub.1, hscrub.2]
  rfl

end

/-- Settles O42. -/
theorem arbiterFollowsRounds : Obligations.ArbiterFollowsRounds := by
  unfold Obligations.ArbiterFollowsRounds
  refine ⟨fun s hop hpopulated hroom hmap => ?first, fun c s => ⟨fun g h a b hg hh => ?one, fun hno g => ?none,
    fun hop hpopulated hroom hmap => ?rounds⟩⟩
  case first =>
    have harbiter : s.arbiter 0 = some (.map, (s.channel 0).round) := by
      rw [State.arbiter_of_place hop hpopulated hroom, if_pos ⟨rfl, hmap⟩]
    refine ⟨State.granted_of_arbiter harbiter, fun p => ?_, ?_⟩
    · show whenOperating s _ = _
      rw [whenOperating, if_pos hop, State.granted_of_other harbiter (by simp)]
    · show whenOperating s _ = _
      rw [whenOperating, if_pos hop, State.granted_of_other harbiter (by simp)]
  case one =>
    have heq := (State.arbiter_of_granted hg).symm.trans (State.arbiter_of_granted hh)
    exact Prod.mk.inj (Option.some.inj heq)
  case none =>
    rw [State.granted, State.arbiter_of_no_place hno]
  case rounds =>
    have hnomap : ¬(c = 0 ∧ s.mapHasAccess = true) := fun ⟨hc, h⟩ => by simp [hmap hc] at h
    have harbiter := (State.arbiter_of_place hop hpopulated hroom).trans (if_neg hnomap)
    refine ⟨fun hports => ⟨fun _ => State.granted_of_pick fun g hg => ?_, fun hspent => State.granted_of_pick fun g hg => ?_⟩,
      fun hports hscrub => State.granted_of_arbiter ?_⟩
    · rw [harbiter, if_pos ((ports_any_iff _).2 hports)]
      simp only [hg]
    · have hnone : ((s.channel c).round.current s.mgmt.settings.weight).pick (s.portHasAccess c) (s.scrubHasAccess c) =
          none := by
        rw [Round.pick_of_no_port hspent.1]
        exact if_neg (by simpa using hspent.2)
      rw [harbiter, if_pos ((ports_any_iff _).2 hports)]
      simp only [hnone]
      exact hg
    · rw [harbiter, if_neg (by simp [hports]), if_pos hscrub]

/-! ### Sends (R169, R171) -/

section
variable {p : PortId} {s : State}

theorem exec_completionSend_of_credit {c : Completion} {rest : List Completion} (hop : s.operating = true)
    (hattached : (s.link p).state = .attached) (hup : (s.link p).link = .up) (hcredit : (s.link p).completionCredits ≠ 0)
    (houtbound : (s.link p).outbound = c :: rest) : exec (.completionSend p) s = .next (sendCompletion p c rest s) := by
  show whenOperating s _ = _
  rw [whenOperating, if_pos hop]
  dsimp only
  rw [if_pos ⟨hattached, hup, hcredit⟩, houtbound]

theorem exec_noticeSend_of_credit {n : Notice} {rest : List Notice} (hop : s.operating = true)
    (hattached : (s.link p).state = .attached) (hup : (s.link p).link = .up) (hcredit : (s.link p).noticeCredits ≠ 0)
    (hnotices : (s.link p).notices = n :: rest) : exec (.noticeSend p) s = .next (sendNotice p n rest s) := by
  show whenOperating s _ = _
  rw [whenOperating, if_pos hop]
  dsimp only
  rw [if_pos ⟨hattached, hup, hcredit⟩, hnotices]

/-- The Link Port that sent its head completion. -/
def LinkPort.sentCompletion (l : LinkPort) (c : Completion) (rest : List Completion) : LinkPort :=
  { l with
    outbound := rest, completionCredits := l.completionCredits - 1, tags := l.tags.filter (fun t => !(t == c.tag)),
    sent := l.sent ++ [.completion c] }

/-- `s` without the entry of `p` whose completion was sent. -/
def State.retired (s : State) (p : PortId) (tag : Nat) : State :=
  s.setQueue p ((s.queue p).filter fun e => !(e.tag == tag))

theorem retire_sent (c : Completion) (l : LinkPort) : retire p c.tag (s.setLink p l) =
    (s.retired p c.tag).setLink p { l with requestReturns := l.requestReturns + 1 } := by
  simp [retire, State.retired, State.setLink, State.setQueue, State.link, State.queue]

theorem teardownBegun_of_detached {cause : TeardownCause} {l l' : LinkPort} {t : State} (h : l.detached cause = l'.detached cause)
    (ht : teardownBegun p cause (s.setLink p l) t) : teardownBegun p cause (s.setLink p l') t := by
  obtain ⟨hlink, hrest⟩ := ht
  refine ⟨?_, hrest⟩
  rw [State.setLink_link_same] at hlink ⊢
  rw [hlink, h]
  rfl

theorem returnCredits_of_request (hattached : (s.link p).state = .attached) (hreturns : (s.link p).requestReturns ≠ 0) :
    returnCredits p s = s.setLink p (s.link p).returned := if_pos ⟨hattached, .inl hreturns⟩

end

/-- The RECALL notices' records note the send; nothing else of a record changes. -/
theorem noticeSent_recordById {n : Notice} {s : State} {rid : Nat} {r : RecallRecord} (h : s.recordById rid = some r) :
    ∃ b, (noticeSent n s).recordById rid = some { r with noticeSent := b } := by
  cases n with
  | recallNotice rid' hpn reason =>
    refine ⟨if rid = rid' then some true else r.noticeSent, ?_⟩
    refine (updateRecall_recordById (fun r => { r with noticeSent := some true }) (fun _ => rfl) _ _ _).trans ?_
    rw [h]
    split <;> rfl
  | offer => exact ⟨r.noticeSent, h⟩
  | withdrawn => exact ⟨r.noticeSent, h⟩

theorem noticeSent_link (n : Notice) (s : State) (p : PortId) : (noticeSent n s).link p = s.link p := by
  cases n <;> rfl

theorem noticeSent_pendingLists (n : Notice) (s : State) :
    (noticeSent n s).recalls.pendingLists = s.recalls.pendingLists := by
  cases n <;> rfl

theorem updateRecall_noticeSent_spec {s : State} {rid : Nat} {r : RecallRecord}
    (h : (updateRecall rid (fun r => { r with noticeSent := some true }) s).recordById rid = some r) :
    r.noticeSent = some true := by
  rw [updateRecall_recordById (fun r => { r with noticeSent := some true }) (fun _ => rfl), if_pos rfl] at h
  obtain ⟨x, -, rfl⟩ := Option.map_eq_some_iff.1 h
  rfl

/-- Filling a place leaves what the records say of their notices' sends. -/
theorem fillPending_noticeSent {p : PortId} {s : State} {rid : Nat} {b : Option Bool}
    (h : ∀ r, s.recordById rid = some r → r.noticeSent = b) :
    ∀ r, (fillPending p s).recordById rid = some r → r.noticeSent = b := by
  intro r hr
  obtain ⟨-, hf⟩ | ⟨head, rest, -, -, -, hf⟩ | ⟨head, rest, x, -, -, -, hf⟩ := fillPending_cases p s
  · rw [hf] at hr
    exact h r hr
  · rw [hf] at hr
    exact h r hr
  · rw [hf, updateRecall_recordById _ RecallRecord.turnNotified_recallId] at hr
    split at hr
    · obtain ⟨y, hy, rfl⟩ := Option.map_eq_some_iff.1 hr
      exact h y hy
    · exact h r hr

/-- Settles O45. -/
theorem sendsUseCredits : Obligations.SendsUseCredits := by
  unfold Obligations.SendsUseCredits
  intro p s hop hattached hup
  dsimp only
  refine ⟨fun hnone => ?_, fun hnone => ?_, fun c rest houtbound hcredit => ?completion, fun n rest hnotices hcredit => ?notice⟩
  · show whenOperating s _ = _
    simp [whenOperating, hnone]
  · show whenOperating s _ = _
    simp [whenOperating, hnone]
  case completion =>
    rw [exec_completionSend_of_credit hop hattached hup hcredit houtbound]
    refine ⟨fun h => ?_, fun h => ?_, fun h => ?_⟩
    · simp only [sendCompletion, h]
    · have hsend : sendCompletion p c rest s =
          returnCredits p (retire p c.tag (s.setLink p ((s.link p).sentCompletion c rest))) := by
        simp only [sendCompletion, h]
        rfl
      rw [hsend, retire_sent, returnCredits_of_request, State.setLink_setLink, State.setLink_link_same]
      · simp [LinkPort.returned, LinkPort.sentCompletion, State.retired]
      · rw [State.setLink_link_same]
        exact hattached
      · rw [State.setLink_link_same]
        exact Nat.succ_ne_zero _
    · have hsend : sendCompletion p c rest s =
          beginTeardown p .detach (retire p c.tag (s.setLink p ((s.link p).sentCompletion c rest))) := by
        simp only [sendCompletion, h]
        rfl
      rw [hsend, retire_sent]
      have hbegun := beginTeardown_begun p .detach ((s.retired p c.tag).setLink p
        { (s.link p).sentCompletion c rest with requestReturns := (s.link p).requestReturns + 1 })
      exact ⟨_, rfl, teardownBegun_of_detached (s := s.retired p c.tag) (l' := (s.link p).sentCompletion c rest) (by rfl) hbegun⟩
  case notice =>
    rw [exec_noticeSend_of_credit hop hattached hup hcredit hnotices]
    let sent : LinkPort := { s.link p with
      notices := rest, noticeCredits := (s.link p).noticeCredits - 1, sent := (s.link p).sent ++ [.notice n] }
    let u : State := noticeSent n (s.setLink p sent)
    have hu : u.link p = sent := (noticeSent_link ..).trans (State.setLink_link_same ..)
    have hlists : u.recalls.pendingLists = s.recalls.pendingLists := noticeSent_pendingLists ..
    have honly : NoticesOnly p u (fillPending p u) := fillPending_noticesOnly p u
    have hlink := honly.link
    rw [hu] at hlink
    refine ⟨fillPending p u, rfl, ?_, ?_, ?_, fun rid hpn reason hn => ⟨?_, ?_⟩, fun gid q hpn a hn o ho hgid => ?_,
      fun hempty => ?_, fun rid more r hpending hr hroom => ?_⟩
    · rw [hlink]
    · rw [hlink]
    · rw [hlink]
    · rw [honly.engine]
      show (noticeSent n _).engine = _
      rw [hn]
      rfl
    · refine fillPending_noticeSent fun r hr => ?_
      have hr' : (noticeSent n (s.setLink p sent)).recordById rid = some r := hr
      rw [hn] at hr'
      exact updateRecall_noticeSent_spec hr'
    · rw [honly.engine] at ho
      have ho' : o ∈ (noticeSent n (s.setLink p sent)).engine.offers := ho
      rw [hn] at ho'
      obtain ⟨x, -, hx⟩ := List.mem_map.1 ho'
      split at hx
      case isTrue => rw [← hx]
      case isFalse hne => exact absurd (hx ▸ hgid) hne
    · obtain ⟨-, hf⟩ | ⟨head, tail, hlist, -⟩ | ⟨head, tail, x, hlist, -⟩ := fillPending_cases p u
      · rw [hf, hu]
      · simp [hlists, hempty] at hlist
      · simp [hlists, hempty] at hlist
    · obtain ⟨b, hb⟩ : ∃ b, u.recordById rid = some { r with noticeSent := b } :=
        noticeSent_recordById (n := n) (s := s.setLink p sent) hr
      have hspace : u.noticeRoom p = true :=
        State.noticeRoom_eq_true (by rw [hu]; exact hattached) (by rw [hu]; exact hroom)
      obtain ⟨hno, -⟩ | ⟨head, tail, hlist, -, hnone, -⟩ | ⟨head, tail, x, hlist, -, hx, hf⟩ := fillPending_cases p u
      · rw [hlists, hpending, hspace] at hno
        simp at hno
      · obtain ⟨rfl, rfl⟩ := List.cons.inj ((hlists ▸ hpending).symm.trans hlist)
        rw [hb] at hnone
        cases hnone
      · obtain ⟨rfl, rfl⟩ := List.cons.inj ((hlists ▸ hpending).symm.trans hlist)
        obtain rfl := Option.some.inj (hb.symm.trans hx)
        have hid : r.recallId = rid := State.recallId_of_recordById hr
        refine ⟨?_, ?_, ?_⟩
        · rw [hf]
          refine (appendNotice_notices ..).trans ?_
          show (u.link p).notices ++ [Notice.recallNotice r.recallId r.hpn r.reason] = _
          rw [hu, hid]
        · rw [hf]
          exact Quad.get_set_same _ _ _
        · rw [hf, updateRecall_recordById _ RecallRecord.turnNotified_recallId, if_pos rfl]
          show ((u.recordById rid).map _).map _ = _
          rw [hb]
          rfl

end Sys2Proof.Machine
end

section
/-! The burst of the Claim Queue (R59, R60) and the events that examine its head: an expired claim (R61), and the end of a
scrub (R13, R16, R59, R154); and an expired offer (R79). -/

namespace Sys2Proof.Machine

/-! ### What the burst may change -/

/-- From `s` to `t` nothing changed but what a burst of the Claim Queue changes: frames left the Free List and are lent,
claims are in progress, map writes are asked for, and completions handed over. -/
structure ClaimsServed (s t : State) : Prop where
  outside : t.outside [.links, .engine, .mapUnit] = s.outside [.links, .engine, .mapUnit]
  links : ∀ q, ∃ cs, t.link q = { s.link q with outbound := (s.link q).outbound ++ cs }
  engine : t.engine = { s.engine with
    directory := t.engine.directory, freeList := t.engine.freeList, claims := t.engine.claims,
    granted := t.engine.granted, held := t.engine.held }
  freeList : t.engine.freeList <:+ s.engine.freeList
  records : s.engine.freeList.Nodup → ∀ f, ¬(f ∈ s.engine.freeList ∧ f ∉ t.engine.freeList) → t.record f = s.record f
  granted : s.engine.granted ⊆ t.engine.granted
  asked : ∀ w, w.producer ≠ .repair → s.writeAsked w → t.writeAsked w

theorem LinkPort.append_nil_outbound (l : LinkPort) : l = { l with outbound := l.outbound ++ [] } := by
  rw [List.append_nil]

theorem ClaimsServed.trans {s t u : State} (h : ClaimsServed s t) (h' : ClaimsServed t u) : ClaimsServed s u where
  outside := h'.outside.trans h.outside
  links q := by
    obtain ⟨cs, hcs⟩ := h.links q
    obtain ⟨cs', hcs'⟩ := h'.links q
    exact ⟨cs ++ cs', by rw [hcs', hcs, List.append_assoc]⟩
  engine := by rw [h'.engine, h.engine]
  freeList := h'.freeList.trans h.freeList
  records hnodup f hf := by
    have hnodup' := hnodup.sublist h.freeList.sublist
    by_cases hs : f ∈ s.engine.freeList
    · have hu : f ∈ u.engine.freeList := by
        by_contra hu
        exact hf ⟨hs, hu⟩
      have ht := h'.freeList.subset hu
      rw [h'.records hnodup' f fun hn => hn.2 hu, h.records hnodup f fun hn => hn.2 ht]
    · have ht : f ∉ t.engine.freeList := fun ht => hs (h.freeList.subset ht)
      rw [h'.records hnodup' f fun hn => ht hn.1, h.records hnodup f fun hn => hs hn.1]
  granted := fun _ hg => h'.granted (h.granted hg)
  asked w hw hs := h'.asked w hw (h.asked w hw hs)

theorem ClaimsServed.setClaims (s : State) (cs : List ParkedClaim) :
    ClaimsServed s (s.setEngine { s.engine with claims := cs }) where
  outside := by simp
  links q := ⟨[], LinkPort.append_nil_outbound _⟩
  engine := rfl
  freeList := List.suffix_rfl
  records _ _ _ := rfl
  granted := List.Subset.refl _
  asked _ _ h := h

theorem ClaimsServed.handOver (p : PortId) (c : Completion) (s : State) : ClaimsServed s (handOver p c s) where
  outside := by simp
  links := handOver_link p c s
  engine := by rw [handOver_engine]
  freeList := by
    rw [handOver_engine]
  records _ _ _ := State.record_of_engine (handOver_engine p c s) _
  granted := by
    rw [handOver_engine]
    exact List.Subset.refl _
  asked w _ h := by
    have hmap : (Machine.handOver p c s).mapUnit = s.mapUnit :=
      Block.same_of_outside (b := .mapUnit) (handOver_outside (bs := [.links]) s (by simp) p c) (by simp)
    rwa [State.writeAsked, hmap]

theorem ClaimsServed.grantClaim (p : PortId) (tag hpn n : Nat) (s : State) :
    ClaimsServed s (grantClaim p tag hpn n s) := by
  obtain ⟨d, m, hshape⟩ := grantClaim_shape p tag hpn n s
  refine ⟨by simp, fun q => ⟨[], ?_⟩, ?_, ?_, fun hnodup f hf => grantClaim_record_of_not_mem fun htake => ?_, ?_, fun w hw h => ?_⟩
  · rw [hshape]
    exact LinkPort.append_nil_outbound _
  · rw [hshape]
    rfl
  · rw [hshape]
    exact List.drop_suffix n s.engine.freeList
  · refine hf ⟨List.mem_of_mem_take htake, ?_⟩
    rw [hshape]
    exact List.disjoint_take_drop hnodup le_rfl htake
  · rw [hshape]
    exact List.subset_append_left _ _
  · rw [grantClaim_eq]
    obtain ⟨d, hd⟩ := lendFrames_only_directory (p := p) (hpn := hpn) (s.engine.freeList.take n).zipIdx (s.claimBooked p tag n)
    refine askClaimWrites_keeps_asked hw _ ?_
    rw [hd]
    exact h

theorem examineClaims_served (cs : List ParkedClaim) (s : State) : ClaimsServed s (examineClaims cs s) := by
  induction cs generalizing s with
  | nil => exact .setClaims s []
  | cons c rest ih =>
    unfold examineClaims
    split
    · exact .setClaims s _
    · dsimp only
      split
      · exact ((ClaimsServed.setClaims s rest).trans (.handOver ..)).trans (ih _)
      · exact ((ClaimsServed.setClaims s rest).trans (.grantClaim ..)).trans (ih _)

theorem examineClaims_claims (cs : List ParkedClaim) (s : State) : (examineClaims cs s).engine.claims <:+ cs := by
  induction cs generalizing s with
  | nil => exact List.suffix_rfl
  | cons c rest ih =>
    unfold examineClaims
    split
    · exact List.suffix_rfl
    · dsimp only
      split <;> exact (ih _).trans (List.suffix_cons c rest)

theorem ClaimsServed.outbound {s t : State} (h : ClaimsServed s t) (q : PortId) :
    (s.link q).outbound <+: (t.link q).outbound := by
  obtain ⟨cs, hcs⟩ := h.links q
  rw [hcs]
  exact List.prefix_append _ _

/-! ### An expired claim (R61) -/

theorem removeClaims_of_head {gone : ParkedClaim → Bool} {s : State} (h : (s.engine.claims.head?).any gone = true) :
    removeClaims gone s = examineClaims (s.engine.claims.filter fun c => !gone c)
      (s.setEngine { s.engine with claims := s.engine.claims.filter fun c => !gone c }) := if_pos h

theorem removeClaims_of_not_head {gone : ParkedClaim → Bool} {s : State} (h : (s.engine.claims.head?).any gone = false) :
    removeClaims gone s = s.setEngine { s.engine with claims := s.engine.claims.filter fun c => !gone c } :=
  if_neg (by simp [h])

theorem removeClaims_served (gone : ParkedClaim → Bool) (s : State) : ClaimsServed s (removeClaims gone s) := by
  cases h : (s.engine.claims.head?).any gone with
  | true =>
    rw [removeClaims_of_head h]
    exact (ClaimsServed.setClaims s _).trans (examineClaims_served _ _)
  | false =>
    rw [removeClaims_of_not_head h]
    exact .setClaims s _

theorem removeClaims_claims {gone : ParkedClaim → Bool} {s : State} {c : ParkedClaim}
    (hc : c ∈ (removeClaims gone s).engine.claims) : gone c = false := by
  have hmem : c ∈ s.engine.claims.filter fun c => !gone c := by
    cases h : (s.engine.claims.head?).any gone with
    | true =>
      rw [removeClaims_of_head h] at hc
      exact (examineClaims_claims _ _).subset hc
    | false =>
      rw [removeClaims_of_not_head h] at hc
      exact hc
  simpa using (List.mem_filter.1 hmem).2

/-- Settles O32. -/
theorem deadlinesEndClaimsAndOffers : Obligations.DeadlinesEndClaimsAndOffers := by
  unfold Obligations.DeadlinesEndClaimsAndOffers
  intro s hop hready
  refine ⟨fun c hc hdue hattached => ?claim, fun o ho hdue => ?offer⟩
  case claim =>
    let gone : ParkedClaim → Bool := fun x => x.port == c.port && x.tag == c.tag
    let u := handOver c.port (commandCompletion c.tag .expired) s
    have hexec : exec (.claimDeadline c.port c.tag) s = .next (removeClaims gone u) := by
      show onEngine s _ = _
      rw [onEngine_of_ready hop hready, hc]
      exact congrArg _ (if_pos hdue)
    have hu : u = _ := handOver_of_attached hattached _
    refine ⟨_, hexec, fun x hx => ?_, ?_, fun hhead => ?_⟩
    · have hkept : gone x = false := removeClaims_claims hx
      rintro ⟨hport, htag⟩
      simp [gone, hport, htag] at hkept
    · refine List.IsPrefix.trans ?_ ((removeClaims_served gone u).outbound c.port)
      rw [hu, State.setLink_link_same]
    · have hnothead : (u.engine.claims.head?).any gone = false := by
        rw [show u.engine = s.engine from handOver_engine ..]
        cases hclaims : s.engine.claims with
        | nil => rfl
        | cons x rest =>
          rw [Bool.eq_false_iff]
          intro hgone
          rw [hclaims, List.find?_cons_of_pos (by exact hgone)] at hc
          exact hhead (by rw [hclaims, ← hc]; rfl)
      rw [removeClaims_of_not_head hnothead, hu]
      rfl
  case offer =>
    let u := resolveOffer o .expired s
    have hexec : exec (.offerDeadline o.grantId) s = .next (informTarget true o .expiry u) := by
      show onEngine s _ = _
      rw [onEngine_of_ready hop hready, ho]
      exact congrArg _ (if_pos hdue)
    have honly : NoticesOnly o.toPort u (informTarget true o .expiry u) := informTarget_noticesOnly ..
    have hnotices : (u.link o.toPort).notices = (s.link o.toPort).notices := resolveOffer_notices ..
    refine ⟨_, hexec, honly.engine.trans (resolveOffer_engine ..), ?_, fun hsent hattached hroom => ?_, fun hsent hfull => ?_,
      fun hsent => ?_⟩
    · have houtbound : ((informTarget true o .expiry u).link o.fromPort).outbound = (u.link o.fromPort).outbound := by
        by_cases hsame : o.fromPort = o.toPort
        · rw [hsame, honly.link]
        · rw [honly.otherLinks _ hsame]
      rw [houtbound]
      show ((handOver _ _ _).link _).outbound = _
      split
      case isTrue h =>
        rw [handOver_of_attached (by exact h), State.setLink_link_same]
        rfl
      case isFalse h =>
        rw [handOver_of_not_attached (by exact h)]
        rfl
    · have hspace : u.noticeRoom o.toPort = true :=
        State.noticeRoom_eq_true (((resolveOffer_told o s .expired).state _).trans hattached) (by rwa [hnotices])
      rw [informTarget_of_sent _ _ hsent, if_pos hspace, appendNotice_notices, hnotices]
    · have hspace : u.noticeRoom o.toPort = false := State.noticeRoom_eq_false (by rwa [hnotices])
      rw [informTarget_of_sent _ _ hsent, if_neg (by simp [hspace]), hnotices]
    · rw [informTarget_of_unsent _ _ hsent]
      exact fun n hn => (removeNoticeAndFill_notices hn).elim And.right fun h => h _

/-! ### The end of a scrub (R13, R16, R59, R154) -/

/-- The frame at the end of the Free List. -/
def State.freed (s : State) (f : Nat) : State :=
  (s.setRecord f { s.record f with state := .free }).setEngine
    { (s.setRecord f { s.record f with state := .free }).engine with freeList := s.engine.freeList ++ [f] }

theorem State.freed_record (s : State) (f : Nat) : (s.freed f).record f = { s.record f with state := .free } :=
  State.setRecord_record_same (.inr ⟨nofun, nofun⟩)

theorem scrubOutcome_of_undamaged {f : Nat} {s : State} (h : (s.record f).damaged = false) :
    scrubOutcome f s = examineClaims s.engine.claims (s.freed f) := by
  unfold scrubOutcome
  dsimp only
  rw [if_neg (by simp [h])]
  rfl

theorem scrubOutcome_of_damaged {f : Nat} {s : State} (h : (s.record f).damaged = true) :
    scrubOutcome f s = quarantineFrame f .scrub s := if_pos h

theorem exec_scrubEndReport_of_ended {f : Nat} {s : State} (hop : s.operating = true) (hready : s.engineReady = true)
    (hcurrent : s.scrub.current = some f) (hended : s.scrub.ended = true) :
    exec .scrubEndReport s = .next (takeScrubEnd f s) := by
  show onEngine s _ = _
  rw [onEngine_of_ready hop hready, hcurrent]
  exact congrArg _ (if_pos hended)

/-- A record that is marked damaged reads back, in canonical form or not. -/
theorem State.setRecord_record_of_damaged {s : State} {f : Nat} {r : FrameRecord} (h : r.damaged = true) :
    (s.setRecord f r).record f = r :=
  sparseGet_sparsePut_same (fun heq => by simp [heq, FrameRecord.afterReset] at h) _

theorem takeScrub_only_scrub (s : State) : ∃ x, takeScrub s = s.setScrub x := by
  obtain ⟨x, hx, -⟩ := takeScrub_frame s
  exact ⟨x, hx⟩

/-- The head of the Claim Queue that the Free List does not serve stays, and nothing happens. -/
theorem examineClaims_of_short {s : State} {cs : List ParkedClaim} (hclaims : s.engine.claims = cs)
    (h : ∀ c, cs.head? = some c → s.engine.freeList.length < c.count) : examineClaims cs s = s := by
  subst hclaims
  cases hcs : s.engine.claims with
  | nil =>
    show s.setEngine { s.engine with claims := [] } = s
    rw [← hcs]
    rfl
  | cons c rest =>
    rw [examineClaims, if_pos (h c (by rw [hcs]; rfl)), ← hcs]
    rfl

/-- The head of the Claim Queue is refused, for a claim over its quota. -/
theorem examineClaims_of_quota {s : State} {c : ParkedClaim} {rest : List ParkedClaim}
    (hfree : c.count ≤ s.engine.freeList.length)
    (hquota : s.mgmt.settings.quota.get c.port < s.engine.held.get c.port + c.count) : examineClaims (c :: rest) s =
      examineClaims rest (handOver c.port (commandCompletion c.tag .quota) (s.setEngine { s.engine with claims := rest })) := by
  rw [examineClaims, if_neg (Nat.not_lt.2 hfree)]
  exact if_pos hquota

/-- The head of the Claim Queue is granted. -/
theorem examineClaims_of_grant {s : State} {c : ParkedClaim} {rest : List ParkedClaim}
    (hfree : c.count ≤ s.engine.freeList.length)
    (hquota : ¬s.mgmt.settings.quota.get c.port < s.engine.held.get c.port + c.count) : examineClaims (c :: rest) s =
      examineClaims rest (grantClaim c.port c.tag c.hpn c.count (s.setEngine { s.engine with claims := rest })) := by
  rw [examineClaims, if_neg (Nat.not_lt.2 hfree)]
  exact if_neg hquota

/-- A claim that the burst grants first: it is in progress, and its frames are lent, with their writes asked for. -/
theorem examineClaims_grants {s : State} {c : ParkedClaim} {rest : List ParkedClaim} (hnodup : s.engine.freeList.Nodup)
    (hfree : c.count ≤ s.engine.freeList.length)
    (hquota : ¬s.mgmt.settings.quota.get c.port < s.engine.held.get c.port + c.count) :
    { port := c.port, tag := c.tag, left := c.count } ∈ (examineClaims (c :: rest) s).engine.granted ∧
      ∀ k g, k < c.count → s.engine.freeList[k]? = some g →
        (examineClaims (c :: rest) s).record g = (s.record g).lent c.port (c.hpn + k) ∧
        g ∉ (examineClaims (c :: rest) s).engine.freeList ∧
        (examineClaims (c :: rest) s).writeAsked {
          port := c.port, hpn := c.hpn + k, value := .valid g .readWrite, producer := .claim c.port c.tag } := by
  rw [examineClaims_of_grant hfree hquota]
  let v := s.setEngine { s.engine with claims := rest }
  let u := grantClaim c.port c.tag c.hpn c.count v
  obtain ⟨d, m, hshape⟩ := grantClaim_shape c.port c.tag c.hpn c.count v
  have hserved : ClaimsServed u (examineClaims rest u) := examineClaims_served rest u
  have hfreeList : u.engine.freeList = s.engine.freeList.drop c.count := by
    show (grantClaim _ _ _ _ v).engine.freeList = _
    rw [hshape]
    rfl
  refine ⟨hserved.granted ?_, fun k g hk hg => ?_⟩
  · show _ ∈ (grantClaim _ _ _ _ v).engine.granted
    rw [hshape]
    exact List.mem_append_right _ (List.mem_singleton_self _)
  · have hgone : g ∉ u.engine.freeList := by
      rw [hfreeList]
      refine List.disjoint_take_drop hnodup le_rfl (List.mem_of_getElem? (i := k) ?_)
      rwa [List.getElem?_take_of_lt hk]
    have hlent : u.record g = (s.record g).lent c.port (c.hpn + k) :=
      grantClaim_record_of_mem (s := v) (hnodup.sublist (List.take_sublist _ _)) hk hg
    refine ⟨?_, fun hback => hgone (hserved.freeList.subset hback), hserved.asked _ (by simp) (grantClaim_asked (s := v) hk hg)⟩
    rw [← hlent]
    exact hserved.records (hfreeList ▸ hnodup.sublist (List.drop_sublist _ _)) g fun h => hgone h.1

section
variable {f : Nat} {s : State}

theorem takeScrubEnd_of_undamaged (hdamaged : (s.record f).damaged = false) (hseen : s.scrub.uncorrectableSeen = false) :
    takeScrubEnd f s = takeScrub (examineClaims s.engine.claims ((scrubIdle s).freed f)) := by
  unfold takeScrubEnd
  dsimp only
  rw [if_neg (by simp [hseen]), scrubOutcome_of_undamaged (by exact hdamaged)]
  rfl

/-- `s` with the frame marked damaged at the end of its scrub, if it was not before. -/
theorem takeScrubEnd_of_damaged (hstate : (s.record f).state = .scrubbing)
    (h : (s.record f).damaged = true ∨ s.scrub.uncorrectableSeen = true) :
    ∃ u : State, takeScrubEnd f s = takeScrub (quarantineFrame f .scrub (scrubIdle u)) ∧
      u.record f = { s.record f with damaged := true } ∧ ∃ d, u = s.setEngine { s.engine with directory := d } := by
  cases hdamaged : (s.record f).damaged with
  | true =>
    refine ⟨s, ?_, (FrameRecord.with_damaged_of_damaged hdamaged).symm, s.engine.directory, rfl⟩
    unfold takeScrubEnd
    dsimp only
    rw [if_neg (by simp [hdamaged]), scrubOutcome_of_damaged (by exact hdamaged)]
  | false =>
    have hseen := h.resolve_left (by simp [hdamaged])
    have hrecord : (s.marked f).record f = { s.record f with damaged := true } := State.setRecord_record_of_damaged rfl
    refine ⟨s.marked f, ?_, hrecord, _, rfl⟩
    unfold takeScrubEnd
    dsimp only
    rw [if_pos ⟨hseen, hdamaged⟩, markDamaged_of_not_free (by simp [hstate]), scrubOutcome_of_damaged]
    show ((s.marked f).record f).damaged = true
    rw [hrecord]

/-- The Scrub Engine after its scrub ended: idle, or at the head of its queue. -/
theorem takeScrub_of_toIdle {v : State} (hscrub : v.scrub = s.scrub.toIdle) (hdevice : v.device = .run) :
    (s.scrub.queue = [] → (takeScrub v).scrub.phase = .idle ∧ (takeScrub v).scrub.current = none) ∧
    (∀ g rest, s.scrub.queue = g :: rest → (takeScrub v).scrub.phase = .zero ∧ (takeScrub v).scrub.current = some g ∧
      (takeScrub v).scrub.nextLine = 0 ∧ (takeScrub v).scrub.uncorrectableSeen = false ∧
      (takeScrub v).scrub.queue = rest) ∧ (takeScrub v).scrub.outstanding = s.scrub.outstanding := by
  have hqueue : v.scrub.queue = s.scrub.queue := by rw [hscrub]; rfl
  refine ⟨fun hempty => ?_, fun g rest hcons => ?_, ?_⟩
  · rw [takeScrub_of_nil (hqueue.trans hempty), hscrub]
    exact ⟨rfl, rfl⟩
  · rw [takeScrub_of_cons (hqueue.trans hcons) (by rw [hscrub]; rfl) hdevice]
    exact ⟨rfl, rfl, rfl, rfl, rfl⟩
  · obtain ⟨x, hx, houtstanding, -⟩ := takeScrub_frame v
    rw [hx, State.setScrub_scrub, houtstanding, hscrub]
    rfl

end

/-- What the end of a scrub leaves besides the Scrub Engine, when its frame is freed. -/
theorem scrubEnd_freed {f : Nat} {s : State} :
    ((∀ c, s.engine.claims.head? = some c → s.engine.freeList.length + 1 < c.count) →
      examineClaims s.engine.claims ((scrubIdle s).freed f) = (scrubIdle s).freed f) ∧
    (∀ c rest, s.engine.claims = c :: rest → c.count ≤ s.engine.freeList.length + 1 →
      ((scrubIdle s).freed f).engine.freeList = s.engine.freeList ++ [f] ∧
        c.count ≤ ((scrubIdle s).freed f).engine.freeList.length) := by
  have hlength : ((scrubIdle s).freed f).engine.freeList.length = s.engine.freeList.length + 1 :=
    List.length_append.trans rfl
  refine ⟨fun hshort => examineClaims_of_short rfl fun c hc => ?_, fun c rest hclaims hfits => ⟨rfl, ?_⟩⟩
  · rw [hlength]
    exact hshort c hc
  · rw [hlength]
    exact hfits

/-- Settles O35: the outcome of the frame by `takeScrubEnd_of_undamaged` and `takeScrubEnd_of_damaged`, the next scrub by
`takeScrub_of_toIdle`. -/
theorem scrubEndFreesOrQuarantines : Obligations.ScrubEndFreesOrQuarantines := by
  unfold Obligations.ScrubEndFreesOrQuarantines
  intro f s hop hready hdevice hcurrent hended hstate
  refine ⟨_, exec_scrubEndReport_of_ended hop hready hcurrent hended, fun hdamaged hseen => ⟨fun hshort => ?short,
    fun c rest hclaims hfits => ?serves⟩, fun h => ?quarantined, ?next⟩
  case short =>
    rw [takeScrubEnd_of_undamaged hdamaged hseen, scrubEnd_freed.1 hshort]
    obtain ⟨x, hx⟩ := takeScrub_only_scrub ((scrubIdle s).freed f)
    rw [hx]
    exact ⟨State.freed_record (scrubIdle s) f, rfl, rfl, rfl⟩
  case serves =>
    obtain ⟨hfrees, hlength⟩ := (scrubEnd_freed (f := f)).2 c rest hclaims hfits
    rw [takeScrubEnd_of_undamaged hdamaged hseen, hclaims]
    obtain ⟨x, hx⟩ := takeScrub_only_scrub (examineClaims (c :: rest) ((scrubIdle s).freed f))
    rw [hx]
    refine ⟨?_, fun hbeyond hattached => ?_, fun hwithin hnodup => ?_⟩
    · by_cases hquota : s.mgmt.settings.quota.get c.port < s.engine.held.get c.port + c.count
      · rw [examineClaims_of_quota hlength (by exact hquota)]
        exact examineClaims_claims rest _
      · rw [examineClaims_of_grant hlength (by exact hquota)]
        exact examineClaims_claims rest _
    · rw [examineClaims_of_quota hlength (by exact hbeyond)]
      refine ((examineClaims_served rest _).outbound c.port).subset ?_
      exact handOver_mem_outbound (by exact hattached) _
    · rw [← hfrees] at hnodup
      obtain ⟨hgranted, hlent⟩ := examineClaims_grants (rest := rest) hnodup hlength (by exact hwithin)
      refine ⟨hgranted, fun k g hk hg => ?_⟩
      obtain ⟨hrecord, hgone, hasked⟩ := hlent k g hk (by rw [hfrees]; exact hg)
      rw [State.setScrub_record, hrecord]
      exact ⟨rfl, rfl, hgone, rfl, hasked⟩
  case quarantined =>
    obtain ⟨u, heq, hrecord, d, hd⟩ := takeScrubEnd_of_damaged hstate h
    rw [heq]
    obtain ⟨x, hx⟩ := takeScrub_only_scrub (quarantineFrame f .scrub (scrubIdle u))
    rw [hx]
    refine ⟨?_, ?_, ?_, ?_⟩
    · show ((scrubIdle u).setRecord f _).record f = _
      rw [show (scrubIdle u).record f = _ from hrecord]
      exact State.setRecord_record_of_damaged rfl
    · rw [hd]
      rfl
    · rw [hd]
      rfl
    · rw [hd]
      rfl
  case next =>
    by_cases h : (s.record f).damaged = true ∨ s.scrub.uncorrectableSeen = true
    · obtain ⟨u, heq, -, d, hd⟩ := takeScrubEnd_of_damaged hstate h
      rw [heq]
      exact takeScrub_of_toIdle (by rw [hd]; rfl) (by rw [hd]; exact hdevice)
    · rw [not_or, Bool.not_eq_true, Bool.not_eq_true] at h
      rw [takeScrubEnd_of_undamaged h.1 h.2]
      have houtside := (examineClaims_served s.engine.claims ((scrubIdle s).freed f)).outside
      refine takeScrub_of_toIdle ?_ ?_
      · exact Block.same_of_outside (b := .scrub) houtside (by simp)
      · exact (Block.same_of_outside (b := .device) houtside (by simp)).trans hdevice

end Sys2Proof.Machine
end

section
/-! The teardown scan and the end of teardown (R52, R176, R177). -/

namespace Sys2Proof.Machine

/-! ### The end of teardown (R176, R177) -/

/-- The Link Port after its teardown ended (R177). -/
def LinkPort.tornDown (l : LinkPort) : LinkPort :=
  { l with
    state := if l.disablePending then .disabled else if l.link = .up then .idle else .offline,
    disablePending := false, cause := none, queueEmptyReport := false, engineReport := false, recallReport := false }

section
variable {p : PortId} {s : State}

theorem checkTeardownEnd_of_all (hstate : (s.link p).state = .detaching) (hqueue : (s.link p).queueEmptyReport = true)
    (hengine : (s.link p).engineReport = true) (hrecall : (s.link p).recallReport = true) : checkTeardownEnd p s =
      (s.setLink p (s.link p).tornDown).setEngine { s.engine with teardown := s.engine.teardown.set p .idle } :=
  if_pos ⟨hstate, hqueue, hengine, hrecall⟩

theorem checkTeardownEnd_of_missing (h : (s.link p).queueEmptyReport = false ∨ (s.link p).engineReport = false ∨
    (s.link p).recallReport = false) : checkTeardownEnd p s = s := by
  refine if_neg ?_
  rintro ⟨-, hqueue, hengine, hrecall⟩
  simp [hqueue, hengine, hrecall] at h

/-- A report of `p`, or the check that follows it, changes only the Link Port of `p`, in neither of its queues, and the
place of `p` in the engine's teardowns. -/
def teardownStep (p : PortId) (s t : State) : Prop :=
  ∃ l q, t = (s.setLink p l).setEngine { s.engine with teardown := q } ∧ l.outbound = (s.link p).outbound ∧
    l.notices = (s.link p).notices ∧ ∀ x, x ≠ p → q.get x = s.engine.teardown.get x

theorem teardownStep.refl (p : PortId) (s : State) : teardownStep p s s :=
  ⟨s.link p, s.engine.teardown, by rw [State.setLink_link_self]; rfl, rfl, rfl, fun _ _ => rfl⟩

theorem teardownStep.trans {s t u : State} (h : teardownStep p s t) (h' : teardownStep p t u) : teardownStep p s u := by
  obtain ⟨l, q, rfl, hout, hnotices, hq⟩ := h
  obtain ⟨l', q', rfl, hout', hnotices', hq'⟩ := h'
  refine ⟨l', q', ?_, ?_, ?_, fun x hx => (hq' x hx).trans (hq x hx)⟩
  · simp [State.setLink, State.setEngine]
  · rw [hout', State.setEngine_link, State.setLink_link_same, hout]
  · rw [hnotices', State.setEngine_link, State.setLink_link_same, hnotices]

theorem teardownStep.setLink {l : LinkPort} (hout : l.outbound = (s.link p).outbound)
    (hnotices : l.notices = (s.link p).notices) : teardownStep p s (s.setLink p l) :=
  ⟨l, s.engine.teardown, rfl, hout, hnotices, fun _ _ => rfl⟩

theorem checkTeardownEnd_step (p : PortId) (s : State) : teardownStep p s (checkTeardownEnd p s) := by
  unfold checkTeardownEnd
  dsimp only
  split
  · exact ⟨_, _, rfl, rfl, rfl, fun x hx => Quad.get_set_ne _ _ hx⟩
  · exact .refl p s

theorem engineTeardownReport_step (p : PortId) (s : State) : teardownStep p s (engineTeardownReport p s) := by
  unfold engineTeardownReport
  split
  · exact teardownStep.trans (t := s.setLink p { s.link p with engineReport := true }) (.setLink rfl rfl) (checkTeardownEnd_step p _)
  · exact .refl p s

theorem recallTeardownReport_step (p : PortId) (s : State) : teardownStep p s (recallTeardownReport p s) := by
  unfold recallTeardownReport
  split
  · exact teardownStep.trans (t := s.setLink p { s.link p with recallReport := true }) (.setLink rfl rfl) (checkTeardownEnd_step p _)
  · exact .refl p s

theorem teardownStep.directory {t : State} (h : teardownStep p s t) : t.engine.directory = s.engine.directory := by
  obtain ⟨l, q, rfl, -⟩ := h
  rfl

theorem teardownStep.outbound {t : State} (h : teardownStep p s t) (x : PortId) :
    (t.link x).outbound = (s.link x).outbound := by
  obtain ⟨l, q, rfl, hout, -⟩ := h
  by_cases hx : x = p
  · subst hx
    exact (congrArg LinkPort.outbound (State.setLink_link_same ..)).trans hout
  · exact congrArg LinkPort.outbound (State.setLink_link_ne _ _ hx)

theorem teardownStep.hasItem {t : State} (h : teardownStep p s t) (x : PortId) : t.hasItem x = s.hasItem x := by
  rw [State.hasItem, h.directory]
  rfl

theorem engineTeardownReport_of_made (hstate : (s.link p).state = .detaching) (hscan : s.engine.teardown.get p = .finished)
    (hitem : s.hasItem p = false) :
    engineTeardownReport p s = checkTeardownEnd p (s.setLink p { s.link p with engineReport := true }) :=
  if_pos ⟨hstate, hscan, by simp [hitem]⟩

theorem engineTeardownReport_of_item (hitem : s.hasItem p = true) : engineTeardownReport p s = s :=
  if_neg (by simp [hitem])

theorem engineTeardownReport_of_not_detaching (hstate : (s.link p).state ≠ .detaching) : engineTeardownReport p s = s :=
  if_neg fun h => hstate h.1

/-- The report that is the last of the three ends the teardown. -/
theorem engineTeardownReport_ends (hstate : (s.link p).state = .detaching) (hscan : s.engine.teardown.get p = .finished)
    (hitem : s.hasItem p = false) (hqueue : (s.link p).queueEmptyReport = true) (hrecall : (s.link p).recallReport = true) :
    (engineTeardownReport p s).link p = (s.link p).tornDown ∧
      (engineTeardownReport p s).engine.teardown.get p = .idle := by
  rw [engineTeardownReport_of_made hstate hscan hitem]
  rw [checkTeardownEnd_of_all (by rw [State.setLink_link_same]; exact hstate) (by rw [State.setLink_link_same]; exact hqueue)
    (by rw [State.setLink_link_same]) (by rw [State.setLink_link_same]; exact hrecall)]
  refine ⟨?_, Quad.get_set_same _ _ _⟩
  refine (State.setLink_link_same _ _ _).trans ?_
  rw [State.setLink_link_same]
  rfl

theorem queueTeardownReport_ends (hstate : (s.link p).state = .detaching) (hempty : s.queue p = [])
    (hengine : (s.link p).engineReport = true) (hrecall : (s.link p).recallReport = true) :
    (queueTeardownReport p s).link p = (s.link p).tornDown ∧
      (queueTeardownReport p s).engine.teardown.get p = .idle := by
  rw [queueTeardownReport, if_pos ⟨hstate, by simp [hempty]⟩]
  rw [checkTeardownEnd_of_all (by rw [State.setLink_link_same]; exact hstate) (by rw [State.setLink_link_same])
    (by rw [State.setLink_link_same]; exact hengine) (by rw [State.setLink_link_same]; exact hrecall)]
  refine ⟨?_, Quad.get_set_same _ _ _⟩
  refine (State.setLink_link_same _ _ _).trans ?_
  rw [State.setLink_link_same]
  rfl

/-- The Recall Unit's last report of a port ends its teardown, or waits for the engine's. -/
theorem recallTeardownReport_of_made (hstate : (s.link p).state = .detaching)
    (hnone : (s.recalls.table.any fun r => r.port == p) = false) :
    recallTeardownReport p s = checkTeardownEnd p (s.setLink p { s.link p with recallReport := true }) :=
  if_pos ⟨hstate, by simp [hnone]⟩

theorem recallTeardownReport_ends (hstate : (s.link p).state = .detaching)
    (hnone : (s.recalls.table.any fun r => r.port == p) = false) (hqueue : (s.link p).queueEmptyReport = true)
    (hengine : (s.link p).engineReport = true) :
    (recallTeardownReport p s).link p = (s.link p).tornDown ∧
      (recallTeardownReport p s).engine.teardown.get p = .idle := by
  rw [recallTeardownReport_of_made hstate hnone]
  rw [checkTeardownEnd_of_all (by rw [State.setLink_link_same]; exact hstate) (by rw [State.setLink_link_same]; exact hqueue)
    (by rw [State.setLink_link_same]; exact hengine) (by rw [State.setLink_link_same])]
  refine ⟨?_, Quad.get_set_same _ _ _⟩
  refine (State.setLink_link_same _ _ _).trans ?_
  rw [State.setLink_link_same]
  rfl

theorem LinkPort.tornDown_state_ne (l : LinkPort) : l.tornDown.state ≠ .detaching := by
  unfold LinkPort.tornDown
  dsimp only
  split
  · nofun
  · split <;> nofun

/-! ### A turn of the scan (R52) -/

theorem exec_teardownScan_of_scanning {n : Nat} {w : Bool} (hop : s.operating = true) (hserves : s.serves p = true)
    (hstate : (s.link p).state = .detaching) (hscan : s.engine.teardown.get p = .scanning n w) :
    exec (.teardownScan p) s = .next (scanTurn p n (movePointer (sourceOf p) s)) := by
  show whenOperating s _ = _
  rw [whenOperating, if_pos hop, if_pos ⟨hserves, hstate⟩, hscan]

/-- Port `p` has no ACTIVE item in the record. -/
theorem find_activeItems_eq_none {r : FrameRecord} (h : ∀ j ∈ r.activeItems, j.port ≠ p) :
    r.activeItems.find? (fun i => i.port == p) = none :=
  List.find?_eq_none.2 fun j hj => by simpa using h j hj

theorem scanTurn_of_found {n f : Nat} {i : MapItem} (hn : n ≤ f) (hf : f < s.frames)
    (hbefore : ∀ g, n ≤ g → g < f → ∀ j ∈ (s.record g).activeItems, j.port ≠ p)
    (hi : (s.record f).activeItems.find? (fun j => j.port == p) = some i) : scanTurn p n s = scanFrame p f i s := by
  have hrange : List.range' n (s.frames - n) = List.range' n (f - n) ++ f :: List.range' (f + 1) (s.frames - f - 1) := by
    have hsplit := List.range'_append (s := n) (m := f - n) (n := s.frames - f) (step := 1)
    rw [Nat.one_mul, Nat.add_sub_cancel' hn, show f - n + (s.frames - f) = s.frames - n by omega] at hsplit
    rw [← hsplit, show s.frames - f = (s.frames - f - 1) + 1 by omega, List.range'_succ]
    rfl
  have hfirst : (List.range' n (f - n)).findSome? (fun f =>
      ((s.record f).activeItems.find? fun i => i.port == p).map fun i => (f, i)) = none := by
    refine List.findSome?_eq_none_iff.2 fun g hg => ?_
    rw [List.mem_range'_1] at hg
    rw [find_activeItems_eq_none (hbefore g hg.1 (by omega))]
    rfl
  rw [scanTurn, hrange, List.findSome?_append, hfirst, List.findSome?_cons, hi]
  rfl

theorem scanTurn_of_none {n : Nat} (h : ∀ g, n ≤ g → g < s.frames → ∀ j ∈ (s.record g).activeItems, j.port ≠ p) :
    scanTurn p n s = engineTeardownReport p (setScan p .finished s) := by
  have hnone : (List.range' n (s.frames - n)).findSome? (fun f =>
      ((s.record f).activeItems.find? fun i => i.port == p).map fun i => (f, i)) = none := by
    refine List.findSome?_eq_none_iff.2 fun g hg => ?_
    rw [List.mem_range'_1] at hg
    rw [find_activeItems_eq_none (h g hg.1 (by omega))]
    rfl
  rw [scanTurn, hnone]

/-- The scan's move past a frame leaves directory and Recall Unit; it goes on at the next frame, if there is one. -/
theorem scanPast_spec (p : PortId) (f : Nat) (s : State) :
    (f + 1 < s.frames → (scanPast p f s).engine.teardown.get p = .scanning (f + 1) false) ∧
      (scanPast p f s).engine.directory = s.engine.directory ∧ (scanPast p f s).recalls = s.recalls := by
  refine ⟨fun hmore => ?_, ?_, Block.same_of_outside (b := .recalls) (bs := [.links, .engine]) (by simp) (by simp)⟩
  · rw [scanPast, if_pos hmore]
    exact Quad.get_set_same _ _ _
  · unfold scanPast
    split
    · rfl
    · exact (engineTeardownReport_step p (setScan p .finished s)).directory

/-- A listed item is an item of its port. -/
theorem record_items_of_no_item {f : Nat} (hitem : s.hasItem p = false) : ∀ j ∈ (s.record f).items, j.port ≠ p := by
  intro j hj hport
  have hlisted : ∀ (m : List (Nat × FrameRecord)), j ∈ (sparseGet FrameRecord.afterReset m f).items →
      ∃ e ∈ m, j ∈ e.2.items := by
    intro m
    induction m with
    | nil => intro h; cases h
    | cons e t ih =>
      intro h
      unfold sparseGet at h
      split at h
      · exact ⟨e, List.mem_cons_self, h⟩
      · obtain ⟨e', he', hj'⟩ := ih h
        exact ⟨e', List.mem_cons_of_mem _ he', hj'⟩
  obtain ⟨e, he, hje⟩ := hlisted _ hj
  have hhas : s.hasItem p = true := List.any_eq_true.2 ⟨e, he, List.any_eq_true.2 ⟨j, hje, by simp [hport]⟩⟩
  rw [hitem] at hhas
  cases hhas

end

/-! ### The event that makes the last report -/

section
variable {p : PortId} {s : State}

theorem exec_lineResult_of_next {r : LineResult} (hop : s.operating = true) (h : s.nextLineResult p r.tag r.line = some r) :
    exec (.lineResult p r.tag r.line) s = .next (takeLineResult p r (s.setFlight { s.flight with
      lineResults := s.flight.lineResults.set p
        ((s.flight.lineResults.get p).filter fun r' => !(r'.tag == r.tag && r'.line == r.line)) })) := by
  show whenOperating s _ = _
  rw [whenOperating, if_pos hop, h]

theorem takeLineResult_of_last {r : LineResult} {e : ReqEntry} {f g n : Nat} {got : Gathered} {pl : Place}
    (hentry : s.entry p r.tag = some e) (hplace : placeOf e.kind = some pl) (hstate : e.state = .issued f g n got)
    (hlast : pl.count ≤ n + 1) : takeLineResult p r s = leaveIssued p r.tag f (gather pl.line r.line r.outcome got) s := by
  simp only [takeLineResult, hentry, hplace, hstate]
  exact if_neg (Nat.not_lt.2 hlast)

theorem takeLineResult_of_more {r : LineResult} {e : ReqEntry} {f g n : Nat} {got : Gathered} {pl : Place}
    (hentry : s.entry p r.tag = some e) (hplace : placeOf e.kind = some pl) (hstate : e.state = .issued f g n got)
    (hmore : n + 1 < pl.count) : takeLineResult p r s =
      setEntryState p r.tag (.issued f g (n + 1) (gather pl.line r.line r.outcome got)) s := by
  simp only [takeLineResult, hentry, hplace, hstate]
  exact if_pos hmore

theorem leaveIssued_of_detaching (hstate : (s.link p).state = .detaching) (tag f : Nat) (got : Gathered) :
    leaveIssued p tag f got s =
      queueTeardownReport p (drainReport p f (s.setQueue p ((s.queue p).filter fun e => !(e.tag == tag)))) := if_pos hstate

theorem leaveIssued_of_session (hstate : (s.link p).state ≠ .detaching) (tag f : Nat) (got : Gathered) :
    leaveIssued p tag f got s =
      drainReport p f (settlePort p (s.queue p) (setEntryState p tag (.done (finalStatus got) got) s)) := if_neg hstate

theorem drainReport_only_recalls (p : PortId) (f : Nat) (s : State) : ∃ x, drainReport p f s = s.setRecalls x := by
  unfold drainReport
  split
  · exact ⟨s.recalls, rfl⟩
  · unfold drainCheck reportComplete
    split
    · exact ⟨s.recalls, rfl⟩
    · split
      · exact ⟨s.recalls, rfl⟩
      · split
        · split
          · exact ⟨s.recalls, rfl⟩
          · exact ⟨_, rfl⟩
        · split
          · exact ⟨_, rfl⟩
          · split
            · exact ⟨s.recalls, rfl⟩
            · exact ⟨_, rfl⟩

/-- The last result of the last entry of a port whose other two reports are made ends its teardown. -/
theorem lineResult_endsTeardown {r : LineResult} {e : ReqEntry} {f g n : Nat} {got : Gathered} {pl : Place}
    (hop : s.operating = true) (hstate : (s.link p).state = .detaching) (hengine : (s.link p).engineReport = true)
    (hrecall : (s.link p).recallReport = true) (hqueue : s.queue p = [e]) (htag : e.tag = r.tag)
    (hplace : placeOf e.kind = some pl) (hissued : e.state = .issued f g n got) (hlast : pl.count ≤ n + 1)
    (hnext : s.nextLineResult p r.tag r.line = some r) :
    ∃ t, exec (.lineResult p r.tag r.line) s = .next t ∧ t.link p = (s.link p).tornDown ∧
      t.engine.teardown.get p = .idle := by
  rw [exec_lineResult_of_next hop hnext]
  refine ⟨_, rfl, ?_⟩
  rw [takeLineResult_of_last (e := e) (by simp [State.entry, hqueue, htag]) hplace hissued hlast,
    leaveIssued_of_detaching (by exact hstate)]
  obtain ⟨x, hx⟩ := drainReport_only_recalls p f (State.setQueue (s.setFlight _) p _)
  rw [hx]
  refine queueTeardownReport_ends (by exact hstate) ?_ (by exact hengine) (by exact hrecall)
  rw [State.setRecalls_queue, State.setQueue_queue_same]
  simp [hqueue, htag]

end

/-- What the scan does at the first frame where the port has an ACTIVE item, with records enough. -/
theorem scanFrame_of_enough {p : PortId} {f : Nat} {i : MapItem} {s : State} :
    (i.role = .reader → 1 ≤ s.freeRecords → scanFrame p f i s = scanPast p f (recallItem f i .portGone false none s)) ∧
    (i.role = .holder → 1 + (s.record f).activeReaders.length ≤ s.freeRecords →
      scanFrame p f i s = scanPast p f (enterRecalling f .teardown false teardownReason s)) := by
  refine ⟨fun hrole hrecords => ?_, fun hrole hrecords => ?_⟩
  · unfold scanFrame
    simp only [hrole]
    exact if_neg (Nat.not_lt.2 hrecords)
  · unfold scanFrame
    simp only [hrole]
    exact if_neg (Nat.not_lt.2 hrecords)

theorem scanFrame_of_few {p : PortId} {f : Nat} {i : MapItem} {s : State} :
    (i.role = .reader → s.freeRecords < 1 → scanFrame p f i s = setScan p (.scanning f true) s) ∧
    (i.role = .holder → s.freeRecords < 1 + (s.record f).activeReaders.length →
      scanFrame p f i s = setScan p (.scanning f true) s) := by
  refine ⟨fun hrole hrecords => ?_, fun hrole hrecords => ?_⟩
  · unfold scanFrame
    simp only [hrole]
    exact if_pos hrecords
  · unfold scanFrame
    simp only [hrole]
    exact if_pos hrecords

end Sys2Proof.Machine
end

section
/-! The Allocation Engine takes a record's completion (R9, R12, R20, R22, R103, R104), and the obligations of the teardown scan
and of the end of teardown. -/

namespace Sys2Proof.Machine

/-! ### A reader's item removed (R9, R103) -/

/-- The record without the item of `p` (R9): a SHARED frame without a further READER item is HELD. -/
def FrameRecord.withoutReader (r : FrameRecord) (p : PortId) : FrameRecord :=
  let r' := { r with items := r.items.filter fun i => !(i.port == p) }
  if r'.state = .shared ∧ !r'.hasReader then { r' with state := .held } else r'

section
variable (r : FrameRecord) (p : PortId)

theorem FrameRecord.withoutReader_items : (r.withoutReader p).items = r.items.filter fun i => !(i.port == p) := by
  unfold FrameRecord.withoutReader
  dsimp only
  split <;> rfl

theorem FrameRecord.withoutReader_state_of_ne (h : r.state ≠ .shared) : (r.withoutReader p).state = r.state := by
  unfold FrameRecord.withoutReader
  dsimp only
  rw [if_neg fun h' => h h'.1]

theorem FrameRecord.withoutReader_state_of_shared (h : r.state = .shared) :
    (r.withoutReader p).state = if (r.withoutReader p).hasReader then .shared else .held := by
  have hreader : (r.withoutReader p).hasReader = { r with items := r.items.filter fun i => !(i.port == p) }.hasReader := by
    unfold FrameRecord.hasReader
    rw [FrameRecord.withoutReader_items]
  rw [hreader]
  unfold FrameRecord.withoutReader
  dsimp only
  split
  case isTrue hlast =>
    rw [if_neg (by simpa using hlast.2)]
  case isFalse hnot =>
    rw [if_pos (by simpa [h] using hnot)]
    exact h

theorem FrameRecord.withoutReader_state_recalling_iff : (r.withoutReader p).state = .recalling ↔ r.state = .recalling := by
  by_cases h : r.state = .shared
  · rw [FrameRecord.withoutReader_state_of_shared _ _ h, h]
    split <;> simp
  · rw [FrameRecord.withoutReader_state_of_ne _ _ h]

end

theorem removeReader_eq (f : Nat) (p : PortId) (s : State) : removeReader f p s =
    if ((s.record f).withoutReader p).state = .recalling then
      holderMayComplete f (s.setRecord f ((s.record f).withoutReader p))
    else s.setRecord f ((s.record f).withoutReader p) := rfl

/-- A report of a record's completion adds it to those reported, and does no more. -/
theorem reportComplete_shape (rid : Nat) (s : State) :
    ∃ l, reportComplete rid s = s.setRecalls { s.recalls with reported := l } := by
  unfold reportComplete
  split
  · exact ⟨s.recalls.reported, rfl⟩
  · exact ⟨_, rfl⟩

theorem reportComplete_mem (rid : Nat) (s : State) : rid ∈ (reportComplete rid s).recalls.reported := by
  unfold reportComplete
  split
  case isTrue h => simpa using h
  case isFalse h => exact List.mem_append_right _ (List.mem_singleton_self rid)

theorem holderMayComplete_shape (f : Nat) (s : State) :
    ∃ l, holderMayComplete f s = s.setRecalls { s.recalls with reported := l } := by
  unfold holderMayComplete
  split
  · exact ⟨s.recalls.reported, rfl⟩
  · split
    · exact ⟨s.recalls.reported, rfl⟩
    · split
      · exact reportComplete_shape _ s
      · exact ⟨s.recalls.reported, rfl⟩

section
variable {f : Nat} {h : RecallRecord} {s : State}

theorem holderMayComplete_of_last (hreader : (s.record f).hasReader = false)
    (hfind : s.recalls.table.find? (fun r => r.frame == f && r.role == .holder) = some h)
    (hdraining : h.phase = .draining) (hdrained : h.drained = some true) :
    holderMayComplete f s = reportComplete h.recallId s := by
  simp only [holderMayComplete, hfind]
  rw [if_neg (by simp [hreader]), if_pos ⟨hdraining, hdrained⟩]

theorem holderMayComplete_of_not_last
    (hfind : s.recalls.table.find? (fun r => r.frame == f && r.role == .holder) = some h)
    (hnot : ¬((s.record f).hasReader = false ∧ h.phase = .draining ∧ h.drained = some true)) :
    holderMayComplete f s = s := by
  unfold holderMayComplete
  split
  · rfl
  case isFalse hreader =>
    simp only [hfind]
    exact if_neg fun hlast => hnot ⟨by simpa using hreader, hlast.1, hlast.2⟩

end

theorem removeReader_shape (f : Nat) (p : PortId) (s : State) : ∃ l, removeReader f p s =
    (s.setRecord f ((s.record f).withoutReader p)).setRecalls { s.recalls with reported := l } := by
  rw [removeReader_eq]
  split
  · exact holderMayComplete_shape f _
  · exact ⟨s.recalls.reported, rfl⟩

/-! ### A frame leaves RECALLING (R12, R22) -/

/-- The record of a frame that left RECALLING, before it is known where it goes. -/
def FrameRecord.exited (r : FrameRecord) : FrameRecord :=
  { r with state := .scrubbing, holder := none, items := [], leave := none, quarantineOnExit := false }

/-- `s` with the frame out of RECALLING, and its holder's count one less. -/
def State.frameExited (s : State) (f : Nat) : State :=
  let u := s.setRecord f (s.record f).exited
  match (s.record f).holder with
  | none => u
  | some p => u.setEngine { u.engine with held := u.engine.held.set p (u.engine.held.get p - 1) }

/-- The RELEASE that took the frame into RECALLING, if one did, is completed. -/
def completeRelease (r : FrameRecord) (s : State) : State :=
  match r.holder, r.leave with
  | some p, some (.release tag) => handOver p (commandCompletion tag .ok) s
  | _, _ => s

/-- The frame goes to quarantine or to the Scrub Queue (R12, R22). -/
def placeExited (r : FrameRecord) (f : Nat) (s : State) : State :=
  if r.damaged then quarantineFrame f .damage s
  else if r.quarantineOnExit then quarantineFrame f .management s
  else joinScrub f s

theorem exitRecalling_eq (f : Nat) (s : State) : exitRecalling f s =
    placeExited (s.record f) f (completeRelease (s.record f) (s.frameExited f)) := by
  unfold exitRecalling placeExited completeRelease State.frameExited
  dsimp only
  cases hholder : (s.record f).holder with
  | none => rfl
  | some p =>
    cases hleave : (s.record f).leave with
    | none => rfl
    | some l => cases l <;> rfl

theorem completeRelease_link_of_not_attached {r : FrameRecord} {s : State} {p : PortId} (h : (s.link p).state ≠ .attached) :
    (completeRelease r s).link p = s.link p := by
  unfold completeRelease
  split
  · by_cases hp : p = ‹PortId›
    · subst hp
      rw [handOver_of_not_attached h]
    · exact handOver_link_ne _ _ hp
  · rfl

theorem completeRelease_engine (r : FrameRecord) (s : State) : (completeRelease r s).engine = s.engine := by
  unfold completeRelease
  split
  · exact handOver_engine ..
  · rfl

theorem completeRelease_outside (r : FrameRecord) (s : State) :
    (completeRelease r s).outside [.links] = s.outside [.links] := by
  unfold completeRelease
  split
  · simp
  · rfl

theorem placeExited_links (r : FrameRecord) (f : Nat) (s : State) : (placeExited r f s).links = s.links :=
  Block.same_of_outside (b := .links) (bs := [.engine, .scrub, .flight])
    (by unfold placeExited; split <;> [simp; (split <;> simp)]) (by simp)

theorem placeExited_recalls (r : FrameRecord) (f : Nat) (s : State) : (placeExited r f s).recalls = s.recalls :=
  Block.same_of_outside (b := .recalls) (bs := [.engine, .scrub, .flight])
    (by unfold placeExited; split <;> [simp; (split <;> simp)]) (by simp)

theorem State.frameExited_shape (s : State) (f : Nat) : ∃ h, s.frameExited f = (s.setRecord f (s.record f).exited).setEngine
    { (s.setRecord f (s.record f).exited).engine with held := h } := by
  unfold State.frameExited
  dsimp only
  split
  · exact ⟨_, rfl⟩
  · exact ⟨_, rfl⟩

/-- Where the frame goes, its other records stay; its own says where it went. -/
theorem placeExited_record_ne {r : FrameRecord} {f g : Nat} (hg : g ≠ f) (s : State) :
    (placeExited r f s).record g = s.record g := by
  unfold placeExited
  split
  · exact State.setRecord_record_ne _ hg
  · split
    · exact State.setRecord_record_ne _ hg
    · exact State.record_of_engine (t := joinScrub f s) (Block.same_of_outside (b := .engine) (bs := [.scrub]) (by simp) (by simp)) g

theorem exitRecalling_record_ne {f g : Nat} (hg : g ≠ f) (s : State) : (exitRecalling f s).record g = s.record g := by
  obtain ⟨h, hshape⟩ := s.frameExited_shape f
  rw [exitRecalling_eq, placeExited_record_ne hg, State.record_of_engine (completeRelease_engine ..), hshape]
  exact State.setRecord_record_ne _ hg

theorem exitRecalling_link_of_not_attached {f : Nat} {s : State} {p : PortId} (h : (s.link p).state ≠ .attached) :
    (exitRecalling f s).link p = s.link p := by
  obtain ⟨held, hshape⟩ := s.frameExited_shape f
  rw [exitRecalling_eq, State.link, placeExited_links]
  refine (completeRelease_link_of_not_attached ?_).trans ?_ <;> rw [hshape]
  · exact h
  · rfl

/-! ### The completion of a record (R104) -/

/-- `s` without the record, which is not reported any more. -/
def State.withoutRecall (s : State) (r : RecallRecord) : State :=
  s.setRecalls { s.recalls with
    table := s.recalls.table.filter fun r' => !(r'.recallId == r.recallId),
    reported := s.recalls.reported.filter fun n => !(n == r.recallId) }

/-- The mapping of a completed record is removed. -/
def removeMapping (r : RecallRecord) (s : State) : State :=
  match r.role with
  | .holder => exitRecalling r.frame s
  | .reader => removeReader r.frame r.port s

/-- The DROP or REVOKE that made the record, if one did, is completed. -/
def completeOrigin (r : RecallRecord) (s : State) : State :=
  match r.origin with
  | some (p, tag) => handOver p (commandCompletion tag .ok) s
  | none => s

/-- `s` once the record's mapping is removed and its command completed, before any report of a teardown. -/
def State.recallTaken (s : State) (r : RecallRecord) : State :=
  clearWaiting (completeOrigin r (removeMapping r (s.withoutRecall r)))

theorem takeCompletion_eq (r : RecallRecord) (s : State) : takeCompletion r s =
    engineTeardownReport r.port (recallTeardownReport r.port (s.recallTaken r)) := rfl

theorem takeCompletion_step (r : RecallRecord) (s : State) : teardownStep r.port (s.recallTaken r) (takeCompletion r s) :=
  (recallTeardownReport_step ..).trans (engineTeardownReport_step ..)

theorem exec_recallCompletionReport_of_reported {r : RecallRecord} {s : State} (hop : s.operating = true)
    (hready : s.engineReady = true) (hreported : r.recallId ∈ s.recalls.reported) (hr : s.recordById r.recallId = some r) :
    exec (.recallCompletionReport r.recallId) s = .next (takeCompletion r s) := by
  show onEngine s _ = _
  rw [onEngine_of_ready hop hready, if_pos (by simpa using hreported), hr]

theorem completeOrigin_engine (r : RecallRecord) (s : State) : (completeOrigin r s).engine = s.engine := by
  unfold completeOrigin
  split
  · exact handOver_engine ..
  · rfl

theorem completeOrigin_outside (r : RecallRecord) (s : State) :
    (completeOrigin r s).outside [.links] = s.outside [.links] := by
  unfold completeOrigin
  split
  · simp
  · rfl

theorem completeOrigin_link_of_not_attached {r : RecallRecord} {s : State} {p : PortId} (h : (s.link p).state ≠ .attached) :
    (completeOrigin r s).link p = s.link p := by
  unfold completeOrigin
  split
  · by_cases hp : p = ‹PortId›
    · subst hp
      rw [handOver_of_not_attached h]
    · exact handOver_link_ne _ _ hp
  · rfl

/-- The scan goes on once a record has freed (R51). -/
def ScanState.woken : ScanState → ScanState
  | .scanning n _ => .scanning n false
  | .idle => .idle
  | .handed => .handed
  | .finished => .finished

theorem clearWaiting_teardown (s : State) (p : PortId) :
    (clearWaiting s).engine.teardown.get p = (s.engine.teardown.get p).woken := by
  match p with
  | 0 => rfl
  | 1 => rfl
  | 2 => rfl
  | 3 => rfl

theorem removeMapping_recalls_table (r : RecallRecord) (s : State) : (removeMapping r s).recalls.table = s.recalls.table := by
  unfold removeMapping
  split
  · rw [exitRecalling_eq, placeExited_recalls]
    obtain ⟨h, hshape⟩ := s.frameExited_shape r.frame
    rw [show (completeRelease _ _).recalls = _ from
      Block.same_of_outside (b := .recalls) (completeRelease_outside _ _) (by simp), hshape]
    rfl
  · obtain ⟨l, hl⟩ := removeReader_shape r.frame r.port s
    rw [hl]
    rfl

theorem removeMapping_record_ne {r : RecallRecord} {g : Nat} (hg : g ≠ r.frame) (s : State) :
    (removeMapping r s).record g = s.record g := by
  unfold removeMapping
  split
  · exact exitRecalling_record_ne hg s
  · obtain ⟨l, hl⟩ := removeReader_shape r.frame r.port s
    rw [hl]
    exact State.setRecord_record_ne _ hg

theorem removeMapping_link_of_not_attached {r : RecallRecord} {s : State} {p : PortId} (h : (s.link p).state ≠ .attached) :
    (removeMapping r s).link p = s.link p := by
  unfold removeMapping
  split
  · exact exitRecalling_link_of_not_attached h
  · obtain ⟨l, hl⟩ := removeReader_shape r.frame r.port s
    rw [hl]
    rfl

theorem recallTaken_link_of_not_attached {r : RecallRecord} {s : State} {p : PortId} (h : (s.link p).state ≠ .attached) :
    (s.recallTaken r).link p = s.link p := by
  have hmapping : (removeMapping r (s.withoutRecall r)).link p = s.link p := removeMapping_link_of_not_attached (by exact h)
  exact (completeOrigin_link_of_not_attached (by rw [hmapping]; exact h)).trans hmapping

theorem recallTaken_record (r : RecallRecord) (s : State) (g : Nat) :
    (s.recallTaken r).record g = (removeMapping r (s.withoutRecall r)).record g :=
  State.record_of_engine (t := completeOrigin r (removeMapping r (s.withoutRecall r))) (completeOrigin_engine ..) g

theorem recallTaken_recalls (r : RecallRecord) (s : State) :
    (s.recallTaken r).recalls = (removeMapping r (s.withoutRecall r)).recalls :=
  Block.same_of_outside (b := .recalls) (completeOrigin_outside r _) (by simp)

theorem removeMapping_teardown (r : RecallRecord) (s : State) :
    (removeMapping r s).engine.teardown = s.engine.teardown := by
  unfold removeMapping
  split
  · rw [exitRecalling_eq]
    have hplace (x : FrameRecord) (u : State) : (placeExited x r.frame u).engine.teardown = u.engine.teardown := by
      unfold placeExited
      split
      · rfl
      · split
        · rfl
        · rw [show (joinScrub r.frame u).engine = u.engine from
            Block.same_of_outside (b := .engine) (bs := [.scrub]) (by simp) (by simp)]
    obtain ⟨h, hshape⟩ := s.frameExited_shape r.frame
    rw [hplace, completeRelease_engine, hshape]
    rfl
  · obtain ⟨l, hl⟩ := removeReader_shape r.frame r.port s
    rw [hl]
    rfl

/-! ### The holder's record completed: the frame's new place -/

section
variable {r : FrameRecord} {f : Nat} {s : State}

theorem placeExited_of_damaged (h : r.damaged = true) : placeExited r f s = quarantineFrame f .damage s := if_pos h

theorem placeExited_of_management (h : r.damaged = false) (h' : r.quarantineOnExit = true) :
    placeExited r f s = quarantineFrame f .management s := (if_neg (by simp [h])).trans (if_pos h')

theorem placeExited_of_scrub (h : r.damaged = false) (h' : r.quarantineOnExit = false) :
    placeExited r f s = joinScrub f s := (if_neg (by simp [h])).trans (if_neg (by simp [h']))

/-- A frame that joined the Scrub Queue waits there, or is scrubbed at once. -/
theorem joinScrub_mem (f : Nat) (s : State) :
    f ∈ (joinScrub f s).scrub.queue ∨ (joinScrub f s).scrub.current = some f := by
  let u := s.setScrub { s.scrub with queue := s.scrub.queue ++ [f] }
  by_cases hready : u.scrub.phase ≠ .idle ∨ u.device ≠ .run
  · refine .inl ?_
    rw [joinScrub, takeScrub_of_not_ready hready]
    exact List.mem_append_right _ (List.mem_singleton_self f)
  · rw [not_or, not_not, not_not] at hready
    cases hqueue : s.scrub.queue with
    | nil =>
      refine .inr ?_
      rw [joinScrub, takeScrub_of_cons (g := f) (rest := []) (show s.scrub.queue ++ [f] = _ by rw [hqueue]; rfl) hready.1 hready.2]
      rfl
    | cons g rest =>
      refine .inl ?_
      rw [joinScrub, takeScrub_of_cons (g := g) (rest := rest ++ [f])
        (show s.scrub.queue ++ [f] = _ by rw [hqueue]; rfl) hready.1 hready.2]
      exact List.mem_append_right _ (List.mem_singleton_self f)

/-- `s` before its exited frame is placed. -/
def State.released (s : State) (f : Nat) : State := completeRelease (s.record f) (s.frameExited f)

theorem State.released_record (hw : sparseWf FrameRecord.afterReset s.engine.directory = true) (f : Nat) :
    (s.released f).record f = (s.record f).exited ∧
      sparseWf FrameRecord.afterReset (s.released f).engine.directory = true := by
  obtain ⟨h, hshape⟩ := s.frameExited_shape f
  rw [State.released]
  refine ⟨?_, ?_⟩
  · rw [State.record_of_engine (completeRelease_engine ..), hshape]
    exact (State.record_setRecord hw f f _).trans (if_pos rfl)
  · rw [completeRelease_engine, hshape]
    exact State.setRecord_directory_wf hw f _

theorem State.released_flight (s : State) (f : Nat) : (s.released f).flight = s.flight := by
  obtain ⟨h, hshape⟩ := s.frameExited_shape f
  rw [State.released, show (completeRelease _ _).flight = _ from
    Block.same_of_outside (b := .flight) (completeRelease_outside _ _) (by simp), hshape]
  rfl

/-- What the exit of a frame leaves in its record, in the engine and with the Management Interface (R12, R22). -/
theorem exitRecalling_spec (hw : sparseWf FrameRecord.afterReset s.engine.directory = true) (f : Nat) :
    (∀ p, (s.record f).holder = some p → (exitRecalling f s).engine.held.get p = s.engine.held.get p - 1) ∧
    ((s.record f).damaged = true →
      (exitRecalling f s).record f = { (s.record f).exited with state := .quarantined } ∧
        (exitRecalling f s).flight.faults = s.flight.faults ++ [.quarantined f .damage]) ∧
    ((s.record f).damaged = false → (s.record f).quarantineOnExit = true →
      (exitRecalling f s).record f = { (s.record f).exited with state := .quarantined } ∧
        (exitRecalling f s).flight.faults = s.flight.faults ++ [.quarantined f .management]) ∧
    ((s.record f).damaged = false → (s.record f).quarantineOnExit = false →
      (exitRecalling f s).record f = (s.record f).exited ∧ (exitRecalling f s).flight = s.flight ∧
        (f ∈ (exitRecalling f s).scrub.queue ∨ (exitRecalling f s).scrub.current = some f)) := by
  have heq : exitRecalling f s = placeExited (s.record f) f (s.released f) := exitRecalling_eq f s
  obtain ⟨hrecord, hwf⟩ := State.released_record hw f
  have hflight := s.released_flight f
  have hquarantined (cause : QuarantineCause) :
      (quarantineFrame f cause (s.released f)).record f = { (s.record f).exited with state := .quarantined } ∧
        (quarantineFrame f cause (s.released f)).flight.faults = s.flight.faults ++ [.quarantined f cause] := by
    refine ⟨?_, ?_⟩
    · rw [quarantineFrame_record hwf, if_pos rfl, hrecord]
    · show (s.released f).flight.faults ++ _ = _
      rw [hflight]
  refine ⟨fun p hp => ?_, fun hdamaged => ?_, fun hdamaged hmanagement => ?_, fun hdamaged hscrub => ?_⟩
  · have hheld : (exitRecalling f s).engine.held = (s.released f).engine.held := by
      rw [heq]
      unfold placeExited
      split
      · rfl
      · split
        · rfl
        · rw [show (joinScrub f (s.released f)).engine = (s.released f).engine from
            Block.same_of_outside (b := .engine) (bs := [.scrub]) (by simp) (by simp)]
    rw [hheld, State.released, completeRelease_engine, State.frameExited, hp]
    exact Quad.get_set_same _ _ _
  · rw [heq, placeExited_of_damaged hdamaged]
    exact hquarantined .damage
  · rw [heq, placeExited_of_management hdamaged hmanagement]
    exact hquarantined .management
  · rw [heq, placeExited_of_scrub hdamaged hscrub]
    refine ⟨?_, ?_, joinScrub_mem f _⟩
    · rw [← hrecord]
      exact State.record_of_engine (Block.same_of_outside (b := .engine) (bs := [.scrub])
        (joinScrub_outside _ (by simp) f) (by simp)) f
    · exact (Block.same_of_outside (b := .flight) (bs := [.scrub])
        (joinScrub_outside _ (by simp) f) (by simp)).trans hflight

/-- The frame's exit hands nothing over unless its holder's RELEASE took it into RECALLING. -/
theorem exitRecalling_links (s : State) (f : Nat) : (exitRecalling f s).links = (s.released f).links := by
  rw [exitRecalling_eq, placeExited_links]
  rfl

end

/-! ### O31 -/

section
variable {r : RecallRecord} {s : State}

theorem takeCompletion_outbound (p : PortId) :
    ((takeCompletion r s).link p).outbound =
      ((completeOrigin r (removeMapping r (s.withoutRecall r))).link p).outbound :=
  (takeCompletion_step r s).outbound p

theorem completeOrigin_outbound {p : PortId} {tag : Nat} (horigin : r.origin = some (p, tag))
    (hattached : (s.link p).state = .attached) :
    ((completeOrigin r s).link p).outbound = (s.link p).outbound ++ [commandCompletion tag .ok] := by
  simp only [completeOrigin, horigin]
  rw [handOver_of_attached hattached, State.setLink_link_same]

theorem removeMapping_links_of_reader (hrole : r.role = .reader) : (removeMapping r s).links = s.links := by
  obtain ⟨l, hl⟩ := removeReader_shape r.frame r.port s
  simp only [removeMapping, hrole]
  rw [hl]
  rfl

theorem State.frameExited_links (s : State) (f : Nat) : (s.frameExited f).links = s.links := by
  obtain ⟨h, hshape⟩ := s.frameExited_shape f
  rw [hshape]
  rfl

theorem removeMapping_links_of_no_holder (hholder : (s.record r.frame).holder = none) :
    (removeMapping r s).links = s.links := by
  cases hrole : r.role with
  | reader => exact removeMapping_links_of_reader hrole
  | holder =>
    simp only [removeMapping, hrole]
    rw [exitRecalling_links, State.released]
    simp only [completeRelease, hholder]
    exact s.frameExited_links _

theorem removeMapping_outbound_of_release {p : PortId} {tag : Nat} (hrole : r.role = .holder)
    (hholder : (s.record r.frame).holder = some p) (hleave : (s.record r.frame).leave = some (.release tag))
    (hattached : (s.link p).state = .attached) :
    ((removeMapping r s).link p).outbound = (s.link p).outbound ++ [commandCompletion tag .ok] := by
  have hlink : (s.frameExited r.frame).link p = s.link p := congrArg (Quad.get · p) (s.frameExited_links _)
  simp only [removeMapping, hrole]
  rw [State.link, exitRecalling_links, State.released]
  simp only [completeRelease, hholder, hleave]
  rw [handOver_of_attached (by rw [hlink]; exact hattached)]
  refine (congrArg LinkPort.outbound (State.setLink_link_same ..)).trans ?_
  rw [hlink]

/-- Of a frame's records, taking one from the table leaves the holder's the first that is found. -/
theorem find_holder_withoutRecall {h : RecallRecord}
    (hfind : s.recalls.table.find? (fun x => x.frame == r.frame && x.role == .holder) = some h)
    (hne : h.recallId ≠ r.recallId) :
    (s.withoutRecall r).recalls.table.find? (fun x => x.frame == r.frame && x.role == .holder) = some h := by
  obtain ⟨hp, as, bs, htable, has⟩ := List.find?_eq_some_iff_append.1 hfind
  show (s.recalls.table.filter _).find? _ = _
  rw [htable, List.filter_append, List.filter_cons_of_pos (by simpa using hne)]
  exact List.find?_eq_some_iff_append.2
    ⟨hp, _, _, rfl, fun a ha => has a (List.mem_of_mem_filter ha)⟩

end

/-- Settles O31. -/
theorem recallCompletionRemovesMapping : Obligations.RecallCompletionRemovesMapping := by
  unfold Obligations.RecallCompletionRemovesMapping
  intro r s hop hready hreported hr
  have hstep := takeCompletion_step r s
  have hrecord (g : Nat) : (takeCompletion r s).record g = (removeMapping r (s.withoutRecall r)).record g :=
    (State.record_of_directory hstep.directory g).trans (recallTaken_record r s g)
  have hrecalls : (takeCompletion r s).recalls = (removeMapping r (s.withoutRecall r)).recalls := by
    obtain ⟨l, q, heq, -⟩ := hstep
    rw [heq]
    exact recallTaken_recalls r s
  refine ⟨_, exec_recallCompletionReport_of_reported hop hready hreported hr, ?table, ?waiting, fun p n hscan hp => ?scan,
    fun g hg => ?others, fun p tag hcase horigin hattached => ?origin, fun p tag hrole hholder hleave horigin hattached => ?release,
    fun hrole hw => ?reader, fun hrole hw => ?holder⟩
  case table =>
    rw [hrecalls, removeMapping_recalls_table]
    rfl
  case waiting =>
    obtain ⟨l, q, heq, -⟩ := hstep
    rw [heq]
    rfl
  case scan =>
    obtain ⟨l, q, heq, -, -, hq⟩ := hstep
    rw [heq]
    refine (hq p hp).trans ?_
    rw [State.recallTaken, clearWaiting_teardown, completeOrigin_engine, removeMapping_teardown]
    show (s.engine.teardown.get p).woken = _
    rw [hscan]
    rfl
  case others =>
    rw [hrecord, removeMapping_record_ne hg]
    rfl
  case origin =>
    have hlinks : (removeMapping r (s.withoutRecall r)).links = s.links := by
      obtain hrole | hholder := hcase
      · exact removeMapping_links_of_reader hrole
      · exact removeMapping_links_of_no_holder (s := s.withoutRecall r) hholder
    have hlink : (removeMapping r (s.withoutRecall r)).link p = s.link p := congrArg (Quad.get · p) hlinks
    rw [takeCompletion_outbound, completeOrigin_outbound horigin (by rw [hlink]; exact hattached), hlink]
  case release =>
    rw [takeCompletion_outbound]
    simp only [completeOrigin, horigin]
    exact removeMapping_outbound_of_release (s := s.withoutRecall r) hrole hholder hleave hattached
  case reader =>
    have hremove : removeMapping r (s.withoutRecall r) = removeReader r.frame r.port (s.withoutRecall r) := by
      simp only [removeMapping, hrole]
    have hmine : (takeCompletion r s).record r.frame = (s.record r.frame).withoutReader r.port := by
      rw [hrecord, hremove]
      obtain ⟨l, hl⟩ := removeReader_shape r.frame r.port (s.withoutRecall r)
      rw [hl]
      exact (State.record_setRecord (s := s.withoutRecall r) hw _ _ _).trans (if_pos rfl)
    rw [hmine]
    refine ⟨FrameRecord.withoutReader_items .., FrameRecord.withoutReader_state_of_ne _ _,
      FrameRecord.withoutReader_state_of_shared _ _, fun h hfind hne => ?_⟩
    let u := (s.withoutRecall r).setRecord r.frame ((s.record r.frame).withoutReader r.port)
    have hu : u.record r.frame = (s.record r.frame).withoutReader r.port :=
      (State.record_setRecord (s := s.withoutRecall r) hw _ _ _).trans (if_pos rfl)
    have hfind' : u.recalls.table.find? (fun x => x.frame == r.frame && x.role == .holder) = some h :=
      find_holder_withoutRecall hfind hne
    have hremoved : removeReader r.frame r.port (s.withoutRecall r) =
        if ((s.record r.frame).withoutReader r.port).state = .recalling then holderMayComplete r.frame u else u := rfl
    dsimp only
    rw [hrecalls, hremove, hremoved]
    have hstate := FrameRecord.withoutReader_state_recalling_iff (s.record r.frame) r.port
    refine ⟨fun ⟨hrecalling, hnone, hdraining, hdrained⟩ => ?_, fun hlast => ?_⟩
    · rw [if_pos (hstate.2 hrecalling), holderMayComplete_of_last (by rw [hu]; exact hnone) hfind' hdraining hdrained]
      exact reportComplete_mem _ _
    · split
      case isTrue hrecalling =>
        rw [holderMayComplete_of_not_last hfind' (by rw [hu]; exact fun h => hlast ⟨hstate.1 hrecalling, h⟩)]
        rfl
      case isFalse => rfl
  case holder =>
    have hexit : removeMapping r (s.withoutRecall r) = exitRecalling r.frame (s.withoutRecall r) := by
      simp only [removeMapping, hrole]
    have hengine : (takeCompletion r s).engine.held = (exitRecalling r.frame (s.withoutRecall r)).engine.held := by
      obtain ⟨l, q, heq, -⟩ := hstep
      rw [heq, ← hexit]
      show (completeOrigin r (removeMapping r (s.withoutRecall r))).engine.held = _
      rw [completeOrigin_engine]
    have houtside : (takeCompletion r s).outside [.links, .engine] =
        (exitRecalling r.frame (s.withoutRecall r)).outside [.links, .engine] := by
      rw [takeCompletion_eq, State.recallTaken, hexit]
      rw [engineTeardownReport_outside _ (by simp) (by simp), recallTeardownReport_outside _ (by simp) (by simp),
        clearWaiting_outside _ (by simp)]
      unfold completeOrigin
      split
      · simp
      · rfl
    have hflight : (takeCompletion r s).flight = (exitRecalling r.frame (s.withoutRecall r)).flight :=
      Block.same_of_outside (b := .flight) houtside (by simp)
    have hscrub : (takeCompletion r s).scrub = (exitRecalling r.frame (s.withoutRecall r)).scrub :=
      Block.same_of_outside (b := .scrub) houtside (by simp)
    obtain ⟨hheld, hdamage, hmanagement, hclean⟩ := exitRecalling_spec (s := s.withoutRecall r) hw r.frame
    rw [hrecord, hexit, hengine, hflight, hscrub]
    have hcases : ∃ st, (exitRecalling r.frame (s.withoutRecall r)).record r.frame =
        { (s.record r.frame).exited with state := st } := by
      cases hd : (s.record r.frame).damaged with
      | true => exact ⟨_, (hdamage hd).1⟩
      | false =>
        cases hm : (s.record r.frame).quarantineOnExit with
        | true => exact ⟨_, (hmanagement hd hm).1⟩
        | false => exact ⟨_, (hclean hd hm).1⟩
    obtain ⟨st, hst⟩ := hcases
    refine ⟨?_, ?_, ?_, ?_, ?_, ?_, hheld, fun hd => ⟨?_, (hdamage hd).2⟩, fun hd hm => ⟨?_, (hmanagement hd hm).2⟩,
      fun hd hm => ⟨?_, (hclean hd hm).2⟩⟩
    · rw [hst]
      rfl
    · rw [hst]
      rfl
    · rw [hst]
      rfl
    · rw [hst]
      rfl
    · rw [hst]
      rfl
    · rw [hst]
      rfl
    · rw [(hdamage hd).1]
    · rw [(hmanagement hd hm).1]
    · rw [(hclean hd hm).1]
      rfl

end Sys2Proof.Machine
end

section
/-! O34: the turns of the teardown scan and the end of teardown. -/

namespace Sys2Proof.Machine

section
variable {p : PortId} {s : State}

/-- The records that the scan needs at a frame where `p` has the item `i` (R52). -/
def State.scanNeed (s : State) (f : Nat) (i : MapItem) : Nat :=
  match i.role with
  | .reader => 1
  | .holder => 1 + (s.record f).activeReaders.length

theorem scanFrame_of_few_records {f : Nat} {i : MapItem} (h : s.freeRecords < s.scanNeed f i) :
    scanFrame p f i s = setScan p (.scanning f true) s := by
  unfold State.scanNeed at h
  cases hrole : i.role with
  | reader =>
    rw [hrole] at h
    exact scanFrame_of_few.1 hrole h
  | holder =>
    rw [hrole] at h
    exact scanFrame_of_few.2 hrole h

/-- A state whose engine kept the directory, with the records it has, agrees with `s` on them after the scan's move. -/
theorem scanPast_record (p : PortId) (f g : Nat) (s : State) : (scanPast p f s).record g = s.record g :=
  State.record_of_directory (scanPast_spec p f s).2.1 g

/-- The reader's item that the scan found is recalled with reason PORT_GONE. -/
theorem newRecall_of_scan {f : Nat} {i : MapItem} (hport : i.port = p) (hrole : i.role = .reader) :
    s.newRecall f i .portGone false none =
      { recallId := s.recalls.counter, frame := f, port := p, hpn := i.hpn, role := .reader, reason := .portGone,
        notify := false, phase := .unmapping, noticeSent := none, deadline := none, origin := none, drained := none } := by
  simp [State.newRecall, State.notifies, hport, hrole]

/-- The turn that finds no frame more reports to the Link Port, or waits for the items that are left. -/
theorem scanTurn_finished {n : Nat} (hstate : (s.link p).state = .detaching)
    (h : ∀ g, n ≤ g → g < s.frames → ∀ j ∈ (s.record g).activeItems, j.port ≠ p) :
    (s.hasItem p = true → (scanTurn p n s).engine.teardown.get p = .finished ∧ (scanTurn p n s).link p = s.link p) ∧
    (s.hasItem p = false → ((scanTurn p n s).link p).engineReport = true ∨ ((scanTurn p n s).link p).state ≠ .detaching) := by
  rw [scanTurn_of_none h]
  refine ⟨fun hitem => ?_, fun hitem => ?_⟩
  · rw [engineTeardownReport_of_item (by exact hitem)]
    exact ⟨Quad.get_set_same _ _ _, rfl⟩
  · rw [engineTeardownReport_of_made (by exact hstate) (Quad.get_set_same _ _ _) (by exact hitem)]
    by_cases hqueue : (s.link p).queueEmptyReport = true
    · by_cases hrecall : (s.link p).recallReport = true
      · refine .inr ?_
        rw [checkTeardownEnd_of_all (by rw [State.setLink_link_same]; exact hstate)
          (by rw [State.setLink_link_same]; exact hqueue) (by rw [State.setLink_link_same])
          (by rw [State.setLink_link_same]; exact hrecall)]
        rw [State.setEngine_link, State.setLink_link_same]
        exact LinkPort.tornDown_state_ne _
      · refine .inl ?_
        rw [checkTeardownEnd_of_missing (.inr (.inr (by rw [State.setLink_link_same]; exact Bool.eq_false_iff.2 hrecall))),
          State.setLink_link_same]
    · refine .inl ?_
      rw [checkTeardownEnd_of_missing (.inl (by rw [State.setLink_link_same]; exact Bool.eq_false_iff.2 hqueue)),
        State.setLink_link_same]

/-- A turn without a frame to find is the engine's report, and it ends a teardown that waits for it only. -/
theorem teardownScan_endsTeardown {n : Nat} {w : Bool} (hop : s.operating = true) (hserves : s.serves p = true)
    (hstate : (s.link p).state = .detaching) (hqueue : (s.link p).queueEmptyReport = true)
    (hrecall : (s.link p).recallReport = true) (hscan : s.engine.teardown.get p = .scanning n w)
    (hitem : s.hasItem p = false) :
    ∃ t, exec (.teardownScan p) s = .next t ∧ t.link p = (s.link p).tornDown ∧ t.engine.teardown.get p = .idle := by
  refine ⟨_, exec_teardownScan_of_scanning hop hserves hstate hscan, ?_⟩
  rw [scanTurn_of_none fun g _ _ j hj => record_items_of_no_item (s := movePointer (sourceOf p) s) hitem j
    (List.mem_of_mem_filter hj)]
  exact engineTeardownReport_ends (by exact hstate) (Quad.get_set_same _ _ _) (by exact hitem) (by exact hqueue)
    (by exact hrecall)

/-- The completion of the last record of `p` makes the Recall Unit's report, and the engine's with it when no item of
`p` is left. -/
theorem takeCompletion_endsTeardown {r : RecallRecord} (hstate : (s.link r.port).state = .detaching)
    (hqueue : (s.link r.port).queueEmptyReport = true) (hscan : s.engine.teardown.get r.port = .finished)
    (hlast : ∀ x ∈ s.recalls.table, x.port = r.port → x.recallId = r.recallId)
    (hitem : (takeCompletion r s).hasItem r.port = false) :
    (takeCompletion r s).link r.port = (s.link r.port).tornDown ∧
      (takeCompletion r s).engine.teardown.get r.port = .idle := by
  rw [(takeCompletion_step r s).hasItem] at hitem
  have hlink : (s.recallTaken r).link r.port = s.link r.port :=
    recallTaken_link_of_not_attached (by rw [hstate]; nofun)
  have hfinished : (s.recallTaken r).engine.teardown.get r.port = .finished := by
    rw [State.recallTaken, clearWaiting_teardown, completeOrigin_engine, removeMapping_teardown]
    show (s.engine.teardown.get r.port).woken = _
    rw [hscan]
    rfl
  have hnone : ((s.recallTaken r).recalls.table.any fun x => x.port == r.port) = false := by
    rw [recallTaken_recalls, removeMapping_recalls_table]
    show (s.recalls.table.filter fun x => !(x.recallId == r.recallId)).any _ = false
    simp only [List.any_eq_false, List.mem_filter]
    rintro x ⟨hx, hne⟩ hport
    have hid := hlast x hx (by simpa using hport)
    simp [hid] at hne
  rw [← hlink] at hstate hqueue
  rw [takeCompletion_eq, ← hlink]
  cases hengine : ((s.recallTaken r).link r.port).engineReport with
  | true =>
    have hended := recallTeardownReport_ends hstate hnone hqueue hengine
    rw [engineTeardownReport_of_not_detaching (by rw [hended.1]; exact LinkPort.tornDown_state_ne _)]
    exact hended
  | false =>
    rw [recallTeardownReport_of_made hstate hnone,
      checkTeardownEnd_of_missing (.inr (.inl (by rw [State.setLink_link_same]; exact hengine)))]
    obtain ⟨htorn, hidle⟩ := engineTeardownReport_ends
      (s := (s.recallTaken r).setLink r.port { (s.recallTaken r).link r.port with recallReport := true })
      (by rw [State.setLink_link_same]; exact hstate) hfinished hitem (by rw [State.setLink_link_same]; exact hqueue)
      (by rw [State.setLink_link_same])
    refine ⟨htorn.trans ?_, hidle⟩
    rw [State.setLink_link_same]
    rfl

end

/-- Settles O34. -/
theorem teardownScansThenEnds : Obligations.TeardownScansThenEnds := by
  unfold Obligations.TeardownScansThenEnds
  refine ⟨fun p n w s hop hserves hstate hscan hw => ⟨fun f i hn hf hbefore hi => ?_, fun hnone => ?_⟩,
    fun p s hstate => ⟨fun hqueue hengine hrecall => ?_, checkTeardownEnd_of_missing, fun hop => ⟨?_, ?_, ?_⟩⟩⟩
  · have hexec := exec_teardownScan_of_scanning hop hserves hstate hscan
    have hfound := scanTurn_of_found (s := movePointer (sourceOf p) s) hn hf hbefore hi
    have hport : i.port = p := by simpa using List.find?_some hi
    rw [hfound] at hexec
    refine ⟨fun hfew => ?_, fun henough => ⟨_, hexec, ?_⟩⟩
    · rw [hexec, scanFrame_of_few_records (s := movePointer (sourceOf p) s) (by exact hfew)]
      rfl
    · cases hrole : i.role with
      | reader =>
        rw [hrole] at henough
        rw [scanFrame_of_enough.1 hrole (by exact henough)]
        refine ⟨fun hmore => (scanPast_spec ..).1 ?_, fun g hg => ?_, fun _ => ⟨?_, ?_⟩, nofun⟩
        · exact hmore
        · rw [scanPast_record, recallItem_record_ne hg]
          rfl
        · rw [scanPast_record, recallItem_record_of_wf (by exact hw), hport]
          rfl
        · rw [(scanPast_spec ..).2.2, recallItem_table, newRecall_of_scan hport hrole]
          exact List.drop_left
      | holder =>
        rw [hrole] at henough
        rw [scanFrame_of_enough.2 hrole (by exact henough)]
        have hrecord (g : Nat) := (scanPast_record p f g _).trans
          (enterRecalling_record f .teardown false teardownReason (s := movePointer (sourceOf p) s) hw g)
        have hpop : (enterRecalling f .teardown false teardownReason (movePointer (sourceOf p) s)).pop = s.pop :=
          Block.same_of_outside (b := .population) (s := movePointer (sourceOf p) s) (enterRecalling_outside
            (bs := [.links, .engine, .recalls, .mapUnit]) _ (by simp) (by simp) (by simp) (by simp) f _ _ _) (by simp)
        refine ⟨fun hmore => (scanPast_spec ..).1 ?_, fun g hg => ?_, nofun, fun _ => ?_⟩
        · rw [State.frames, hpop]
          exact hmore
        · rw [hrecord, if_neg hg]
          rfl
        · rw [hrecord, if_pos rfl, (scanPast_spec ..).2.2]
          refine ⟨rfl, rfl, fun j hj => ?_, ?_⟩
          · obtain ⟨k, -, rfl⟩ := List.mem_map.1 hj
            rfl
          · have hpurposes := enterRecalling_new_purposes f .teardown false teardownReason (movePointer (sourceOf p) s)
            have hshort := congrArg (List.map fun x => (x.2.1, x.2.2.1, x.2.2.2.2.1, x.2.2.2.2.2)) hpurposes
            rw [List.map_map, List.map_map] at hshort
            refine hshort.trans (List.map_congr_left fun j _ => ?_)
            show (j.port, j.hpn, (teardownReason j).1, (teardownReason j).2) = _
            cases hj : j.role <;> simp [teardownReason, hj]
  · refine ⟨_, exec_teardownScan_of_scanning hop hserves hstate hscan, ?_⟩
    obtain ⟨hwaits, hreports⟩ := scanTurn_finished (s := movePointer (sourceOf p) s) hstate hnone
    refine ⟨hwaits, hreports, ?_, ?_⟩
    · rw [scanTurn_of_none (by exact hnone), (engineTeardownReport_step ..).directory]
      rfl
    · rw [scanTurn_of_none (by exact hnone)]
      obtain ⟨l, q, heq, -⟩ := engineTeardownReport_step p (setScan p .finished (movePointer (sourceOf p) s))
      rw [heq]
      rfl
  · rw [checkTeardownEnd_of_all hstate hqueue hengine hrecall]
    exact State.setLink_link_same _ _ _
  · intro e f g n got r pl hengine hrecall hqueue htag hplace hissued hlast hnext
    exact lineResult_endsTeardown hop hstate hengine hrecall hqueue htag hplace hissued hlast hnext
  · intro n w hqueue hrecall hserves hscan hitem _
    exact teardownScan_endsTeardown hop hserves hstate hqueue hrecall hscan hitem
  · intro r hqueue hscan hready hport hreported hr hlast
    subst hport
    exact ⟨_, exec_recallCompletionReport_of_reported hop hready hreported hr,
      takeCompletion_endsTeardown hstate hqueue hscan hlast⟩

end Sys2Proof.Machine
end

section
/-! O33: the Allocation Engine takes a teardown. Its three parts are the burst of the Claim Queue, the offers that name the
port, and the filling of the Notice Queue places that freed. -/

namespace Sys2Proof.Machine

/-! ### Filling freed places (R93) -/

section
variable {x q : PortId} {s : State}

theorem fillPending_notices_append (x q : PortId) (s : State) :
    ∃ ns, ((fillPending x s).link q).notices = (s.link q).notices ++ ns ∧ ns.length ≤ 1 ∧
      ∀ n ∈ ns, ∀ gid, n.isOffer gid = false := by
  by_cases hq : q = x
  · subst hq
    obtain ⟨-, h⟩ | ⟨rid, rest, -, -, -, h⟩ | ⟨rid, rest, r, -, -, -, h⟩ := fillPending_cases q s
    · exact ⟨[], by rw [h, List.append_nil], by simp, by simp⟩
    · exact ⟨[], by rw [h, List.append_nil]; rfl, by simp, by simp⟩
    · refine ⟨[r.notice], ?_, by simp, by simp [r.isOffer_notice]⟩
      rw [h]
      exact congrArg LinkPort.notices (State.setLink_link_same _ _ _)
  · exact ⟨[], by rw [(fillPending_noticesOnly x s).otherLinks q hq, List.append_nil], by simp, by simp⟩

theorem fillPending_link_of_full (hfull : s.noticeRoom q = false) : (fillPending x s).link q = s.link q := by
  by_cases hq : q = x
  · subst hq
    obtain ⟨-, h⟩ | ⟨rid, rest, -, hroom, -⟩ | ⟨rid, rest, r, -, hroom, -⟩ := fillPending_cases q s
    · rw [h]
    · rw [hfull] at hroom
      cases hroom
    · rw [hfull] at hroom
      cases hroom
  · exact (fillPending_noticesOnly x s).otherLinks q hq

theorem noticeRoom_of_link {t : State} (h : t.link q = s.link q) : t.noticeRoom q = s.noticeRoom q := by
  rw [State.noticeRoom, State.noticeRoom, h]

theorem fillPending_told (x : PortId) (s : State) : PortsTold s (fillPending x s) := by
  refine .of_noticesOnly (fillPending_noticesOnly x s) fun n hn => ?_
  obtain ⟨ns, h, -, hns⟩ := fillPending_notices_append x x s
  rw [h, List.mem_append] at hn
  exact hn.imp id (hns n)

/-- Of the ports an event reaches only their Notice Queues, to which it adds what are no OFFER notices, and none where there
is no room. -/
structure NoticesFilled (s t : State) : Prop where
  told : PortsTold s t
  engine : t.engine = s.engine
  outbound : ∀ q, (t.link q).outbound = (s.link q).outbound
  notices : ∀ q, (s.link q).notices ⊆ (t.link q).notices
  full : ∀ q, s.noticeRoom q = false → t.link q = s.link q

theorem NoticesFilled.refl (s : State) : NoticesFilled s s :=
  ⟨.of_links rfl, rfl, fun _ => rfl, fun _ => List.Subset.refl _, fun _ _ => rfl⟩

theorem NoticesFilled.trans {s t u : State} (h : NoticesFilled s t) (h' : NoticesFilled t u) : NoticesFilled s u where
  told := h.told.trans h'.told
  engine := h'.engine.trans h.engine
  outbound q := (h'.outbound q).trans (h.outbound q)
  notices q := List.Subset.trans (h.notices q) (h'.notices q)
  full q hfull := (h'.full q ((noticeRoom_of_link (h.full q hfull)).trans hfull)).trans (h.full q hfull)

theorem NoticesOnly.outbound {t : State} (h : NoticesOnly x s t) (q : PortId) :
    (t.link q).outbound = (s.link q).outbound := by
  by_cases hq : q = x
  · subst hq
    rw [h.link]
  · rw [h.otherLinks q hq]

theorem fillPending_filled (x : PortId) (s : State) : NoticesFilled s (fillPending x s) where
  told := fillPending_told x s
  engine := (fillPending_noticesOnly x s).engine
  outbound := (fillPending_noticesOnly x s).outbound
  notices q := by
    obtain ⟨ns, h, -⟩ := fillPending_notices_append x q s
    rw [h]
    exact List.subset_append_left _ _
  full _ := fillPending_link_of_full

theorem fillPendingTimes_filled (x : PortId) (n : Nat) (s : State) : NoticesFilled s (fillPendingTimes x n s) := by
  induction n generalizing s with
  | zero => exact .refl s
  | succ n ih => exact (fillPending_filled x s).trans (ih _)

theorem fillAllPending_filled (s : State) : NoticesFilled s (fillAllPending s) :=
  List.foldlRecOn (motive := fun u : State => NoticesFilled s u) _ _ (.refl s)
    fun _ h _ _ => h.trans (fillPendingTimes_filled ..)

end

/-! ### The target informed, whatever the Recall Unit does first (R79, R80, R93) -/

section
variable {fill : Bool} {o : Offer} {cause : WithdrawnCause} {s : State}

theorem informTarget_cases (fill : Bool) (o : Offer) (cause : WithdrawnCause) (s : State) :
    informTarget fill o cause s = informTarget true o cause s ∨
      (o.sent = false ∧ informTarget fill o cause s = removeNotice o.toPort (Notice.isOffer o.grantId) s) := by
  cases fill with
  | true => exact .inl rfl
  | false =>
    cases hsent : o.sent with
    | true => exact .inl (by simp [informTarget, hsent])
    | false => exact .inr ⟨rfl, by simp [informTarget, hsent]⟩

theorem removeNotice_noticesOnly (p : PortId) (isIt : Notice → Bool) (s : State) :
    NoticesOnly p s (removeNotice p isIt s) := NoticesOnly.setNotices p _ s

theorem removeNotice_told (p : PortId) (isIt : Notice → Bool) (s : State) : PortsTold s (removeNotice p isIt s) := by
  refine .of_noticesOnly (removeNotice_noticesOnly p isIt s) fun n hn => .inl ?_
  rw [removeNotice_notices] at hn
  exact List.mem_of_mem_filter hn

theorem informTarget_noticesOnly' (fill : Bool) : NoticesOnly o.toPort s (informTarget fill o cause s) := by
  obtain h | ⟨-, h⟩ := informTarget_cases fill o cause s
  · rw [h]
    exact informTarget_noticesOnly ..
  · rw [h]
    exact removeNotice_noticesOnly ..

theorem informTarget_told' (fill : Bool) : PortsTold s (informTarget fill o cause s) := by
  obtain h | ⟨-, h⟩ := informTarget_cases fill o cause s
  · rw [h]
    exact informTarget_told ..
  · rw [h]
    exact removeNotice_told ..

theorem informTarget_of_sent' (hsent : o.sent = true) : informTarget fill o cause s =
    if s.noticeRoom o.toPort then appendNotice o.toPort (.withdrawn o.grantId cause) s else s :=
  if_pos hsent

theorem informTarget_of_unsent_notices (hsent : o.sent = false) :
    ∃ ns, ((informTarget fill o cause s).link o.toPort).notices =
        ((s.link o.toPort).notices.filter fun n => !n.isOffer o.grantId) ++ ns ∧
      (∀ n ∈ ns, ∀ gid, n.isOffer gid = false) ∧
      ((informTarget fill o cause s).link o.toPort).notices.length ≤ (s.link o.toPort).notices.length := by
  have hfilter := List.length_filter_le (fun n : Notice => !n.isOffer o.grantId) (s.link o.toPort).notices
  obtain h | ⟨-, h⟩ := informTarget_cases fill o cause s
  · rw [h, informTarget_of_unsent o s hsent, removeNoticeAndFill]
    by_cases hany : (s.link o.toPort).notices.any (Notice.isOffer o.grantId) = true
    · rw [if_pos hany]
      obtain ⟨ns, hns, hone, hnone⟩ := fillPending_notices_append o.toPort o.toPort
        (removeNotice o.toPort (Notice.isOffer o.grantId) s)
      rw [removeNotice_notices] at hns
      refine ⟨ns, hns, hnone, ?_⟩
      have hless : ((s.link o.toPort).notices.filter fun n => !n.isOffer o.grantId).length <
          (s.link o.toPort).notices.length := by
        obtain ⟨n, hn, hoffer⟩ := List.any_eq_true.1 hany
        exact List.length_filter_lt_length_iff_exists.2 ⟨n, hn, by simp [hoffer]⟩
      rw [hns, List.length_append]
      omega
    · rw [if_neg hany]
      refine ⟨[], ?_, by simp, le_rfl⟩
      rw [List.append_nil, List.filter_eq_self.2]
      intro n hn
      by_contra hoffer
      exact hany (List.any_eq_true.2 ⟨n, hn, by simpa using hoffer⟩)
  · rw [h, removeNotice_notices]
    exact ⟨[], (List.append_nil _).symm, by simp, hfilter⟩

end

/-! ### An offer that names the port (R86) -/

section
variable {p : PortId} {fill : Bool} {o : Offer} {s : State}

theorem teardownOffer_of_from (h : o.fromPort = p) :
    teardownOffer p fill s o = informTarget fill o .withdrawal (resolveOffer o .withdrawn s) := if_pos h

theorem teardownOffer_of_to (h : o.fromPort ≠ p) : teardownOffer p fill s o = resolveOffer o .targetGone s := if_neg h

theorem teardownOffer_engine : (teardownOffer p fill s o).engine =
    { s.engine with offers := s.engine.offers.filter fun x => !(x.grantId == o.grantId) } := by
  by_cases h : o.fromPort = p
  · rw [teardownOffer_of_from h, (informTarget_noticesOnly' fill).engine, resolveOffer_engine]
  · rw [teardownOffer_of_to h, resolveOffer_engine]

theorem teardownOffer_told : PortsTold s (teardownOffer p fill s o) := by
  by_cases h : o.fromPort = p
  · rw [teardownOffer_of_from h]
    exact (resolveOffer_told o s _).trans (informTarget_told' fill)
  · rw [teardownOffer_of_to h]
    exact resolveOffer_told o s _

theorem resolveOffer_outbound_of_not_attached (status : Status) {q : PortId} (hq : (s.link q).state ≠ .attached) :
    ((resolveOffer o status s).link q).outbound = (s.link q).outbound := by
  unfold resolveOffer
  by_cases h : q = o.fromPort
  · subst h
    rw [handOver_of_not_attached (by exact hq)]
    rfl
  · rw [handOver_link_ne _ _ h]
    rfl

theorem teardownOffer_outbound {q : PortId} (hq : (s.link q).state ≠ .attached) :
    ((teardownOffer p fill s o).link q).outbound = (s.link q).outbound := by
  by_cases h : o.fromPort = p
  · rw [teardownOffer_of_from h, (informTarget_noticesOnly' fill).outbound]
    exact resolveOffer_outbound_of_not_attached _ hq
  · rw [teardownOffer_of_to h]
    exact resolveOffer_outbound_of_not_attached _ hq

/-- The offer's end adds a WITHDRAWN notice at `q`: it comes from `p`, went to `q` and was sent. -/
def Offer.withdrawnAt (o : Offer) (p q : PortId) : Bool := o.fromPort == p && o.toPort == q && o.sent

/-- An offer that says nothing to `q` leaves its notices. -/
theorem teardownOffer_notices_ne {q : PortId} (h : ¬(o.fromPort = p ∧ o.toPort = q)) :
    ((teardownOffer p fill s o).link q).notices = (s.link q).notices := by
  by_cases hfrom : o.fromPort = p
  · rw [teardownOffer_of_from hfrom,
      (informTarget_noticesOnly' fill).link_notices_ne fun hq => h ⟨hfrom, hq.symm⟩]
    exact resolveOffer_notices ..
  · rw [teardownOffer_of_to hfrom]
    exact resolveOffer_notices ..

theorem teardownOffer_sent (hfrom : o.fromPort = p) (hsent : o.sent = true) :
    ((teardownOffer p fill s o).link o.toPort).notices = (s.link o.toPort).notices ++
      if s.noticeRoom o.toPort then [.withdrawn o.grantId .withdrawal] else [] := by
  have hroom : (resolveOffer o .withdrawn s).noticeRoom o.toPort = s.noticeRoom o.toPort := by
    rw [State.noticeRoom, State.noticeRoom, (resolveOffer_told o s _).state, resolveOffer_notices]
  rw [teardownOffer_of_from hfrom, informTarget_of_sent' hsent, hroom]
  by_cases h : s.noticeRoom o.toPort = true
  · rw [if_pos h, if_pos h, appendNotice_notices, resolveOffer_notices]
  · rw [if_neg h, if_neg h, resolveOffer_notices, List.append_nil]

theorem teardownOffer_unsent (hfrom : o.fromPort = p) (hsent : o.sent = false) :
    ∃ ns, ((teardownOffer p fill s o).link o.toPort).notices =
        ((s.link o.toPort).notices.filter fun n => !n.isOffer o.grantId) ++ ns ∧
      (∀ n ∈ ns, ∀ gid, n.isOffer gid = false) ∧
      ((teardownOffer p fill s o).link o.toPort).notices.length ≤ (s.link o.toPort).notices.length := by
  rw [teardownOffer_of_from hfrom, ← resolveOffer_notices o s .withdrawn]
  exact informTarget_of_unsent_notices hsent

theorem teardownOffer_length (q : PortId) : ((teardownOffer p fill s o).link q).notices.length ≤
    (s.link q).notices.length + if o.withdrawnAt p q then 1 else 0 := by
  by_cases h : o.fromPort = p ∧ o.toPort = q
  · obtain ⟨hfrom, rfl⟩ := h
    cases hsent : o.sent with
    | true =>
      have hat : o.withdrawnAt p o.toPort = true := by simp [Offer.withdrawnAt, hfrom, hsent]
      rw [teardownOffer_sent hfrom hsent, if_pos hat, List.length_append]
      split <;> simp
    | false =>
      obtain ⟨-, -, -, hlength⟩ := teardownOffer_unsent (fill := fill) (s := s) hfrom hsent
      omega
  · rw [teardownOffer_notices_ne h]
    omega

/-- A notice that is no OFFER stays in its queue. -/
theorem teardownOffer_keeps {q : PortId} {n : Notice} (hn : n ∈ (s.link q).notices) (hnever : ∀ gid, n.isOffer gid = false) :
    n ∈ ((teardownOffer p fill s o).link q).notices := by
  by_cases h : o.fromPort = p ∧ o.toPort = q
  · obtain ⟨hfrom, rfl⟩ := h
    cases hsent : o.sent with
    | true =>
      rw [teardownOffer_sent hfrom hsent]
      exact List.mem_append_left _ hn
    | false =>
      obtain ⟨ns, hns, -⟩ := teardownOffer_unsent (fill := fill) (s := s) hfrom hsent
      rw [hns]
      exact List.mem_append_left _ (List.mem_filter.2 ⟨hn, by simp [hnever]⟩)
  · rw [teardownOffer_notices_ne h]
    exact hn

end

/-! ### All offers that name the port -/

/-- The offers of the list are ended, in its order (R86). -/
def teardownOffers (p : PortId) (fill : Bool) (os : List Offer) (s : State) : State := os.foldl (teardownOffer p fill) s

section
variable {p q : PortId} {fill : Bool}

theorem teardownOffers_engine (os : List Offer) (s : State) : (teardownOffers p fill os s).engine =
    { s.engine with offers := s.engine.offers.filter fun x => os.all fun o => !(x.grantId == o.grantId) } := by
  induction os generalizing s with
  | nil => simp [teardownOffers]
  | cons o os ih =>
    refine (ih _).trans ?_
    rw [teardownOffer_engine]
    simp only [List.filter_filter, List.all_cons, Bool.and_comm]

theorem teardownOffers_told (os : List Offer) (s : State) : PortsTold s (teardownOffers p fill os s) := by
  induction os generalizing s with
  | nil => exact .of_links rfl
  | cons o os ih => exact teardownOffer_told.trans (ih _)

theorem teardownOffers_outbound (os : List Offer) {s : State} (hq : (s.link q).state ≠ .attached) :
    ((teardownOffers p fill os s).link q).outbound = (s.link q).outbound := by
  induction os generalizing s with
  | nil => rfl
  | cons o os ih =>
    exact (ih (by rw [teardownOffer_told.state]; exact hq)).trans (teardownOffer_outbound hq)

theorem teardownOffers_keeps (os : List Offer) {s : State} {n : Notice} (hn : n ∈ (s.link q).notices)
    (hnever : ∀ gid, n.isOffer gid = false) : n ∈ ((teardownOffers p fill os s).link q).notices := by
  induction os generalizing s with
  | nil => exact hn
  | cons o os ih => exact ih (teardownOffer_keeps hn hnever)

/-- The GRANT of an offer to the port completes TARGET_GONE at its holder. -/
theorem teardownOffers_targetGone {os : List Offer} {s : State} {o : Offer} (ho : o ∈ os) (hfrom : o.fromPort ≠ p)
    (hstate : (s.link o.fromPort).state = .attached) :
    grantCompletion o.tag .targetGone o.grantId ∈ ((teardownOffers p fill os s).link o.fromPort).outbound := by
  induction os generalizing s with
  | nil => cases ho
  | cons x os ih =>
    rcases List.mem_cons.1 ho with rfl | htail
    · refine (teardownOffers_told os _).outbound _ ?_
      rw [teardownOffer_of_to hfrom]
      exact handOver_mem_outbound (by exact hstate) _
    · exact ih htail (by rw [teardownOffer_told.state]; exact hstate)

/-- An OFFER that was not sent leaves the target's queue. -/
theorem teardownOffers_unsent {os : List Offer} {s : State} {o : Offer} (ho : o ∈ os) (hfrom : o.fromPort = p)
    (hsent : o.sent = false) : (teardownOffers p fill os s).noOfferNotice o.toPort o.grantId := by
  induction os generalizing s with
  | nil => cases ho
  | cons x os ih =>
    rcases List.mem_cons.1 ho with rfl | htail
    · refine (teardownOffers_told os _).noOffer _ _ fun n hn => ?_
      obtain ⟨ns, hns, hnever, -⟩ := teardownOffer_unsent (fill := fill) (s := s) hfrom hsent
      rw [hns, List.mem_append, List.mem_filter] at hn
      exact hn.elim (fun hold => by simpa using hold.2) fun hnew => hnever n hnew _
    · exact ih htail

/-- The target of a sent offer is told of its end, where its queue has room for all that are sent to it. -/
theorem teardownOffers_sent {os : List Offer} {s : State} {o : Offer} (ho : o ∈ os) (hfrom : o.fromPort = p)
    (hsent : o.sent = true) (hstate : (s.link o.toPort).state = .attached)
    (hroom : (s.link o.toPort).notices.length + os.countP (fun x => x.withdrawnAt p o.toPort) ≤ Config.noticeQueueSize) :
    .withdrawn o.grantId .withdrawal ∈ ((teardownOffers p fill os s).link o.toPort).notices := by
  induction os generalizing s with
  | nil => cases ho
  | cons x os ih =>
    rw [List.countP_cons] at hroom
    rcases List.mem_cons.1 ho with rfl | htail
    · have hat : o.withdrawnAt p o.toPort = true := by simp [Offer.withdrawnAt, hfrom, hsent]
      rw [if_pos hat] at hroom
      have hplace : s.noticeRoom o.toPort = true := by
        simp only [State.noticeRoom, hstate, decide_true, Bool.true_and, decide_eq_true_eq]
        omega
      refine teardownOffers_keeps os ?_ fun _ => rfl
      rw [teardownOffer_sent hfrom hsent, if_pos hplace]
      exact List.mem_append_right _ (List.mem_singleton_self _)
    · have hlength := teardownOffer_length (p := p) (fill := fill) (o := x) (s := s) o.toPort
      exact ih htail (by rw [teardownOffer_told.state]; exact hstate) (by omega)

/-- A full queue whose offers from the port are all sent stays as it is. -/
theorem teardownOffers_full {os : List Offer} {s : State}
    (hall : ∀ x ∈ os, x.fromPort = p → x.toPort = q → x.sent = true) (hfull : Config.noticeQueueSize ≤ (s.link q).notices.length) :
    ((teardownOffers p fill os s).link q).notices = (s.link q).notices := by
  induction os generalizing s with
  | nil => rfl
  | cons o os ih =>
    have hstays : ((teardownOffer p fill s o).link q).notices = (s.link q).notices := by
      by_cases h : o.fromPort = p ∧ o.toPort = q
      · obtain ⟨hfrom, rfl⟩ := h
        have hplace : s.noticeRoom o.toPort = false := by
          simp [State.noticeRoom, hfull]
        rw [teardownOffer_sent hfrom (hall o List.mem_cons_self hfrom rfl), hplace]
        exact List.append_nil _
      · exact teardownOffer_notices_ne h
    refine (ih (fun x hx => hall x (List.mem_cons_of_mem _ hx)) ?_).trans hstays
    rw [hstays]
    exact hfull

end

/-! ### O33 -/

/-- A burst hands nothing over to a port outside a session. -/
theorem examineClaims_outbound {q : PortId} (cs : List ParkedClaim) {s : State} (hq : (s.link q).state ≠ .attached) :
    ((examineClaims cs s).link q).outbound = (s.link q).outbound := by
  induction cs generalizing s with
  | nil => rfl
  | cons c rest ih =>
    unfold examineClaims
    split
    · rfl
    · dsimp only
      split
      · have hlink : (handOver c.port (commandCompletion c.tag .quota)
            (s.setEngine { s.engine with claims := rest })).link q = s.link q := by
          by_cases h : q = c.port
          · subst h
            rw [handOver_of_not_attached (by exact hq)]
            rfl
          · rw [handOver_link_ne _ _ h]
            rfl
        rw [ih (by rw [hlink]; exact hq), hlink]
      · have hlink : (grantClaim c.port c.tag c.hpn c.count (s.setEngine { s.engine with claims := rest })).link q =
            s.link q := by
          obtain ⟨d, m, hshape⟩ := grantClaim_shape c.port c.tag c.hpn c.count (s.setEngine { s.engine with claims := rest })
          rw [hshape]
          rfl
        rw [ih (by rw [hlink]; exact hq), hlink]

theorem removeClaims_outbound {q : PortId} (gone : ParkedClaim → Bool) {s : State} (hq : (s.link q).state ≠ .attached) :
    ((removeClaims gone s).link q).outbound = (s.link q).outbound := by
  cases h : (s.engine.claims.head?).any gone with
  | true =>
    rw [removeClaims_of_head h]
    exact examineClaims_outbound _ (by exact hq)
  | false =>
    rw [removeClaims_of_not_head h]
    rfl

theorem ClaimsServed.link_state {s t : State} (h : ClaimsServed s t) (q : PortId) : (t.link q).state = (s.link q).state := by
  obtain ⟨cs, hcs⟩ := h.links q
  rw [hcs]

theorem ClaimsServed.link_notices {s t : State} (h : ClaimsServed s t) (q : PortId) :
    (t.link q).notices = (s.link q).notices := by
  obtain ⟨cs, hcs⟩ := h.links q
  rw [hcs]

theorem ClaimsServed.offers {s t : State} (h : ClaimsServed s t) : t.engine.offers = s.engine.offers := by
  rw [h.engine]

/-- The offers that name the port. -/
def State.offersNaming (s : State) (p : PortId) : List Offer :=
  s.engine.offers.filter fun o => o.fromPort == p || o.toPort == p

theorem takeTeardown_eq (p : PortId) (s : State) : takeTeardown p s = setScan p (.scanning 1 false) (fillAllPending
    (teardownOffers p (Config.recallUnitFirst s.freeCount) ((removeClaims (fun c => c.port == p) s.useFree).offersNaming p)
      (removeClaims (fun c => c.port == p) s.useFree))) := by
  unfold takeTeardown State.offersNaming teardownOffers setScan
  rfl

theorem exec_engineTakesTeardown_of_handed {p : PortId} {s : State} (hop : s.operating = true)
    (hready : s.engineReady = true) (hhanded : s.engine.teardown.get p = .handed) :
    exec (.engineTakesTeardown p) s = .next (takeTeardown p s) := by
  show onEngine s _ = _
  rw [onEngine_of_ready hop hready, if_pos hhanded]

/-- What is left once the port's offers are ended: the places that freed are filled and the scan begins. -/
theorem setScan_fillAllPending {p : PortId} {fill : Bool} {os : List Offer} (x : ScanState) (v : State) :
    ∃ t, setScan p x (fillAllPending (teardownOffers p fill os v)) = setScan p x t ∧
      NoticesFilled (teardownOffers p fill os v) t ∧
      t.engine = { v.engine with offers := v.engine.offers.filter fun x => os.all fun o => !(x.grantId == o.grantId) } :=
  ⟨_, rfl, fillAllPending_filled _, (fillAllPending_filled _).engine.trans (teardownOffers_engine os v)⟩

/-- Settles O33. -/
theorem engineTakesTeardownEndsClaimsAndOffers : Obligations.EngineTakesTeardownEndsClaimsAndOffers := by
  unfold Obligations.EngineTakesTeardownEndsClaimsAndOffers
  intro p s hop hready hhanded hnodup
  have hserved : ClaimsServed s.useFree (removeClaims (fun c => c.port == p) s.useFree) := removeClaims_served ..
  have hclaims (c) (hc : c ∈ (removeClaims (fun c => c.port == p) s.useFree).engine.claims) : c.port ≠ p := by
    simpa using removeClaims_claims hc
  have hburst (hdetached : (s.link p).state ≠ .attached) :=
    removeClaims_outbound (q := p) (fun c => c.port == p) (s := s.useFree) hdetached
  have houtside : (takeTeardown p s).outside [.links, .engine, .mapUnit, .recalls, .freeCount] = s.outside _ :=
    takeTeardown_outside _ (by simp) (by simp) (by simp) (by simp) (by simp) p
  refine ⟨_, exec_engineTakesTeardown_of_handed hop hready hhanded, ?_⟩
  have hrequests : (takeTeardown p s).requests = s.requests := Block.same_of_outside (b := .requests) houtside (by simp)
  have hcaches : (takeTeardown p s).caches = s.caches := Block.same_of_outside (b := .caches) houtside (by simp)
  rw [takeTeardown_eq] at hrequests hcaches ⊢
  have hoffers : (removeClaims (fun c => c.port == p) s.useFree).offersNaming p = s.offersNaming p :=
    congrArg (List.filter _) hserved.offers
  rw [hoffers] at hrequests hcaches ⊢
  generalize removeClaims (fun c => c.port == p) s.useFree = v at *
  obtain ⟨t, ht, hfilled, hengine⟩ := setScan_fillAllPending (p := p) (fill := Config.recallUnitFirst s.freeCount)
    (os := s.offersNaming p) (.scanning 1 false) v
  rw [ht] at hrequests hcaches ⊢
  have hfrom {o : Offer} (ho : o ∈ s.engine.offers) (h : o.fromPort = p) : o ∈ s.offersNaming p :=
    List.mem_filter.2 ⟨ho, by simp [h]⟩
  refine ⟨Quad.get_set_same _ _ _, ?claims, fun o ho => ?offers, fun o ho hto hne hattached => ?gone,
    fun hdetached => ?outbound, fun o ho h => ⟨fun hsent => ?unsent, fun hsent hattached hroom => ?sent,
      fun hall hfull => ?full⟩, fun f hf => ?records, hrequests, hcaches⟩
  case claims =>
    show ∀ c ∈ t.engine.claims, _
    rw [hengine]
    exact hclaims
  case offers =>
    replace ho : o ∈ t.engine.offers := ho
    rw [hengine] at ho
    obtain ⟨hmem, hall⟩ := List.mem_filter.1 ho
    rw [hserved.offers] at hmem
    by_contra hnames
    have hnamed : o ∈ s.offersNaming p := List.mem_filter.2 ⟨hmem, by
      by_contra hnot
      simp only [Bool.or_eq_true, beq_iff_eq, not_or] at hnot
      exact hnames hnot⟩
    simpa using List.all_eq_true.1 hall o hnamed
  case gone =>
    show _ ∈ (t.link o.fromPort).outbound
    rw [hfilled.outbound]
    exact teardownOffers_targetGone (List.mem_filter.2 ⟨ho, by simp [hto]⟩) hne (by rw [hserved.link_state]; exact hattached)
  case outbound =>
    show (t.link p).outbound = _
    rw [hfilled.outbound, teardownOffers_outbound _ (by rw [hserved.link_state]; exact hdetached)]
    exact hburst hdetached
  case unsent => exact hfilled.told.noOffer _ _ (teardownOffers_unsent (hfrom ho h) h hsent)
  case sent =>
    refine hfilled.notices _ (teardownOffers_sent (hfrom ho h) h hsent (by rw [hserved.link_state]; exact hattached) ?_)
    rw [hserved.link_notices, State.offersNaming, List.countP_filter]
    refine le_trans (Nat.add_le_add_left (List.countP_mono_left fun x _ hx => ?_) _) hroom
    simp only [Bool.and_eq_true] at hx
    exact hx.1
  case full =>
    have hkept := teardownOffers_full (p := p) (fill := Config.recallUnitFirst s.freeCount) (s := v) (q := o.toPort)
      (os := s.offersNaming p) (fun x hx => hall x (List.mem_of_mem_filter hx)) (by rw [hserved.link_notices]; exact hfull)
    rw [hserved.link_notices] at hkept
    show (t.link o.toPort).notices = _
    rw [hfilled.full]
    · exact hkept
    · simp only [State.noticeRoom, hkept, Bool.and_eq_false_iff, decide_eq_false_iff_not, not_lt]
      exact .inr hfull
  case records =>
    have hdirectory : t.engine.directory = v.engine.directory := by rw [hengine]
    refine (State.record_of_directory (t := setScan p (.scanning 1 false) t) hdirectory f).trans (hserved.records hnodup f fun hn => hf ⟨hn.1, ?_⟩)
    show f ∉ t.engine.freeList
    rw [hengine]
    exact hn.2

end Sys2Proof.Machine
end

section
/-! The Request Unit: the sweep of the ordering conditions, the end of an event that made entries DONE (R118, R119, R120,
R123), and the translation of one entry (R43). -/

namespace Sys2Proof.Machine

/-! ### The ordering conditions -/

/-- The entry's condition is met: it is a WAITING FENCE or DETACH with every earlier entry DONE, or a WAITING FLUSH with
every earlier WRITE and CSWAP DONE. -/
def ReqEntry.met (e : ReqEntry) (all writes : Bool) : Bool :=
  decide (e.state = .waiting) && ((holdsBack e.kind && all) || (decide (e.kind = .flush) && writes))

/-- The entry once its condition was looked at. -/
def ReqEntry.swept (e : ReqEntry) (all writes : Bool) : ReqEntry :=
  if e.met all writes then { e with state := .done .ok Gathered.nothing } else e

/-- The entry holds back no FLUSH: it is DONE, or neither a WRITE nor a CSWAP (R119). -/
def ReqEntry.letsFlush (e : ReqEntry) : Bool := e.isDone || !isWriting e.kind

section
variable {e : ReqEntry} {all writes : Bool}

theorem sweepQueue_cons (q : List ReqEntry) : sweepQueue all writes (e :: q) =
    e.swept all writes :: sweepQueue (all && (e.swept all writes).isDone) (writes && (e.swept all writes).letsFlush) q := rfl

theorem ReqEntry.swept_of_not_waiting (h : e.state ≠ .waiting) : e.swept all writes = e :=
  if_neg (by simp [ReqEntry.met, h])

theorem ReqEntry.swept_of_place (h : (placeOf e.kind).isSome = true) : e.swept all writes = e := by
  refine if_neg ?_
  cases hkind : e.kind <;> simp [ReqEntry.met, holdsBack, hkind] <;> simp [hkind, placeOf] at h

theorem ReqEntry.swept_tag : (e.swept all writes).tag = e.tag := by
  unfold ReqEntry.swept
  split <;> rfl

theorem ReqEntry.swept_kind : (e.swept all writes).kind = e.kind := by
  unfold ReqEntry.swept
  split <;> rfl

theorem ReqEntry.isDone_not_waiting (h : e.isDone = true) : e.state ≠ .waiting := by
  intro hstate
  simp [ReqEntry.isDone, hstate] at h

/-- The sweep of a queue in two parts. -/
theorem sweepQueue_append (q q' : List ReqEntry) : sweepQueue all writes (q ++ q') =
    sweepQueue all writes q ++ sweepQueue (all && (sweepQueue all writes q).all ReqEntry.isDone)
      (writes && (sweepQueue all writes q).all ReqEntry.letsFlush) q' := by
  induction q generalizing all writes with
  | nil => simp [sweepQueue]
  | cons e q ih =>
    rw [List.cons_append, sweepQueue_cons, ih, sweepQueue_cons, List.cons_append, List.all_cons, List.all_cons,
      Bool.and_assoc, Bool.and_assoc]

theorem sweepQueue_length (q : List ReqEntry) : (sweepQueue all writes q).length = q.length := by
  induction q generalizing all writes with
  | nil => rfl
  | cons e q ih => rw [sweepQueue_cons, List.length_cons, List.length_cons, ih]

/-- An entry of the queue, swept by the conditions of the entries before it. -/
theorem sweepQueue_getElem? (q : List ReqEntry) (k : Nat) : (sweepQueue all writes q)[k]? = q[k]?.map fun e =>
    e.swept (all && ((sweepQueue all writes q).take k).all ReqEntry.isDone)
      (writes && ((sweepQueue all writes q).take k).all ReqEntry.letsFlush) := by
  induction q generalizing all writes k with
  | nil => rfl
  | cons e q ih =>
    cases k with
    | zero => simp [sweepQueue_cons]
    | succ k => simp only [sweepQueue_cons, List.getElem?_cons_succ, ih, List.take_succ_cons, List.all_cons, Bool.and_assoc]

theorem sweepQueue_of_done {q : List ReqEntry} (h : q.all ReqEntry.isDone = true) : sweepQueue all writes q = q := by
  induction q generalizing all writes with
  | nil => rfl
  | cons e q ih =>
    rw [List.all_cons, Bool.and_eq_true] at h
    rw [sweepQueue_cons, ReqEntry.swept_of_not_waiting (ReqEntry.isDone_not_waiting h.1), ih h.2]

theorem sweepQueue_tags (q : List ReqEntry) : (sweepQueue all writes q).map ReqEntry.tag = q.map ReqEntry.tag := by
  induction q generalizing all writes with
  | nil => rfl
  | cons e q ih => rw [sweepQueue_cons, List.map_cons, List.map_cons, ReqEntry.swept_tag, ih]

/-- An entry that reaches into the window is not touched by a sweep. -/
theorem mem_sweepQueue_of_place {q : List ReqEntry} (h : e ∈ q) (hplace : (placeOf e.kind).isSome = true) :
    e ∈ sweepQueue all writes q := by
  induction q generalizing all writes with
  | nil => cases h
  | cons b q ih =>
    rw [sweepQueue_cons]
    rcases List.mem_cons.1 h with rfl | htail
    · rw [ReqEntry.swept_of_place hplace]
      exact List.mem_cons_self
    · exact List.mem_cons_of_mem _ (ih htail)

end

theorem placeOf_of_writing {kind : ReqKind} (h : isWriting kind = true) : (placeOf kind).isSome = true := by
  cases kind <;> first | rfl | cases h

/-! ### The end of an event (R123) -/

/-- The Link Port after the completions were handed over in this order. -/
def LinkPort.handed (l : LinkPort) (cs : List Completion) : LinkPort :=
  if l.state = .attached then { l with outbound := l.outbound ++ cs } else l

theorem LinkPort.handed_of_attached {l : LinkPort} (h : l.state = .attached) (cs : List Completion) :
    l.handed cs = { l with outbound := l.outbound ++ cs } := if_pos h

theorem LinkPort.handed_of_not_attached {l : LinkPort} (h : l.state ≠ .attached) (cs : List Completion) :
    l.handed cs = l := if_neg h

theorem handOverAll_eq (p : PortId) (cs : List Completion) (s : State) :
    handOverAll p cs s = s.setLink p ((s.link p).handed cs) := by
  by_cases h : (s.link p).state = .attached
  · rw [LinkPort.handed_of_attached h]
    induction cs generalizing s with
    | nil =>
      rw [List.append_nil]
      exact (State.setLink_link_self ..).symm
    | cons c cs ih =>
      have hlink : (handOver p c s).link p = { s.link p with outbound := (s.link p).outbound ++ [c] } := by
        rw [handOver_of_attached h, State.setLink_link_same]
      refine (ih (handOver p c s) (by rw [hlink]; exact h)).trans ?_
      rw [hlink, handOver_of_attached h, List.append_assoc, List.singleton_append]
      simp [State.setLink]
  · rw [LinkPort.handed_of_not_attached h, State.setLink_link_self]
    induction cs generalizing s with
    | nil => rfl
    | cons c cs ih =>
      have hkept : handOver p c s = s := handOver_of_not_attached h c
      exact (congrArg (handOverAll p cs) hkept).trans (ih s h)

/-- The completions that the end of an event hands over for a queue that was `before`. -/
def settledCompletions (before q : List ReqEntry) : List Completion :=
  (newlyDone before (sweepQueue true true q)).filterMap ReqEntry.completion

theorem settlePort_eq (p : PortId) (before : List ReqEntry) (s : State) : settlePort p before s =
    (s.setQueue p (sweepQueue true true (s.queue p))).setLink p
      ((s.link p).handed (settledCompletions before (s.queue p))) := handOverAll_eq ..

section
variable {p q : PortId} {before : List ReqEntry} {s : State}

theorem settlePort_queue : (settlePort p before s).queue p = sweepQueue true true (s.queue p) := by
  rw [settlePort_eq, State.setLink_queue, State.setQueue_queue_same]

theorem settlePort_link :
    (settlePort p before s).link p = (s.link p).handed (settledCompletions before (s.queue p)) := by
  rw [settlePort_eq, State.setLink_link_same]

theorem settlePort_samePort (hq : q ≠ p) : samePort q s (settlePort p before s) := by
  rw [settlePort_eq]
  refine ⟨?_, ?_, rfl⟩
  · rw [State.setLink_link_ne _ _ hq]
    rfl
  · rw [State.setLink_queue, State.setQueue_queue_ne _ _ hq]

theorem settlePort_cache : (settlePort p before s).cache q = s.cache q := by
  rw [settlePort_eq]
  rfl

theorem settlePort_walker : (settlePort p before s).walker = s.walker := by
  rw [settlePort_eq]
  rfl

theorem settlePort_mapUnit : (settlePort p before s).mapUnit = s.mapUnit := by
  rw [settlePort_eq]
  rfl

theorem settlePort_caches : (settlePort p before s).caches = s.caches := by
  rw [settlePort_eq]
  rfl

end

/-! ### Which entries are newly DONE -/

theorem newlyDone_append (before q q' : List ReqEntry) :
    newlyDone before (q ++ q') = newlyDone before q ++ newlyDone before q' := List.filter_append ..

theorem newlyDone_of_new {before : List ReqEntry} {e : ReqEntry} (hnew : ∀ b ∈ before, b.tag ≠ e.tag) :
    newlyDone before [e] = if e.isDone then [e] else [] := by
  have hnone : (before.any fun b => b.tag == e.tag && b.isDone) = false := by
    simp only [List.any_eq_false]
    intro b hb
    simp [hnew b hb]
  cases h : e.isDone <;> simp [newlyDone, h, hnone]

theorem newlyDone_self {before : List ReqEntry} (h : before.all ReqEntry.isDone = true) : newlyDone before before = [] := by
  refine List.filter_eq_nil_iff.2 fun e he => ?_
  have hdone := List.all_eq_true.1 h e he
  have hany : (before.any fun b => b.tag == e.tag && b.isDone) = true := List.any_eq_true.2 ⟨e, he, by simp [hdone]⟩
  simp [hany]

/-! ### Setting an entry's state -/

section
variable {p : PortId} {before : List ReqEntry} {e : ReqEntry} {s : State}

theorem State.entry_last (hqueue : s.queue p = before ++ [e]) (hnew : ∀ b ∈ before, b.tag ≠ e.tag) :
    s.entry p e.tag = some e := by
  rw [State.entry, hqueue, List.find?_append, List.find?_eq_none.2 (by simpa using hnew)]
  simp

theorem setEntryState_last (hqueue : s.queue p = before ++ [e]) (hnew : ∀ b ∈ before, b.tag ≠ e.tag) (st : ReqState) :
    setEntryState p e.tag st s = s.setQueue p (before ++ [{ e with state := st }]) := by
  have hbefore : (before.map fun b => if b.tag = e.tag then { b with state := st } else b) = before := by
    conv_rhs => rw [← List.map_id before]
    exact List.map_congr_left fun b hb => if_neg (hnew b hb)
  rw [setEntryState, hqueue, List.map_append, hbefore]
  simp

end

/-! ### Translation of one entry (R43) -/

section
variable {p : PortId} {e : ReqEntry} {pl : Place} {s : State}

theorem translate_of_no_entry {tag : Nat} (h : s.entry p tag = none) : translate p tag s = s := by
  simp only [translate, h]

theorem translate_of_no_place {tag : Nat} (he : s.entry p tag = some e) (hplace : placeOf e.kind = none) :
    translate p tag s = s := by
  simp only [translate, he, hplace]

theorem translate_of_hit {tag : Nat} {c : CacheEntry} (he : s.entry p tag = some e) (hplace : placeOf e.kind = some pl)
    (hc : (s.cache p).find? (fun c => c.hpn == pl.hpn) = some c) : translate p tag s =
      setEntryState p tag (accessCheck e.kind c.frame c.access)
        (leaveRetry p tag (s.setCache p (c :: (s.cache p).filter fun c' => !(c'.hpn == pl.hpn)))) := by
  simp only [translate, he, hplace, hc]

theorem translate_of_walk {tag : Nat} (he : s.entry p tag = some e) (hplace : placeOf e.kind = some pl)
    (hc : (s.cache p).find? (fun c => c.hpn == pl.hpn) = none) (hwalk : s.hasWalk p pl.hpn = true) :
    translate p tag s = setEntryState p tag .walking (leaveRetry p tag s) := by
  simp only [translate, he, hplace, hc, if_pos hwalk]

theorem translate_of_room {tag : Nat} (he : s.entry p tag = some e) (hplace : placeOf e.kind = some pl)
    (hc : (s.cache p).find? (fun c => c.hpn == pl.hpn) = none) (hwalk : s.hasWalk p pl.hpn = false)
    (hroom : s.walker.walks.length < Config.walkQueueSize) :
    translate p tag s = setEntryState p tag .walking (leaveRetry p tag (createWalk p pl.hpn s)) := by
  simp only [translate, he, hplace, hc, hwalk, Bool.false_eq_true, if_false, if_pos hroom]

theorem translate_of_full {tag : Nat} (he : s.entry p tag = some e) (hplace : placeOf e.kind = some pl)
    (hc : (s.cache p).find? (fun c => c.hpn == pl.hpn) = none) (hwalk : s.hasWalk p pl.hpn = false)
    (hfull : Config.walkQueueSize ≤ s.walker.walks.length) : translate p tag s = joinRetry p tag s := by
  simp only [translate, he, hplace, hc, hwalk, Bool.false_eq_true, if_false, if_neg (Nat.not_lt.2 hfull)]

theorem joinRetry_mem (p : PortId) (tag : Nat) (s : State) : (p, tag) ∈ (joinRetry p tag s).walker.retry := by
  unfold joinRetry
  split
  · next h =>
    obtain ⟨⟨q, x⟩, hmem, hr⟩ := List.any_eq_true.1 h
    simp only [Bool.and_eq_true, beq_iff_eq] at hr
    obtain ⟨rfl, rfl⟩ := hr
    exact hmem
  · exact List.mem_append_right _ (List.mem_singleton_self _)

theorem joinRetry_only_retry (p : PortId) (tag : Nat) (s : State) :
    ∃ l, joinRetry p tag s = s.setWalker { s.walker with retry := l } := by
  unfold joinRetry
  split
  · exact ⟨s.walker.retry, rfl⟩
  · exact ⟨_, rfl⟩

end

/-! ### A request's arrival -/

/-- `s` with the request's credit used and its tag outstanding (R163). -/
def State.requestTaken (s : State) (p : PortId) (tag : Nat) : State :=
  s.setLink p { s.link p with
    requestCredits := (s.link p).requestCredits - 1, tags := (s.link p).tags ++ [tag] }

/-- `s` with the entry behind the queue of `p`. -/
def State.queued (s : State) (p : PortId) (e : ReqEntry) : State := s.setQueue p (s.queue p ++ [e])

section
variable {p : PortId} {tag : Nat} {kind : ReqKind} {s : State}

theorem exec_requestCommand_of_takesRequest (h : s.takesRequest p tag kind) :
    exec (requestCommand p tag kind) s = .next (acceptRequest p tag kind (s.requestTaken p tag)) := by
  obtain ⟨⟨hop, hup, hattached⟩, hencoded, hcredits, htags, -⟩ := h
  rw [exec_requestCommand, requestEncoded, hencoded]
  rw [onArrival_of_up hop hup, (takeRequest_of_attached hattached tag kind).2.2.2 hcredits htags]
  rfl

theorem State.requestTaken_link_self : (s.requestTaken p tag).link p = { s.link p with
    requestCredits := (s.link p).requestCredits - 1, tags := (s.link p).tags ++ [tag] } := State.setLink_link_same ..

theorem State.queued_queue {e : ReqEntry} : (s.queued p e).queue p = s.queue p ++ [e] := State.setQueue_queue_same ..

/-- The request arrived and its entry came to stand as `e`: how the event ends. -/
theorem settlePort_arrived {e : ReqEntry} {t : State} (hqueue : t.queue p = s.queue p ++ [e])
    (hlink : t.link p = (s.requestTaken p e.tag).link p) (hattached : (s.link p).state = .attached)
    (hnew : ∀ b ∈ s.queue p, b.tag ≠ e.tag) (hstays : e.state ≠ .waiting ∨ (placeOf e.kind).isSome = true) :
    ((settlePort p (s.queue p) t).queue p).getLast? = some e ∧
      (∀ c, e.completion = some c → ((settlePort p (s.queue p) t).link p).outbound.getLast? = some c) ∧
      ((settlePort p (s.queue p) t).link p).requestCredits = (s.link p).requestCredits - 1 ∧
      ((settlePort p (s.queue p) t).link p).tags = (s.link p).tags ++ [e.tag] := by
  have hswept (all writes : Bool) : e.swept all writes = e :=
    hstays.elim ReqEntry.swept_of_not_waiting ReqEntry.swept_of_place
  have hsweep : sweepQueue true true (s.queue p ++ [e]) = sweepQueue true true (s.queue p) ++ [e] := by
    rw [sweepQueue_append, sweepQueue_cons, hswept]
    rfl
  rw [settlePort_queue, settlePort_link, hqueue, hsweep, hlink, State.requestTaken_link_self,
    LinkPort.handed_of_attached (by exact hattached)]
  refine ⟨List.getLast?_concat, fun c hc => ?_, rfl, rfl⟩
  have hdone : e.isDone = true := by
    cases hstate : e.state <;> simp [ReqEntry.completion, hstate] at hc
    simp [ReqEntry.isDone, hstate]
  rw [settledCompletions, hsweep, newlyDone_append, newlyDone_of_new hnew, if_pos hdone, List.filterMap_append]
  simp [hc]

end

/-! ### O13 -/

theorem outOfBounds_read_iff {hpn line count : Nat} :
    (outOfBounds.bad hpn line || outOfBounds.badCount line count) = true ↔
      8191 < hpn ∨ 32767 < line ∨ count = 0 ∨ 4 < count ∨ 32767 < line + count - 1 := by
  show ((decide (8192 ≤ hpn) || decide (32768 ≤ line)) ||
    (decide (count = 0) || decide (4 < count) || decide (32768 < line + count))) = true ↔ _
  simp only [Bool.or_eq_true, decide_eq_true_eq]
  omega

theorem outOfBounds_cswap_iff {hpn line : Nat} : outOfBounds.bad hpn line = true ↔ 8191 < hpn ∨ 32767 < line := by
  show (decide (8192 ≤ hpn) || decide (32768 ≤ line)) = true ↔ _
  simp only [Bool.or_eq_true, decide_eq_true_eq]
  omega

theorem outOfBounds_completion {kind : ReqKind} (h : outOfBounds kind = true) (tag : Nat) :
    ({ tag := tag, kind := kind, state := .done .bounds Gathered.nothing } : ReqEntry).completion =
      some { tag := tag, status := .bounds, payload := .none, answers := .request } := by
  cases kind <;> first | rfl | cases h

section
variable {p : PortId} {tag : Nat} {kind : ReqKind} {s : State}

/-- The new entry of a request, as it joins the queue. -/
def newEntry (tag : Nat) (kind : ReqKind) : ReqEntry := { tag := tag, kind := kind, state := .waiting }

theorem acceptRequest_of_out (h : outOfBounds kind = true) (hnew : ∀ b ∈ s.queue p, b.tag ≠ tag) :
    acceptRequest p tag kind (s.requestTaken p tag) = settlePort p (s.queue p)
      ((s.requestTaken p tag).queued p { tag := tag, kind := kind, state := .done .bounds Gathered.nothing }) := by
  have hset := setEntryState_last (s := (s.requestTaken p tag).queued p (newEntry tag kind)) (e := newEntry tag kind)
    State.queued_queue hnew (.done .bounds Gathered.nothing)
  unfold acceptRequest
  dsimp only
  rw [if_pos h]
  refine congrArg (settlePort p (s.queue p)) (hset.trans ?_)
  simp [State.queued, State.setQueue]
  rfl

theorem acceptRequest_of_in (h : outOfBounds kind = false) : acceptRequest p tag kind (s.requestTaken p tag) =
    settlePort p (s.queue p) (translate p tag ((s.requestTaken p tag).queued p (newEntry tag kind))) := by
  unfold acceptRequest
  dsimp only
  rw [h]
  rfl

end

/-- Settles O13. -/
theorem outOfBoundsRequestEndsBounds : Obligations.OutOfBoundsRequestEndsBounds := by
  unfold Obligations.OutOfBoundsRequestEndsBounds
  refine ⟨fun cls hpn line count granule mask data cmp new =>
    ⟨outOfBounds_read_iff, outOfBounds_read_iff, outOfBounds_cswap_iff, rfl, rfl, rfl⟩, fun p tag kind s h hout => ?_⟩
  obtain ⟨⟨-, -, hattached⟩, -, -, -, hnew⟩ := id h
  obtain ⟨hlast, houtbound, hcredits, htags⟩ := settlePort_arrived
    (s := s) (e := { tag := tag, kind := kind, state := .done .bounds Gathered.nothing })
    (t := (s.requestTaken p tag).queued p { tag := tag, kind := kind, state := .done .bounds Gathered.nothing })
    State.queued_queue rfl hattached hnew (.inl nofun)
  refine ⟨_, exec_requestCommand_of_takesRequest h, ?_⟩
  rw [acceptRequest_of_out hout hnew]
  refine ⟨hlast, houtbound _ (outOfBounds_completion hout tag), hcredits, htags, settlePort_caches, settlePort_walker,
    settlePort_mapUnit, settlePort_channels .., fun q hq => ?_⟩
  obtain ⟨hlink, hqueue, hcache⟩ := settlePort_samePort (before := s.queue p)
    (s := (s.requestTaken p tag).queued p { tag := tag, kind := kind, state := .done .bounds Gathered.nothing }) hq
  refine ⟨hlink.trans ?_, hqueue.trans ?_, hcache⟩
  · exact State.setLink_link_ne _ _ hq
  · exact State.setQueue_queue_ne _ _ hq

end Sys2Proof.Machine
end

section
/-! O14 and O15: a request that hits in the Translation Cache, and one that misses; O16 and O17: the line results and the
ordering requests that follow them. -/

namespace Sys2Proof.Machine

/-! ### A request that is translated at its arrival (R43) -/

section
variable {p : PortId} {tag : Nat} {kind : ReqKind} {pl : Place} {s : State}

/-- `s` with the request taken and its entry in the queue, before it is translated. -/
def State.arrived (s : State) (p : PortId) (tag : Nat) (kind : ReqKind) : State :=
  (s.requestTaken p tag).queued p (newEntry tag kind)

theorem State.arrived_queue : (s.arrived p tag kind).queue p = s.queue p ++ [newEntry tag kind] := State.queued_queue

theorem State.arrived_entry (hnew : ∀ b ∈ s.queue p, b.tag ≠ tag) :
    (s.arrived p tag kind).entry p tag = some (newEntry tag kind) :=
  State.entry_last (e := newEntry tag kind) State.arrived_queue hnew

theorem arrived_samePort {q : PortId} (hq : q ≠ p) : samePort q s (s.arrived p tag kind) :=
  ⟨State.setLink_link_ne _ _ hq, State.setQueue_queue_ne _ _ hq, rfl⟩

/-- A translation that gives the new entry a state and leaves its port's queue and link otherwise. -/
theorem setEntryState_arrived {v : State} (hqueue : v.queue p = s.queue p ++ [newEntry tag kind])
    (hnew : ∀ b ∈ s.queue p, b.tag ≠ tag) (st : ReqState) : setEntryState p tag st v =
      v.setQueue p (s.queue p ++ [{ tag := tag, kind := kind, state := st }]) :=
  setEntryState_last (e := newEntry tag kind) hqueue hnew st

theorem samePort.trans {q : PortId} {s t u : State} (h : samePort q s t) (h' : samePort q t u) : samePort q s u :=
  ⟨h'.1.trans h.1, h'.2.1.trans h.2.1, h'.2.2.trans h.2.2⟩

/-- What the arrival of a request that is translated leaves, from what its translation left. -/
theorem acceptRequest_translated {t : State} {e : ReqEntry} (h : s.takesRequest p tag kind)
    (hin : outOfBounds kind = false) (hplace : placeOf kind = some pl) (ht : translate p tag (s.arrived p tag kind) = t)
    (htag : e.tag = tag) (hkind : e.kind = kind) (hqueue : t.queue p = s.queue p ++ [e])
    (hlink : t.link p = (s.requestTaken p tag).link p) (hother : ∀ q, q ≠ p → samePort q s t) :
    ∃ t', exec (requestCommand p tag kind) s = .next t' ∧ (t'.queue p).getLast? = some e ∧
      (∀ c, e.completion = some c → (t'.link p).outbound.getLast? = some c) ∧
      (t'.link p).requestCredits = (s.link p).requestCredits - 1 ∧ (t'.link p).tags = (s.link p).tags ++ [tag] ∧
      t'.cache p = t.cache p ∧ t'.walker = t.walker ∧ t'.mapUnit = t.mapUnit ∧ t'.channels = s.channels ∧
      ∀ q, q ≠ p → samePort q s t' := by
  subst htag
  obtain ⟨⟨-, -, hattached⟩, -, -, -, hnew⟩ := id h
  obtain ⟨hlast, hout, hcredits, htags⟩ := settlePort_arrived hqueue hlink hattached hnew
    (.inr (by rw [hkind, hplace]; rfl))
  have hchannels : t.channels = s.channels := by
    rw [← ht]
    exact (translate_channels ..).trans rfl
  refine ⟨_, exec_requestCommand_of_takesRequest h, ?_⟩
  rw [acceptRequest_of_in hin, show (s.requestTaken p e.tag).queued p (newEntry e.tag kind) = s.arrived p e.tag kind from rfl, ht]
  exact ⟨hlast, hout, hcredits, htags, settlePort_cache, settlePort_walker, settlePort_mapUnit,
    (settlePort_channels ..).trans hchannels, fun q hq => (hother q hq).trans (settlePort_samePort hq)⟩

end

/-- Settles O14. -/
theorem cacheHitBindsOrFails : Obligations.CacheHitBindsOrFails := by
  unfold Obligations.CacheHitBindsOrFails
  intro p tag kind pl c s h hin hplace hc
  obtain ⟨-, -, -, -, hnew⟩ := id h
  have ht := translate_of_hit (State.arrived_entry hnew) hplace hc
  rw [setEntryState_arrived (s := s) (kind := kind) (by exact State.arrived_queue) hnew] at ht
  obtain ⟨t, hexec, hlast, hout, hcredits, htags, hcache, hwalker, hmap, hchannels, hother⟩ :=
    acceptRequest_translated (e := { tag := tag, kind := kind, state := accessCheck kind c.frame c.access }) h hin hplace ht
      rfl rfl (State.setQueue_queue_same ..) rfl fun q hq => (arrived_samePort hq).trans
        ⟨rfl, State.setQueue_queue_ne _ _ hq, State.setCache_cache_ne _ _ hq⟩
  refine ⟨t, hexec, fun hallowed => ?_, fun haccess hwriting => ?_, ?_, hcredits, htags, ?_, ?_, hchannels, hother⟩
  · rw [hlast]
    obtain haccess | hreading := hallowed
    · rw [haccess]
      rfl
    · cases haccess : c.access <;> simp [accessCheck, hreading]
  · have hcheck : accessCheck kind c.frame c.access = .done .protection Gathered.nothing := by
      rw [haccess]
      exact if_pos hwriting
    rw [hcheck] at hlast hout
    refine ⟨hlast, hout _ ?_⟩
    cases kind <;> first | rfl | cases hwriting
  · rw [hcache]
    exact State.setCache_cache_same ..
  · rw [hwalker]
    rfl
  · rw [hmap]
    rfl

/-- Settles O15. -/
theorem cacheMissWalks : Obligations.CacheMissWalks := by
  unfold Obligations.CacheMissWalks
  intro p tag kind pl s h hin hplace hc
  obtain ⟨-, -, -, -, hnew⟩ := id h
  have hentry : (s.arrived p tag kind).entry p tag = some (newEntry tag kind) := State.arrived_entry hnew
  cases hwalk : s.hasWalk p pl.hpn with
  | true =>
    have ht := translate_of_walk hentry hplace hc hwalk
    rw [setEntryState_arrived (s := s) (kind := kind) (by exact State.arrived_queue) hnew] at ht
    obtain ⟨t, hexec, hlast, -, hcredits, htags, hcache, hwalker, hmap, hchannels, hother⟩ :=
      acceptRequest_translated (e := { tag := tag, kind := kind, state := .walking }) h hin hplace ht rfl rfl
        (State.setQueue_queue_same ..) rfl
        fun q hq => (arrived_samePort hq).trans ⟨rfl, State.setQueue_queue_ne _ _ hq, rfl⟩
    refine ⟨t, hexec, hcache, hchannels, hcredits, htags, hother, fun _ => ⟨hlast, ?_, hmap⟩, nofun, nofun⟩
    rw [hwalker]
    rfl
  | false =>
    by_cases hroom : s.walker.walks.length < Config.walkQueueSize
    · have ht := translate_of_room hentry hplace hc hwalk hroom
      rw [setEntryState_arrived (s := s) (kind := kind) (by exact State.arrived_queue) hnew] at ht
      obtain ⟨t, hexec, hlast, -, hcredits, htags, hcache, hwalker, hmap, hchannels, hother⟩ :=
        acceptRequest_translated (e := { tag := tag, kind := kind, state := .walking }) h hin hplace ht rfl rfl
          (State.setQueue_queue_same ..) rfl
          fun q hq => (arrived_samePort hq).trans ⟨rfl, State.setQueue_queue_ne _ _ hq, rfl⟩
      refine ⟨t, hexec, hcache, hchannels, hcredits, htags, hother, nofun, fun _ _ => ⟨hlast, ?_, ?_⟩,
        fun _ hfull => absurd hroom (Nat.not_lt.2 hfull)⟩
      · rw [hwalker]
        rfl
      · rw [hmap]
        rfl
    · have ht := translate_of_full hentry hplace hc hwalk (Nat.not_lt.1 hroom)
      obtain ⟨l, hl⟩ := joinRetry_only_retry p tag (s.arrived p tag kind)
      have hretry := joinRetry_mem p tag (s.arrived p tag kind)
      rw [hl] at ht hretry
      obtain ⟨t, hexec, hlast, -, hcredits, htags, hcache, hwalker, hmap, hchannels, hother⟩ :=
        acceptRequest_translated (e := newEntry tag kind) h hin hplace ht rfl rfl State.arrived_queue rfl
          fun q hq => (arrived_samePort hq).trans ⟨rfl, rfl, rfl⟩
      refine ⟨t, hexec, hcache, hchannels, hcredits, htags, hother, nofun, fun _ h => absurd h hroom,
        fun _ _ => ⟨hlast, ?_, ?_, hmap⟩⟩
      · rw [hwalker]
        exact hretry
      · rw [hwalker]
        rfl

/-! ### An ordering request's arrival (R118, R119, R120) -/

section
variable {p : PortId} {tag : Nat} {kind : ReqKind} {s : State}

/-- An ordering request waits in the queue's last place, and its condition is looked at once. -/
theorem exec_orderingRequest (h : s.takesRequest p tag kind) (hplace : placeOf kind = none) :
    exec (requestCommand p tag kind) s = .next (settlePort p (s.queue p) (s.arrived p tag kind)) := by
  obtain ⟨-, -, -, -, hnew⟩ := id h
  have hin : outOfBounds kind = false := by
    cases kind <;> first | rfl | cases hplace
  rw [exec_requestCommand_of_takesRequest h, acceptRequest_of_in hin]
  exact congrArg (fun t => Host.Outcome.next (settlePort p (s.queue p) t))
    (translate_of_no_place (e := newEntry tag kind) (s := s.arrived p tag kind) (State.arrived_entry hnew) hplace)

theorem arrived_sweep : (settlePort p (s.queue p) (s.arrived p tag kind)).queue p = sweepQueue true true (s.queue p) ++
    [(newEntry tag kind).swept ((sweepQueue true true (s.queue p)).all ReqEntry.isDone)
      ((sweepQueue true true (s.queue p)).all ReqEntry.letsFlush)] := by
  rw [settlePort_queue, State.arrived_queue, sweepQueue_append, Bool.true_and, Bool.true_and, sweepQueue_cons]
  rfl

theorem newEntry_swept_of_holdsBack (hkind : kind = .fence ∨ kind = .detach) (all writes : Bool) :
    (newEntry tag kind).swept all writes =
      if all then { tag := tag, kind := kind, state := .done .ok Gathered.nothing } else newEntry tag kind := by
  obtain rfl | rfl := hkind <;> cases all <;> simp [ReqEntry.swept, ReqEntry.met, newEntry, holdsBack]

theorem newEntry_swept_of_flush (all writes : Bool) : (newEntry tag .flush).swept all writes =
    if writes then { tag := tag, kind := .flush, state := .done .ok Gathered.nothing } else newEntry tag .flush := by
  cases writes <;> simp [ReqEntry.swept, ReqEntry.met, newEntry, holdsBack]

/-- No sweep makes an entry let a FLUSH go by that did not before. -/
theorem ReqEntry.swept_letsFlush (e : ReqEntry) (all writes : Bool) : (e.swept all writes).letsFlush = e.letsFlush := by
  cases hwriting : isWriting e.kind with
  | true => rw [ReqEntry.swept_of_place (placeOf_of_writing hwriting)]
  | false => simp [ReqEntry.letsFlush, ReqEntry.swept_kind, hwriting]

theorem sweepQueue_all_letsFlush (q : List ReqEntry) (all writes : Bool) :
    (sweepQueue all writes q).all ReqEntry.letsFlush = q.all ReqEntry.letsFlush := by
  induction q generalizing all writes with
  | nil => rfl
  | cons e q ih => rw [sweepQueue_cons, List.all_cons, List.all_cons, ih, ReqEntry.swept_letsFlush]

/-- R118 to R120 at the arrival of an ordering request. -/
theorem orderingRequest_arrives (h : s.takesRequest p tag kind) :
    let done : ReqEntry := { tag := tag, kind := kind, state := .done .ok Gathered.nothing }
    let waits : ReqEntry := { tag := tag, kind := kind, state := .waiting }
    (kind = .fence ∨ kind = .detach →
      ((s.queue p).all ReqEntry.isDone = true →
        ∃ t, exec (requestCommand p tag kind) s = .next t ∧ t.queue p = s.queue p ++ [done] ∧
          (t.link p).outbound = (s.link p).outbound ++
            [{ tag := tag, status := .ok, payload := .none, answers := completionOf kind }]) ∧
      ((∃ e ∈ s.queue p, e.isDone = false ∧ (placeOf e.kind).isSome) →
        ∃ t, exec (requestCommand p tag kind) s = .next t ∧ (t.queue p).getLast? = some waits)) ∧
    (kind = .flush →
      ((∀ e ∈ s.queue p, isWriting e.kind = true → e.isDone = true) →
        ∃ t, exec (requestCommand p tag kind) s = .next t ∧ (t.queue p).getLast? = some done) ∧
      ((∃ e ∈ s.queue p, isWriting e.kind = true ∧ e.isDone = false) →
        ∃ t, exec (requestCommand p tag kind) s = .next t ∧ (t.queue p).getLast? = some waits)) := by
  obtain ⟨⟨-, -, hattached⟩, -, -, -, hnew⟩ := id h
  refine ⟨fun hkind => ?_, fun hkind => ?_⟩
  · have hplace : placeOf kind = none := by obtain rfl | rfl := hkind <;> rfl
    have hexec := exec_orderingRequest h hplace
    refine ⟨fun hdone => ⟨_, hexec, ?_, ?_⟩, fun ⟨e, he, hopen, hep⟩ => ⟨_, hexec, ?_⟩⟩
    · rw [arrived_sweep, newEntry_swept_of_holdsBack hkind, sweepQueue_of_done hdone, hdone]
      rfl
    · rw [settlePort_link, show (s.arrived p tag kind).link p = (s.requestTaken p tag).link p from rfl,
        State.requestTaken_link_self, LinkPort.handed_of_attached (by exact hattached)]
      refine congrArg ((s.link p).outbound ++ ·) ?_
      rw [settledCompletions, ← settlePort_queue (before := s.queue p), arrived_sweep, newEntry_swept_of_holdsBack hkind, sweepQueue_of_done hdone, hdone,
        newlyDone_append, newlyDone_self hdone]
      rw [if_pos rfl, newlyDone_of_new (e := { tag := tag, kind := kind, state := .done .ok Gathered.nothing }) hnew]
      obtain rfl | rfl := hkind <;> rfl
    · have hnot : (sweepQueue true true (s.queue p)).all ReqEntry.isDone = false := by
        rw [List.all_eq_false]
        exact ⟨e, mem_sweepQueue_of_place he hep, by simp [hopen]⟩
      rw [arrived_sweep, newEntry_swept_of_holdsBack hkind, hnot]
      exact List.getLast?_concat
  · subst hkind
    have hexec := exec_orderingRequest h rfl
    refine ⟨fun hdone => ⟨_, hexec, ?_⟩, fun ⟨e, he, hwriting, hopen⟩ => ⟨_, hexec, ?_⟩⟩
    · have hall : (s.queue p).all ReqEntry.letsFlush = true := by
        refine List.all_eq_true.2 fun e he => ?_
        cases hwriting : isWriting e.kind with
        | true => simp [ReqEntry.letsFlush, hdone e he hwriting]
        | false => simp [ReqEntry.letsFlush, hwriting]
      rw [arrived_sweep, newEntry_swept_of_flush, sweepQueue_all_letsFlush, hall]
      exact List.getLast?_concat
    · have hnot : (s.queue p).all ReqEntry.letsFlush = false := by
        rw [List.all_eq_false]
        exact ⟨e, he, by simp [ReqEntry.letsFlush, hopen, hwriting]⟩
      rw [arrived_sweep, newEntry_swept_of_flush, sweepQueue_all_letsFlush, hnot]
      exact List.getLast?_concat

end

end Sys2Proof.Machine
end

section
/-! O16 and O17: line results, and the ordering requests that follow a line result or a map read result. -/

namespace Sys2Proof.Machine

/-! ### Queues whose entries stand as they were, but for states -/

/-- The entry keeps its tag and kind, and its state if it is an ordering request. -/
def ReqEntry.keeps (e e' : ReqEntry) : Prop :=
  e'.tag = e.tag ∧ e'.kind = e.kind ∧ (placeOf e.kind = none → e' = e)

/-- The queues have the same entries in the same order, and only requests that reach into the window changed state. -/
def EntriesKept (q q' : List ReqEntry) : Prop := List.Forall₂ ReqEntry.keeps q q'

theorem ReqEntry.keeps.refl (e : ReqEntry) : e.keeps e := ⟨rfl, rfl, fun _ => rfl⟩

theorem ReqEntry.keeps.trans {a b c : ReqEntry} (h : a.keeps b) (h' : b.keeps c) : a.keeps c := by
  obtain ⟨htag, hkind, hsame⟩ := h
  obtain ⟨htag', hkind', hsame'⟩ := h'
  refine ⟨htag'.trans htag, hkind'.trans hkind, fun hplace => ?_⟩
  obtain rfl := hsame hplace
  exact hsame' hplace

theorem ReqEntry.keeps_of_place {e : ReqEntry} (h : (placeOf e.kind).isSome = true) (st : ReqState) :
    e.keeps { e with state := st } := ⟨rfl, rfl, fun hnone => by simp [hnone] at h⟩

theorem EntriesKept.refl (q : List ReqEntry) : EntriesKept q q := List.forall₂_same.2 fun e _ => .refl e

theorem EntriesKept.trans {a b c : List ReqEntry} (h : EntriesKept a b) (h' : EntriesKept b c) : EntriesKept a c := by
  induction h generalizing c with
  | nil =>
    cases h'
    exact .nil
  | cons hab _ ih =>
    cases h' with
    | cons hbc htail => exact .cons (hab.trans hbc) (ih htail)

theorem EntriesKept.map {q : List ReqEntry} {f : ReqEntry → ReqEntry} (h : ∀ e ∈ q, e.keeps (f e)) :
    EntriesKept q (q.map f) := List.forall₂_map_right_iff.2 (List.forall₂_same.2 h)

theorem EntriesKept.tags {q q' : List ReqEntry} (h : EntriesKept q q') : q'.map ReqEntry.tag = q.map ReqEntry.tag := by
  induction h with
  | nil => rfl
  | cons hab _ ih => rw [List.map_cons, List.map_cons, ih, hab.1]

theorem EntriesKept.getElem? {q q' : List ReqEntry} (h : EntriesKept q q') {k : Nat} {e : ReqEntry} (hk : q[k]? = some e) :
    ∃ e', q'[k]? = some e' ∧ e.keeps e' := by
  induction h generalizing k with
  | nil => simp at hk
  | cons hab _ ih =>
    cases k with
    | zero =>
      obtain rfl := Option.some.inj hk
      exact ⟨_, rfl, hab⟩
    | succ k => exact ih hk

/-- After the sweep the WAITING ordering requests of such a queue stand by their conditions. -/
theorem orderingFollows_sweep {q q' : List ReqEntry} (h : EntriesKept q q') : orderingFollows q (sweepQueue true true q') := by
  intro k e hk hstate
  obtain ⟨e', hk', -, -, hsame⟩ := h.getElem? hk
  have hgot (hplace : placeOf e.kind = none) : (sweepQueue true true q')[k]? =
      some (e.swept (((sweepQueue true true q').take k).all ReqEntry.isDone)
        (((sweepQueue true true q').take k).all ReqEntry.letsFlush)) := by
    rw [sweepQueue_getElem?, hk', hsame hplace, Bool.true_and, Bool.true_and]
    rfl
  refine ⟨fun hkind => ?_, fun hkind => ?_⟩
  · rw [hgot (by obtain hkind | hkind := hkind <;> simp [hkind, placeOf])]
    obtain hkind | hkind := hkind <;> simp [ReqEntry.swept, ReqEntry.met, hstate, hkind, holdsBack]
  · rw [hgot (by simp [hkind, placeOf])]
    have hall : ((sweepQueue true true q').take k).all ReqEntry.letsFlush =
        ((sweepQueue true true q').take k).all fun b => b.isDone || !isWriting b.kind := rfl
    simp [ReqEntry.swept, ReqEntry.met, hstate, hkind, holdsBack, hall]

/-- What the end of an event hands over is what it made DONE. -/
theorem handedInOrder_of_link {p : PortId} {s t : State} {q : List ReqEntry} (hattached : (s.link p).state = .attached)
    (hlink : t.link p = (s.link p).handed (settledCompletions (s.queue p) q)) (hqueue : t.queue p = sweepQueue true true q) :
    handedInOrder p s t := by
  rw [handedInOrder, hlink, LinkPort.handed_of_attached hattached, hqueue]
  rfl

/-! ### Translation keeps the entries (R36 to R45) -/

section
variable {p q : PortId} {tag : Nat} {s : State}

theorem State.entry_mem {e : ReqEntry} (h : s.entry p tag = some e) : e ∈ s.queue p ∧ e.tag = tag :=
  ⟨List.mem_of_find?_eq_some h, by simpa using List.find?_some h⟩

/-- With distinct tags, the entry that a tag finds is the only one that carries it. -/
theorem State.entry_unique {e b : ReqEntry} (hnodup : ((s.queue p).map ReqEntry.tag).Nodup) (h : s.entry p tag = some e)
    (hb : b ∈ s.queue p) (htag : b.tag = tag) : b = e := by
  obtain ⟨hmem, he⟩ := State.entry_mem h
  exact List.inj_on_of_nodup_map hnodup hb hmem (htag.trans he.symm)

theorem setEntryState_queue_same (st : ReqState) : (setEntryState p tag st s).queue p =
    (s.queue p).map fun e => if e.tag = tag then { e with state := st } else e := State.setQueue_queue_same ..

theorem setEntryState_entriesKept {e : ReqEntry} (hnodup : ((s.queue p).map ReqEntry.tag).Nodup)
    (h : s.entry p tag = some e) (hplace : (placeOf e.kind).isSome = true) (st : ReqState) :
    EntriesKept (s.queue q) ((setEntryState p tag st s).queue q) := by
  by_cases hq : q = p
  · subst hq
    rw [setEntryState_queue_same]
    refine .map fun b hb => ?_
    split
    · next htag =>
      rw [State.entry_unique hnodup h hb htag]
      exact ReqEntry.keeps_of_place hplace st
    · exact .refl b
  · rw [setEntryState, State.setQueue_queue_ne _ _ hq]
    exact .refl _

theorem translate_entriesKept (hnodup : ((s.queue p).map ReqEntry.tag).Nodup) (tag : Nat) (q : PortId) :
    EntriesKept (s.queue q) ((translate p tag s).queue q) := by
  cases he : s.entry p tag with
  | none =>
    rw [translate_of_no_entry he]
    exact .refl _
  | some e =>
    cases hplace : placeOf e.kind with
    | none =>
      rw [translate_of_no_place he hplace]
      exact .refl _
    | some pl =>
      have hsome : (placeOf e.kind).isSome = true := by rw [hplace]; rfl
      cases hc : (s.cache p).find? (fun c => c.hpn == pl.hpn) with
      | some c =>
        rw [translate_of_hit he hplace hc]
        exact setEntryState_entriesKept (s := leaveRetry p tag (s.setCache p _)) hnodup he hsome _
      | none =>
        cases hwalk : s.hasWalk p pl.hpn with
        | true =>
          rw [translate_of_walk he hplace hc hwalk]
          exact setEntryState_entriesKept (s := leaveRetry p tag s) hnodup he hsome _
        | false =>
          by_cases hroom : s.walker.walks.length < Config.walkQueueSize
          · rw [translate_of_room he hplace hc hwalk hroom]
            exact setEntryState_entriesKept (s := leaveRetry p tag (createWalk p pl.hpn s)) hnodup he hsome _
          · rw [translate_of_full he hplace hc hwalk (Nat.not_lt.1 hroom)]
            obtain ⟨l, hl⟩ := joinRetry_only_retry p tag s
            rw [hl]
            exact .refl _

/-- The tags of every queue are distinct. -/
def State.tagsDistinct (s : State) : Prop := ∀ p, ((s.queue p).map ReqEntry.tag).Nodup

theorem State.tagsDistinct.kept {t : State} (h : s.tagsDistinct) (hkept : ∀ q, EntriesKept (s.queue q) (t.queue q)) :
    t.tagsDistinct := fun q => by
  rw [(hkept q).tags]
  exact h q

theorem retryOne_entriesKept (hnodup : s.tagsDistinct) (r : PortId × Nat) (q : PortId) :
    EntriesKept (s.queue q) ((retryOne s r).queue q) := by
  unfold retryOne
  split
  · split
    · exact translate_entriesKept (hnodup _) _ q
    · exact .refl _
  · exact .refl _

theorem retryAll_entriesKept (hnodup : s.tagsDistinct) (q : PortId) : EntriesKept (s.queue q) ((retryAll s).queue q) := by
  have hfold := List.foldlRecOn (motive := fun u : State => ∀ q, EntriesKept (s.queue q) (u.queue q)) s.walker.retry retryOne
    (fun q => .refl _) fun u hu r _ q => (hu q).trans (retryOne_entriesKept (hnodup.kept hu) r q)
  exact hfold q

theorem walkedBy_place {e : ReqEntry} {hpn : Nat} (h : e.walkedBy hpn = true) : (placeOf e.kind).isSome = true := by
  cases hplace : placeOf e.kind with
  | none => simp [ReqEntry.walkedBy, ReqEntry.namesHpn, hplace] at h
  | some pl => rfl

/-- The entries that a walk serves turn to new states. -/
theorem map_walked_entriesKept (hpn : Nat) (f : ReqEntry → ReqState) (l : List ReqEntry) :
    EntriesKept l (l.map fun e => if e.walkedBy hpn then { e with state := f e } else e) := by
  refine .map fun e _ => ?_
  split
  · next h => exact ReqEntry.keeps_of_place (walkedBy_place h) _
  · exact .refl e

theorem deliverWalk_entriesKept (hnodup : s.tagsDistinct) (hpn : Nat) (v : MapValue) (q : PortId) :
    EntriesKept (s.queue q) ((deliverWalk p hpn v s).queue q) := by
  unfold deliverWalk
  dsimp only
  split
  · exact retryAll_entriesKept (s := s.setWalker { s.walker with walks := s.walker.walks.filter fun w => !w.isOf p hpn })
      hnodup q
  · have hserved {u : State} (hu : u.requests = s.requests) (f : ReqEntry → ReqState) (q : PortId) :
        EntriesKept (s.queue q) ((u.setQueue p ((u.queue p).map fun e =>
          if e.walkedBy hpn then { e with state := f e } else e)).queue q) := by
      have hqueue (x : PortId) : u.queue x = s.queue x := congrArg (Quad.get · x) hu
      by_cases hq : q = p
      · subst hq
        rw [State.setQueue_queue_same, hqueue]
        exact map_walked_entriesKept ..
      · rw [State.setQueue_queue_ne _ _ hq, hqueue]
        exact .refl _
    cases v with
    | invalid =>
      have hkept := hserved (u := s.setWalker { s.walker with walks := s.walker.walks.filter fun w => !w.isOf p hpn })
        rfl fun _ => .done .unmapped Gathered.nothing
      exact (hkept q).trans (retryAll_entriesKept (hnodup.kept hkept) q)
    | valid f a =>
      have hkept := hserved (u := (s.setWalker { s.walker with walks := s.walker.walks.filter fun w => !w.isOf p hpn }).setCache
        p (install { hpn := hpn, frame := f, access := a } (s.cache p))) rfl fun e => accessCheck e.kind f a
      exact (hkept q).trans (retryAll_entriesKept (hnodup.kept hkept) q)

theorem walkAgain_requests (p : PortId) (hpn : Nat) (s : State) : (walkAgain p hpn s).requests = s.requests :=
  Block.same_of_outside (b := .requests) (walkAgain_outside (bs := [.walker, .mapUnit]) s (by simp) (by simp) p hpn) (by simp)

theorem startRepair_requests (p : PortId) (hpn : Nat) (s : State) : (startRepair p hpn s).requests = s.requests :=
  Block.same_of_outside (b := .requests) (startRepair_outside (bs := [.mapUnit]) s (by simp) p hpn) (by simp)

theorem takeMapResult_entriesKept (hnodup : s.tagsDistinct) (hpn : Nat) (v : Option MapValue) (q : PortId) :
    EntriesKept (s.queue q) ((takeMapResult p hpn v s).queue q) := by
  unfold takeMapResult
  split
  · rw [State.queue, State.queue, walkAgain_requests]
    exact .refl _
  · cases v with
    | none =>
      dsimp only
      rw [State.queue, State.queue, startRepair_requests]
      exact .refl _
    | some v => exact deliverWalk_entriesKept hnodup hpn v q

theorem takeMapResult_links (p : PortId) (hpn : Nat) (v : Option MapValue) (s : State) :
    (takeMapResult p hpn v s).links = s.links :=
  Block.same_of_outside (b := .links) (takeMapResult_outside (bs := [.requests, .caches, .walker, .mapUnit]) s
    (by simp) (by simp) (by simp) (by simp) p hpn v) (by simp)

end

/-! ### The end of an event for the four ports -/

section
variable {q : PortId} {s0 : State}

theorem samePort.refl (q : PortId) (s : State) : samePort q s s := ⟨rfl, rfl, rfl⟩

theorem settlePorts_samePort {l : List PortId} (hq : q ∉ l) (s : State) :
    samePort q s (l.foldl (fun s p => settlePort p (s0.queue p) s) s) :=
  List.foldlRecOn (motive := fun u : State => samePort q s u) l _ (.refl q s) fun _ h _ hp =>
    h.trans (settlePort_samePort fun heq => hq (heq ▸ hp))

theorem settlePorts_of_mem {l : List PortId} (hnodup : l.Nodup) (hq : q ∈ l) (s : State) :
    (l.foldl (fun s p => settlePort p (s0.queue p) s) s).queue q = sweepQueue true true (s.queue q) ∧
      (l.foldl (fun s p => settlePort p (s0.queue p) s) s).link q =
        (s.link q).handed (settledCompletions (s0.queue q) (s.queue q)) := by
  induction l generalizing s with
  | nil => cases hq
  | cons p l ih =>
    obtain ⟨hp, hl⟩ := List.nodup_cons.1 hnodup
    rcases List.mem_cons.1 hq with rfl | htail
    · obtain ⟨hlink, hqueue, -⟩ := settlePorts_samePort (s0 := s0) hp (settlePort q (s0.queue q) s)
      exact ⟨hqueue.trans settlePort_queue, hlink.trans settlePort_link⟩
    · obtain ⟨hlink, hqueue, -⟩ := settlePort_samePort (q := q) (p := p) (before := s0.queue p) (s := s)
        fun heq => hp (heq ▸ htail)
      have hrest := ih hl htail (settlePort p (s0.queue p) s)
      rw [hlink, hqueue] at hrest
      exact hrest

theorem settleAll_queue_link (s0 s : State) (q : PortId) :
    (settleAll s0 s).queue q = sweepQueue true true (s.queue q) ∧
      (settleAll s0 s).link q = (s.link q).handed (settledCompletions (s0.queue q) (s.queue q)) :=
  settlePorts_of_mem (by decide) (by revert q; decide) s

end

/-! ### The result of a line is taken (R113) -/

/-- `s` once the result of the line is out of flight. -/
def State.resultTaken (s : State) (p : PortId) (r : LineResult) : State :=
  s.setFlight { s.flight with
    lineResults := s.flight.lineResults.set p
      ((s.flight.lineResults.get p).filter fun r' => !(r'.tag == r.tag && r'.line == r.line)) }

section
variable {p : PortId} {e : ReqEntry} {pl : Place} {f g n : Nat} {got : Gathered} {r : LineResult} {s : State}

/-- `s` once the last result of the entry made it DONE, before the Recall Unit is told. -/
def State.entryDone (s : State) (p : PortId) (r : LineResult) (got : Gathered) : State :=
  settlePort p (s.queue p) (setEntryState p r.tag (.done (finalStatus got) got) (s.resultTaken p r))

theorem exec_lineResult_of_session (hop : s.operating = true) (hstate : (s.link p).state ≠ .detaching)
    (hentry : s.entry p r.tag = some e) (hplace : placeOf e.kind = some pl) (hissued : e.state = .issued f g n got)
    (hlast : pl.count ≤ n + 1) (hnext : s.nextLineResult p r.tag r.line = some r) :
    exec (.lineResult p r.tag r.line) s = .next (drainReport p f (s.entryDone p r (gather pl.line r.line r.outcome got))) := by
  refine (exec_lineResult_of_next hop hnext).trans (congrArg Host.Outcome.next ?_)
  refine (takeLineResult_of_last (s := s.resultTaken p r) hentry hplace hissued hlast).trans ?_
  exact leaveIssued_of_session (s := s.resultTaken p r) hstate ..

theorem entryDone_queue : (s.entryDone p r got).queue p =
    sweepQueue true true ((s.queue p).map fun e => if e.tag = r.tag then { e with state := .done (finalStatus got) got } else e) := by
  rw [State.entryDone, settlePort_queue, setEntryState_queue_same]
  rfl

theorem entryDone_link : (s.entryDone p r got).link p = (s.link p).handed (settledCompletions (s.queue p)
    ((s.queue p).map fun e => if e.tag = r.tag then { e with state := .done (finalStatus got) got } else e)) := by
  rw [State.entryDone, settlePort_link, setEntryState_queue_same]
  rfl

theorem drainReport_queue_link (q : PortId) (s : State) :
    (drainReport p f s).queue q = s.queue q ∧ (drainReport p f s).link q = s.link q := by
  obtain ⟨x, hx⟩ := drainReport_only_recalls p f s
  rw [hx]
  exact ⟨rfl, rfl⟩

end

/-- `s` once the result of the map read is out of flight and its read out of the Map Unit. -/
def State.mapResultTaken (s : State) (p : PortId) (hpn : Nat) : State :=
  (s.setFlight { s.flight with
      mapResults := s.flight.mapResults.filter fun r => !(r.port == p && r.hpn == hpn) }).setMapUnit
    { s.mapUnit with reads := s.mapUnit.reads.filter fun r => !(r.port == p && r.hpn == hpn) }

theorem exec_mapReadResult_of_found {p : PortId} {hpn : Nat} {r : MapResult} {s : State} (hop : s.operating = true)
    (hr : s.flight.mapResults.find? (fun r => r.port == p && r.hpn == hpn) = some r) :
    exec (.mapReadResult p hpn) s = .next (settleAll s (takeMapResult p hpn r.value (s.mapResultTaken p hpn))) := by
  show whenOperating s _ = _
  rw [whenOperating, if_pos hop, hr]
  rfl

/-- Settles O16. -/
theorem orderingRequestsWaitForEarlierOnes : Obligations.OrderingRequestsWaitForEarlierOnes := by
  unfold Obligations.OrderingRequestsWaitForEarlierOnes
  refine ⟨fun p tag kind s h => orderingRequest_arrives h, ?_, ?_⟩
  · intro p e pl f g n got r s hop hattached hentry hplace hissued hlast hnodup hnext
    refine ⟨_, exec_lineResult_of_session hop (by rw [hattached]; nofun) hentry hplace hissued hlast hnext, ?_⟩
    obtain ⟨hqueue, hlink⟩ := drainReport_queue_link (f := f) (p := p) p
      (s.entryDone p r (gather pl.line r.line r.outcome got))
    rw [entryDone_queue] at hqueue
    rw [entryDone_link] at hlink
    refine ⟨?_, handedInOrder_of_link hattached hlink hqueue⟩
    rw [hqueue, ← setEntryState_queue_same]
    exact orderingFollows_sweep (setEntryState_entriesKept hnodup hentry (by rw [hplace]; rfl) _)
  · intro p hpn r s hop hr hnodup
    refine ⟨_, exec_mapReadResult_of_found hop hr, fun q => ?_⟩
    have hlink : (takeMapResult p hpn r.value (s.mapResultTaken p hpn)).link q = s.link q := by
      rw [State.link, takeMapResult_links]
      rfl
    obtain ⟨hq, hl⟩ := settleAll_queue_link s (takeMapResult p hpn r.value (s.mapResultTaken p hpn)) q
    rw [hlink] at hl
    refine ⟨?_, fun hattached => handedInOrder_of_link hattached hl hq⟩
    rw [hq]
    exact orderingFollows_sweep (takeMapResult_entriesKept (s := s.mapResultTaken p hpn) hnodup hpn _ q)

end Sys2Proof.Machine
end

section
/-! O17: the results of an entry's lines are gathered, and the last one completes or discards the entry (R113, R114, R128). -/

namespace Sys2Proof.Machine

/-! ### Entries by their tags -/

section
variable {p : PortId} {tag : Nat} {s : State}

theorem find_tag_of_nodup {q : List ReqEntry} {e : ReqEntry} (hnodup : (q.map ReqEntry.tag).Nodup) (he : e ∈ q) :
    q.find? (fun x => x.tag == e.tag) = some e := by
  cases hfind : q.find? (fun x => x.tag == e.tag) with
  | none => simpa using List.find?_eq_none.1 hfind e he
  | some b =>
    have hb : b.tag = e.tag := by simpa using List.find?_some hfind
    rw [List.inj_on_of_nodup_map hnodup (List.mem_of_find?_eq_some hfind) he hb]

theorem setEntryState_entry (st : ReqState) : (setEntryState p tag st s).entry p tag =
    (s.entry p tag).map fun e => { e with state := st } := by
  rw [State.entry, setEntryState_queue_same, List.find?_map]
  have hsame : ((fun e : ReqEntry => e.tag == tag) ∘ fun e => if e.tag = tag then { e with state := st } else e) =
      fun e => e.tag == tag := by
    funext e
    simp only [Function.comp_apply]
    split <;> rfl
  rw [hsame, State.entry]
  cases hfind : (s.queue p).find? fun e => e.tag == tag with
  | none => rfl
  | some e =>
    have htag : e.tag = tag := by simpa using List.find?_some hfind
    simp [htag]

theorem setEntryState_samePort {q : PortId} (hq : q ≠ p) (st : ReqState) : samePort q s (setEntryState p tag st s) :=
  ⟨rfl, State.setQueue_queue_ne _ _ hq, rfl⟩

end

/-! ### The Recall Unit is told (R101 to R103) -/

section
variable {p q : PortId} {f : Nat} {s : State}

theorem drainReport_samePort : samePort q s (drainReport p f s) := by
  obtain ⟨x, hx⟩ := drainReport_only_recalls p f s
  rw [hx]
  exact .refl q s

/-- While another entry of the port is ISSUED to the frame its record waits (R101). -/
theorem drainReport_of_issued (hids : (s.recalls.table.map RecallRecord.recallId).Nodup)
    (hissued : ∃ x ∈ s.queue p, x.issuedTo f = true) : drainReport p f s = s := by
  unfold drainReport
  split
  · rfl
  · next d hd =>
    obtain ⟨hport, hframe⟩ : d.port = p ∧ d.frame = f := by simpa using List.find?_some hd
    have hr : s.recordById d.recallId = some d := by
      cases hfind : s.recordById d.recallId with
      | none => simpa using List.find?_eq_none.1 hfind d (List.mem_of_find?_eq_some hd)
      | some b =>
        have hb : b.recallId = d.recallId := by simpa using List.find?_some hfind
        rw [List.inj_on_of_nodup_map hids (List.mem_of_find?_eq_some hfind) (List.mem_of_find?_eq_some hd) hb]
    unfold drainCheck
    rw [hr]
    dsimp only
    rw [hport, hframe]
    exact if_pos (.inr (List.any_eq_true.2 hissued))

/-- With no entry of the port ISSUED to the frame, its DRAINING record is reported complete, or marked drained. -/
theorem drainReport_of_drained {d : RecallRecord} (hd : s.recalls.table.find? (fun x => x.port == p && x.frame == f) = some d)
    (hr : s.recordById d.recallId = some d) (hphase : d.phase = .draining) (hnone : ∀ x ∈ s.queue p, x.issuedTo f = false) :
    (d.role = .reader ∨ (s.record f).hasReader = false → drainReport p f s = reportComplete d.recallId s) ∧
    (d.role = .holder → (s.record f).hasReader = true →
      drainReport p f s = updateRecall d.recallId (fun r => { r with drained := some true }) s) := by
  obtain ⟨hport, hframe⟩ : d.port = p ∧ d.frame = f := by simpa using List.find?_some hd
  have hready : ¬(d.phase ≠ .draining ∨ ((s.queue d.port).any fun e => e.issuedTo d.frame) = true) := by
    rw [hport, hframe]
    simpa [hphase] using hnone
  refine ⟨fun h => ?_, fun hrole hreader => ?_⟩
  · cases hrole : d.role with
    | reader => simp only [drainReport, hd, drainCheck, hr, if_neg hready, hrole]
    | holder =>
      have hreader : (s.record d.frame).hasReader = false := by
        rw [hframe]
        exact h.resolve_left (by rw [hrole]; nofun)
      simp only [drainReport, hd, drainCheck, hr, if_neg hready, hrole, hreader, Bool.false_eq_true, if_false]
  · rw [← hframe] at hreader
    simp only [drainReport, hd, drainCheck, hr, if_neg hready, hrole, hreader, if_true]

end

/-! ### What a result leaves -/

theorem queueTeardownReport_step (p : PortId) (s : State) : teardownStep p s (queueTeardownReport p s) := by
  unfold queueTeardownReport
  split
  · exact teardownStep.trans (t := s.setLink p { s.link p with queueEmptyReport := true }) (.setLink rfl rfl)
      (checkTeardownEnd_step p _)
  · exact .refl p s

theorem teardownStep.samePort {p q : PortId} {s t : State} (h : teardownStep p s t) (hq : q ≠ p) : samePort q s t := by
  obtain ⟨l, x, rfl, -⟩ := h
  exact ⟨State.setLink_link_ne _ _ hq, rfl, rfl⟩

theorem teardownStep.recalls {p : PortId} {s t : State} (h : teardownStep p s t) : t.recalls = s.recalls := by
  obtain ⟨l, x, rfl, -⟩ := h
  rfl

theorem teardownStep.queue {p : PortId} {s t : State} (h : teardownStep p s t) (q : PortId) : t.queue q = s.queue q := by
  obtain ⟨l, x, rfl, -⟩ := h
  rfl

section
variable {p q : PortId} {e : ReqEntry} {pl : Place} {f g n : Nat} {got : Gathered} {r : LineResult} {s : State}

theorem leaveIssued_samePort (hq : q ≠ p) (tag : Nat) : samePort q s (leaveIssued p tag f got s) := by
  unfold leaveIssued
  split
  · have hqueue : samePort q s (s.setQueue p ((s.queue p).filter fun e => !(e.tag == tag))) :=
      ⟨rfl, State.setQueue_queue_ne _ _ hq, rfl⟩
    exact (hqueue.trans drainReport_samePort).trans ((queueTeardownReport_step p _).samePort hq)
  · exact ((setEntryState_samePort hq _).trans (settlePort_samePort hq)).trans drainReport_samePort

theorem takeLineResult_samePort (hq : q ≠ p) : samePort q s (takeLineResult p r s) := by
  unfold takeLineResult
  split
  · exact .refl q s
  · split
    · dsimp only
      split
      · exact setEntryState_samePort hq _
      · exact leaveIssued_samePort hq _
    · exact .refl q s

/-- The Recall Unit hears of an entry that leaves ISSUED when the queue stands as the event leaves it. -/
theorem leaveIssued_recalls (tag : Nat) : ∃ w, (leaveIssued p tag f got s).recalls = (drainReport p f w).recalls ∧
    (leaveIssued p tag f got s).queue p = w.queue p ∧ w.recalls = s.recalls ∧ w.engine = s.engine := by
  unfold leaveIssued
  split
  · refine ⟨_, (queueTeardownReport_step p _).recalls, ((queueTeardownReport_step p _).queue p).trans ?_, rfl, rfl⟩
    exact (drainReport_queue_link p _).1
  · refine ⟨_, rfl, (drainReport_queue_link p _).1, ?_, ?_⟩
    · rw [settlePort_eq]
      rfl
    · rw [settlePort_eq]
      rfl

/-- A result behind an earlier one of its line is not there to be taken (R134). -/
theorem nextLineResult_of_behind {before after : List LineResult} (h : s.flight.lineResults.get p = before ++ r :: after)
    (hfirst : ∀ x ∈ before, ¬(x.tag = r.tag ∧ x.line = r.line)) (hbehind : ∃ x ∈ before, x.frame = r.frame ∧ x.line = r.line) :
    s.nextLineResult p r.tag r.line = none := by
  have hmine : (s.flight.lineResults.get p).find? (fun x => x.tag == r.tag && x.line == r.line) = some r :=
    List.find?_eq_some_iff_append.2 ⟨by simp, before, after, h, fun x hx => by simpa [← not_and_or] using hfirst x hx⟩
  obtain ⟨x, hx, hframe, hline⟩ := hbehind
  have hsome : (before.find? fun x => x.frame == r.frame && x.line == r.line).isSome = true :=
    List.find?_isSome.2 ⟨x, hx, by simp [hframe, hline]⟩
  obtain ⟨y, hy⟩ := Option.isSome_iff_exists.1 hsome
  have hline' : (s.flight.lineResults.get p).find? (fun x => x.frame == r.frame && x.line == r.line) = some y := by
    rw [h, List.find?_append, hy]
    rfl
  obtain ⟨-, hyl⟩ : y.frame = r.frame ∧ y.line = r.line := by simpa using List.find?_some hy
  unfold State.nextLineResult
  rw [hmine]
  dsimp only
  rw [hline']
  exact if_neg fun htag => hfirst y (List.mem_of_find?_eq_some hy) ⟨htag, hyl⟩

end

/-! ### What the line adds (R113, R114) -/

theorem mem_insertAscending (n x : Nat) (l : List Nat) : x ∈ insertAscending n l ↔ x = n ∨ x ∈ l := by
  induction l with
  | nil => simp [insertAscending]
  | cons m t ih =>
    unfold insertAscending
    split
    · simp
    · split
      · next heq =>
        subst heq
        simp
      · rw [List.mem_cons, ih, List.mem_cons]
        tauto

theorem insertAscending_pairwise {n : Nat} {l : List Nat} (h : l.Pairwise (· < ·)) : (insertAscending n l).Pairwise (· < ·) := by
  induction l with
  | nil => simp [insertAscending]
  | cons m t ih =>
    obtain ⟨hm, ht⟩ := List.pairwise_cons.1 h
    unfold insertAscending
    split
    · next hlt =>
      refine List.pairwise_cons.2 ⟨fun x hx => ?_, h⟩
      rcases List.mem_cons.1 hx with rfl | hx
      · exact hlt
      · exact hlt.trans (hm x hx)
    · split
      · exact h
      · next hlt hne =>
        refine List.pairwise_cons.2 ⟨fun x hx => ?_, ih ht⟩
        rcases (mem_insertAscending n x t).1 hx with rfl | hx
        · omega
        · exact hm x hx

/-! ### The entry becomes DONE in a session -/

section
variable {p : PortId} {e : ReqEntry} {got : Gathered} {r : LineResult} {s : State}

/-- The entry with its last result. -/
def ReqEntry.finished (e : ReqEntry) (got : Gathered) : ReqEntry := { e with state := .done (finalStatus got) got }

theorem finished_mem (hentry : s.entry p r.tag = some e) (hplace : (placeOf e.kind).isSome = true) :
    e.finished got ∈ (s.entryDone p r got).queue p := by
  obtain ⟨hmem, htag⟩ := State.entry_mem hentry
  rw [entryDone_queue]
  refine mem_sweepQueue_of_place (List.mem_map.2 ⟨e, hmem, ?_⟩) hplace
  rw [if_pos htag]
  rfl

theorem entryDone_tags : ((s.entryDone p r got).queue p).map ReqEntry.tag = (s.queue p).map ReqEntry.tag := by
  rw [entryDone_queue, sweepQueue_tags, List.map_map]
  refine List.map_congr_left fun e _ => ?_
  simp only [Function.comp_apply]
  split <;> rfl

theorem entryDone_entry (hnodup : ((s.queue p).map ReqEntry.tag).Nodup) (hentry : s.entry p r.tag = some e)
    (hplace : (placeOf e.kind).isSome = true) : (s.entryDone p r got).entry p r.tag = some (e.finished got) := by
  obtain ⟨-, htag⟩ := State.entry_mem hentry
  have hfind := find_tag_of_nodup (by rw [entryDone_tags]; exact hnodup) (finished_mem (got := got) hentry hplace)
  rw [State.entry, ← htag]
  exact hfind

/-- Its completion joins the outbound order (R125). -/
theorem entryDone_completion (hattached : (s.link p).state = .attached) (hnodup : ((s.queue p).map ReqEntry.tag).Nodup)
    (hentry : s.entry p r.tag = some e) (hplace : (placeOf e.kind).isSome = true) (hopen : e.isDone = false) :
    { tag := r.tag, status := finalStatus got, payload := donePayload e.kind (finalStatus got) got,
      answers := completionOf e.kind } ∈ ((s.entryDone p r got).link p).outbound := by
  have hmem := finished_mem (got := got) hentry hplace
  obtain ⟨he, htag⟩ := State.entry_mem hentry
  rw [entryDone_queue] at hmem
  rw [entryDone_link, LinkPort.handed_of_attached hattached]
  refine List.mem_append_right _ (List.mem_filterMap.2 ⟨e.finished got, List.mem_filter.2 ⟨hmem, ?_⟩, ?_⟩)
  · have hnone : ((s.queue p).any fun b => b.tag == (e.finished got).tag && b.isDone) = false := by
      simp only [List.any_eq_false, Bool.and_eq_true, beq_iff_eq, not_and, Bool.not_eq_true]
      intro b hb hbe
      rw [List.inj_on_of_nodup_map hnodup hb he hbe, hopen]
    rw [hnone]
    rfl
  · rw [← htag]
    rfl

theorem completionOf_of_place {kind : ReqKind} (h : (placeOf kind).isSome = true) : completionOf kind = .request := by
  cases kind <;> first | rfl | cases h

theorem finalStatus_of_nil (h : got.failed = []) : finalStatus got = .ok := by simp [finalStatus, h]

theorem finalStatus_of_failed (h : got.failed ≠ []) : finalStatus got = .poisoned := by simp [finalStatus, h]

theorem finalStatus_eq : finalStatus got = if got.failed = [] then .ok else .poisoned := by
  by_cases h : got.failed = []
  · rw [if_pos h, finalStatus_of_nil h]
  · rw [if_neg h, finalStatus_of_failed h]

end

/-- Settles O17. -/
theorem lineResultsCompleteEntry : Obligations.LineResultsCompleteEntry := by
  unfold Obligations.LineResultsCompleteEntry
  intro p e pl f g n got r before after s hop hentry hplace hissued hnodup hflight hfirst
  refine ⟨fun hbehind => ?_, fun hfree => ?_⟩
  · show whenOperating s _ = _
    rw [whenOperating, if_pos hop, nextLineResult_of_behind hflight hfirst hbehind]
  have hnext := nextLineResult_of_first hflight fun x hx => ⟨hfirst x hx, hfree x hx⟩
  have hsome : (placeOf e.kind).isSome = true := by rw [hplace]; rfl
  have hopen : e.isDone = false := by simp [ReqEntry.isDone, hissued]
  have hexec : exec (.lineResult p r.tag r.line) s = .next (takeLineResult p r (s.resultTaken p r)) :=
    exec_lineResult_of_next hop hnext
  have houtside := takeLineResult_outside (bs := [.links, .requests, .engine, .recalls]) (s.resultTaken p r)
    (by simp) (by simp) (by simp) (by simp) p r
  have hlast (h : pl.count ≤ n + 1) : takeLineResult p r (s.resultTaken p r) =
      leaveIssued p r.tag f (gather pl.line r.line r.outcome got) (s.resultTaken p r) :=
    takeLineResult_of_last hentry hplace hissued h
  refine ⟨_, gather pl.line r.line r.outcome got, hexec, ?clean, fun h => ?written, fun old swapped h => ?swap,
    fun h => ?uncorrectable, fun hmore => ?more, fun h => ⟨fun hattached => ?session, fun hdetaching => ?detaching,
      fun hids hissued' => ?issued, fun d hd hr hphase hnone => ?drained⟩, ?dram, ?channels, fun q hq => ?other⟩
  case clean => rintro b (h | h) <;> rw [h] <;> rfl
  case written =>
    rw [h]
    rfl
  case swap =>
    rw [h]
    rfl
  case uncorrectable =>
    rw [h]
    exact ⟨rfl, rfl, fun x => mem_insertAscending _ x _, insertAscending_pairwise⟩
  case more =>
    rw [takeLineResult_of_more (s := s.resultTaken p r) hentry hplace hissued hmore]
    refine ⟨?_, rfl, rfl⟩
    rw [setEntryState_entry, show (s.resultTaken p r).entry p r.tag = some e from hentry]
    rfl
  case session =>
    have ht : takeLineResult p r (s.resultTaken p r) =
        drainReport p f (s.entryDone p r (gather pl.line r.line r.outcome got)) := by
      rw [hlast h]
      exact leaveIssued_of_session (s := s.resultTaken p r) (show (s.link p).state ≠ .detaching by rw [hattached]; nofun) ..
    generalize gather pl.line r.line r.outcome got = got' at ht ⊢
    obtain ⟨hqueue, hlink⟩ := drainReport_queue_link (f := f) (p := p) p (s.entryDone p r got')
    have hcompletion := entryDone_completion (got := got') hattached hnodup hentry hsome hopen
    rw [completionOf_of_place hsome] at hcompletion
    rw [ht, State.entry, hqueue, hlink]
    refine ⟨?_, fun cls h l k hkind => ⟨fun hok => ?_, fun hfailed => ?_⟩,
      fun cls h l k m d hkind => ⟨fun hok => ?_, fun hfailed => ?_⟩,
      fun cls h l k cmp new hkind => ⟨fun old swapped hok hswap => ?_, fun hfailed => ?_⟩⟩
    · rw [← finalStatus_eq]
      exact entryDone_entry hnodup hentry hsome
    · rwa [finalStatus_of_nil hok, hkind] at hcompletion
    · rwa [finalStatus_of_failed hfailed, hkind] at hcompletion
    · rwa [finalStatus_of_nil hok, hkind] at hcompletion
    · rwa [finalStatus_of_failed hfailed, hkind] at hcompletion
    · rw [finalStatus_of_nil hok, hkind] at hcompletion
      simpa only [donePayload, hswap] using hcompletion
    · rwa [finalStatus_of_failed hfailed, hkind] at hcompletion
  case detaching =>
    rw [hlast h, leaveIssued_of_detaching (s := s.resultTaken p r) hdetaching]
    have hstep := queueTeardownReport_step p
      (drainReport p f ((s.resultTaken p r).setQueue p ((s.queue p).filter fun x => !(x.tag == r.tag))))
    obtain ⟨hqueue, hlink⟩ := drainReport_queue_link (f := f) (p := p) p
      ((s.resultTaken p r).setQueue p ((s.queue p).filter fun x => !(x.tag == r.tag)))
    refine ⟨(hstep.queue p).trans (hqueue.trans (State.setQueue_queue_same ..)), (hstep.outbound p).trans ?_⟩
    rw [hlink]
    rfl
  case issued =>
    obtain ⟨w, hrecalls, hqueue, hw, -⟩ := leaveIssued_recalls (s := s.resultTaken p r) (p := p) (f := f)
      (got := gather pl.line r.line r.outcome got) r.tag
    rw [hlast h, hqueue] at hissued'
    rw [hlast h, hrecalls, drainReport_of_issued (by rw [hw]; exact hids) hissued']
    exact hw
  case drained =>
    obtain ⟨w, hrecalls, hqueue, hw, hengine⟩ := leaveIssued_recalls (s := s.resultTaken p r) (p := p) (f := f)
      (got := gather pl.line r.line r.outcome got) r.tag
    have hrecord : w.record f = s.record f := State.record_of_engine (s := s.resultTaken p r) hengine f
    have hbyId (x : Nat) : w.recordById x = s.recordById x := by
      rw [State.recordById, hw]
      rfl
    rw [hlast h, hqueue] at hnone
    obtain ⟨hreported, hmarked⟩ := drainReport_of_drained (s := w) (by rw [hw]; exact hd) (by rw [hbyId]; exact hr) hphase hnone
    rw [hrecord] at hreported hmarked
    rw [hlast h, State.recordById, hrecalls]
    refine ⟨fun hcase => ?_, fun hrole hreader => ?_⟩
    · rw [hreported hcase]
      exact reportComplete_mem _ _
    · rw [hmarked hrole hreader]
      refine (updateRecall_recordById (fun r => { r with drained := some true }) (fun _ => rfl) d.recallId d.recallId w).trans ?_
      rw [if_pos rfl, hbyId, hr]
      rfl
  case dram => exact Block.same_of_outside (b := .dram) (s := s.resultTaken p r) houtside (by simp)
  case channels => exact Block.same_of_outside (b := .channels) (s := s.resultTaken p r) houtside (by simp)
  case other => exact takeLineResult_samePort (s := s.resultTaken p r) hq

end Sys2Proof.Machine
end

section
/-! O18: which entries are eligible for a channel, and what the grant of a port sends (R112, R115, R116, R121). -/

namespace Sys2Proof.Machine

/-! ### The eligible entries (R115) -/

/-- The entry may be sent on channel `c` behind the entries `earlier`. -/
def ReqEntry.isEligible (s : State) (c : ChannelId) (earlier : List ReqEntry) (e : ReqEntry) : Prop :=
  ∃ pl f l, e.nextAccess = some (f, l) ∧ placeOf e.kind = some pl ∧ channelOf s f = c.val ∧
    (earlier.all fun b => b.clears pl.hpn l) = true ∧ earlier.any ReqEntry.holdsLater = false

section
variable {s : State} {c : ChannelId}

theorem eligibleFrom_cons_of {earlier : List ReqEntry} {e : ReqEntry} (h : e.isEligible s c earlier) (t : List ReqEntry) :
    eligibleFrom s c earlier (e :: t) = e :: eligibleFrom s c (earlier ++ [e]) t := by
  obtain ⟨pl, f, l, hnext, hplace, hchannel, hclear, hholds⟩ := h
  simp only [eligibleFrom, hnext, hplace]
  exact if_pos ⟨hchannel, hclear, by simp [hholds]⟩

theorem eligibleFrom_cons_of_not {earlier : List ReqEntry} {e : ReqEntry} (h : ¬e.isEligible s c earlier) (t : List ReqEntry) :
    eligibleFrom s c earlier (e :: t) = eligibleFrom s c (earlier ++ [e]) t := by
  cases hnext : e.nextAccess with
  | none => simp only [eligibleFrom, hnext]
  | some fl =>
    obtain ⟨f, l⟩ := fl
    cases hplace : placeOf e.kind with
    | none => simp only [eligibleFrom, hnext, hplace]
    | some pl =>
      simp only [eligibleFrom, hnext, hplace]
      refine if_neg ?_
      rintro ⟨hchannel, hclear, hholds⟩
      exact h ⟨pl, f, l, hnext, hplace, hchannel, hclear, by simpa using hholds⟩

theorem eligibleFrom_sublist (earlier q : List ReqEntry) : (eligibleFrom s c earlier q).Sublist q := by
  induction q generalizing earlier with
  | nil => exact List.Sublist.slnil
  | cons e t ih =>
    by_cases h : e.isEligible s c earlier
    · rw [eligibleFrom_cons_of h]
      exact (ih _).cons_cons e
    · rw [eligibleFrom_cons_of_not h]
      exact (ih _).cons e

theorem mem_eligibleFrom {earlier q : List ReqEntry} {e : ReqEntry} : e ∈ eligibleFrom s c earlier q ↔
    ∃ before later, q = before ++ e :: later ∧ e.isEligible s c (earlier ++ before) := by
  induction q generalizing earlier with
  | nil => simp [eligibleFrom]
  | cons x t ih =>
    have hsplit : (∃ before later, x :: t = before ++ e :: later ∧ e.isEligible s c (earlier ++ before)) ↔
        (x = e ∧ e.isEligible s c earlier) ∨ e ∈ eligibleFrom s c (earlier ++ [x]) t := by
      rw [ih]
      refine ⟨fun ⟨before, later, hq, he⟩ => ?_, fun h => ?_⟩
      · cases before with
        | nil =>
          obtain ⟨rfl, -⟩ := List.cons.inj hq
          exact .inl ⟨rfl, by simpa using he⟩
        | cons b before =>
          obtain ⟨rfl, rfl⟩ := List.cons.inj hq
          exact .inr ⟨before, later, rfl, by simpa using he⟩
      · obtain ⟨rfl, he⟩ | ⟨before, later, rfl, he⟩ := h
        · exact ⟨[], t, rfl, by simpa using he⟩
        · exact ⟨x :: before, later, rfl, by simpa using he⟩
    rw [hsplit]
    by_cases h : x.isEligible s c earlier
    · rw [eligibleFrom_cons_of h, List.mem_cons]
      refine or_congr_left ⟨fun heq => ⟨heq.symm, heq ▸ h⟩, fun heq => heq.1.symm⟩
    · rw [eligibleFrom_cons_of_not h]
      refine ⟨.inr, fun hor => hor.resolve_left ?_⟩
      rintro ⟨rfl, he⟩
      exact h he

/-- The line that goes next: the first of a BOUND entry, the first not granted of an ISSUED one. -/
theorem ReqEntry.nextAccess_eq_some {e : ReqEntry} {pl : Place} (hplace : placeOf e.kind = some pl) (f l : Nat) :
    e.nextAccess = some (f, l) ↔ (e.state = .bound f ∧ l = pl.line) ∨
      ∃ g n got, e.state = .issued f g n got ∧ g < pl.count ∧ l = pl.line + g := by
  unfold ReqEntry.nextAccess
  rw [hplace]
  cases e.state with
  | bound f' => simp [eq_comm]
  | issued f' g n got =>
    dsimp only
    by_cases hg : g < pl.count
    · simp [hg, eq_comm]
    · simp [hg]
  | waiting => simp
  | walking => simp
  | done st got => simp

/-- An earlier entry does not hold a line back (R116). -/
theorem ReqEntry.clears_iff (b : ReqEntry) (hpn l : Nat) : b.clears hpn l = true ↔
    ∀ bl, placeOf b.kind = some bl → bl.hpn = hpn → bl.line ≤ l → l < bl.line + bl.count →
      b.isDone = true ∨ ∃ h g n got, b.state = .issued h g n got ∧ l < bl.line + g := by
  cases hplace : placeOf b.kind with
  | none => simp [ReqEntry.clears, ReqEntry.covers, hplace]
  | some bl =>
    have hgranted (hline : bl.line ≤ l) : l < bl.line + b.granted ↔
        ∃ h g n got, b.state = .issued h g n got ∧ l < bl.line + g := by
      unfold ReqEntry.granted
      cases b.state <;> simp <;> omega
    simp only [ReqEntry.clears, ReqEntry.covers, hplace, Option.any_some, Bool.or_eq_true, Bool.not_eq_true',
      Bool.and_eq_false_iff, beq_eq_false_iff_ne, decide_eq_false_iff_not, decide_eq_true_eq]
    refine ⟨fun h bl' hbl hhpn hline hend => ?_, fun h => ?_⟩
    · obtain rfl := Option.some.inj hbl
      obtain (((hne | hne) | hne) | hdone) | hless := h
      · exact absurd hhpn hne
      · exact absurd hline hne
      · exact absurd hend hne
      · exact .inl hdone
      · exact .inr ((hgranted hline).1 hless)
    · by_cases hcovers : (bl.hpn = hpn ∧ bl.line ≤ l) ∧ l < bl.line + bl.count
      · obtain ⟨⟨hhpn, hline⟩, hend⟩ := hcovers
        obtain hdone | hgot := h bl rfl hhpn hline hend
        · exact .inl (.inr hdone)
        · exact .inr ((hgranted hline).2 hgot)
      · refine .inl (.inl ?_)
        rw [not_and_or, not_and_or] at hcovers
        exact hcovers

theorem ReqEntry.holdsLater_eq_false (b : ReqEntry) : b.holdsLater = false ↔
    b.kind ≠ .detach ∧ (b.kind = .fence → b.state ≠ .waiting) := by
  simp [ReqEntry.holdsLater]

theorem mem_eligible_iff {p : PortId} {e : ReqEntry} : e ∈ eligible s c p ↔
    ∃ (earlier later : List ReqEntry) (pl : Place) (f l : Nat),
      s.queue p = earlier ++ e :: later ∧ placeOf e.kind = some pl ∧ f % s.pop.channels = c.val ∧
      ((e.state = .bound f ∧ l = pl.line) ∨ ∃ g n got, e.state = .issued f g n got ∧ g < pl.count ∧ l = pl.line + g) ∧
      ∀ b ∈ earlier, b.kind ≠ .detach ∧ (b.kind = .fence → b.state ≠ .waiting) ∧
        ∀ bl, placeOf b.kind = some bl → bl.hpn = pl.hpn → bl.line ≤ l → l < bl.line + bl.count →
          b.isDone = true ∨ ∃ h g n got, b.state = .issued h g n got ∧ l < bl.line + g := by
  rw [eligible, mem_eligibleFrom]
  refine ⟨fun ⟨earlier, later, hqueue, pl, f, l, hnext, hplace, hchannel, hclear, hholds⟩ => ?_,
    fun ⟨earlier, later, pl, f, l, hqueue, hplace, hchannel, hnext, hearlier⟩ => ?_⟩
  · rw [List.nil_append] at hclear hholds
    refine ⟨earlier, later, pl, f, l, hqueue, hplace, hchannel, (ReqEntry.nextAccess_eq_some hplace f l).1 hnext, fun b hb => ?_⟩
    obtain ⟨hdetach, hfence⟩ := (ReqEntry.holdsLater_eq_false b).1 (by simpa using List.any_eq_false.1 hholds b hb)
    exact ⟨hdetach, hfence, (ReqEntry.clears_iff b pl.hpn l).1 (List.all_eq_true.1 hclear b hb)⟩
  · refine ⟨earlier, later, hqueue, pl, f, l, (ReqEntry.nextAccess_eq_some hplace f l).2 hnext, hplace, hchannel, ?_, ?_⟩
    · exact List.all_eq_true.2 fun b hb => (ReqEntry.clears_iff b pl.hpn l).2 (hearlier b hb).2.2
    · refine List.any_eq_false.2 fun b hb => ?_
      obtain ⟨hdetach, hfence, -⟩ := hearlier b hb
      rw [(ReqEntry.holdsLater_eq_false b).2 ⟨hdetach, hfence⟩]
      nofun

/-! ### The grant (R121) -/

theorem chosenEntry_of_first {p : PortId} {e : ReqEntry} {earlier later : List ReqEntry}
    (heligible : eligible s c p = earlier ++ e :: later)
    (h : (isUrgent e.kind = true ∧ ∀ x ∈ earlier, isUrgent x.kind = false) ∨
      (earlier = [] ∧ ∀ x ∈ e :: later, isUrgent x.kind = false)) : chosenEntry s c p = some e := by
  unfold chosenEntry
  rw [heligible]
  obtain ⟨hurgent, hbefore⟩ | ⟨rfl, hnone⟩ := h
  · have hfind : (earlier ++ e :: later).find? (fun x => isUrgent x.kind) = some e :=
      List.find?_eq_some_iff_append.2 ⟨hurgent, earlier, later, rfl, fun x hx => by simp [hbefore x hx]⟩
    rw [hfind]
  · rw [List.nil_append, List.find?_eq_none.2 fun x hx => by simp [hnone x hx]]
    rfl

theorem sendLine_of_chosen {p : PortId} {round : Round} {e : ReqEntry} {pl : Place} {f l : Nat}
    (hchosen : chosenEntry s c p = some e) (hnext : e.nextAccess = some (f, l)) (hplace : placeOf e.kind = some pl) :
    sendLine c p round s = setEntryState p e.tag (grantedState e)
      (enqueue c round { owner := .port p e.tag, frame := f, line := l, kind := lineAccess e.kind (l - pl.line) } s) := by
  simp only [sendLine, hchosen, hnext, hplace]

theorem lineAccess_masked {cls : ReqClass} {h a n : Nat} {mask : List Bool} {data : List Byte} (k : Nat) :
    ((∀ b ∈ (mask.drop (64 * k)).take 64, b = true) →
      lineAccess (.write cls h a n (some mask) data) k = .fullWrite ((data.drop (64 * k)).take 64)) ∧
    ((∃ b ∈ (mask.drop (64 * k)).take 64, b = false) →
      lineAccess (.write cls h a n (some mask) data) k =
        .partialWrite ((data.drop (64 * k)).take 64) ((mask.drop (64 * k)).take 64)) := by
  refine ⟨fun hall => if_pos (List.all_eq_true.2 hall), fun ⟨b, hb, hfalse⟩ => if_neg fun hall => ?_⟩
  have hb' := List.all_eq_true.1 hall b hb
  rw [hfalse] at hb'
  cases hb'

/-- A BOUND entry's first grant makes it ISSUED with a place of 64 bytes for each of its lines (R113). -/
theorem grantedState_of_bound {e : ReqEntry} {f : Nat} (h : e.state = .bound f) :
    ∃ got, grantedState e = .issued f 1 0 got ∧ got.failed = [] ∧ got.swap = none ∧
      ∀ cls h a n, e.kind = .read cls h a n → got.lines.length = n ∧ ∀ b ∈ got.lines, b.length = 64 := by
  unfold grantedState
  rw [h]
  refine ⟨_, rfl, rfl, rfl, fun cls h a n hkind => ?_⟩
  rw [hkind]
  refine ⟨List.length_replicate, fun b hb => ?_⟩
  rw [List.eq_of_mem_replicate hb]
  rfl

theorem grantedState_of_issued {e : ReqEntry} {f g n : Nat} {got : Gathered} (h : e.state = .issued f g n got) :
    grantedState e = .issued f (g + 1) n got := by
  unfold grantedState
  rw [h]

end

/-- Settles O18. -/
theorem portGrantSendsOneLine : Obligations.PortGrantSendsOneLine := by
  unfold Obligations.PortGrantSendsOneLine
  refine ⟨fun c p s => ⟨eligibleFrom_sublist [] _, fun e => mem_eligible_iff⟩, ?_⟩
  intro c p round e earlier later f l pl s hop hgranted heligible hplace hstate hfirst hnodup
  have hmem : e ∈ eligible s c p := by
    rw [heligible]
    exact List.mem_append_right _ List.mem_cons_self
  have hqueue : e ∈ s.queue p := (eligibleFrom_sublist [] _).subset hmem
  have hnext : e.nextAccess = some (f, l) := by
    obtain ⟨-, -, pl', f', l', -, hplace', -, hstate', -⟩ := mem_eligible_iff.1 hmem
    obtain rfl := Option.some.inj (hplace.symm.trans hplace')
    refine (ReqEntry.nextAccess_eq_some hplace f l).2 (hstate.imp id ?_)
    rintro ⟨g, n, got, hissued, hl⟩
    obtain ⟨hbound, -⟩ | ⟨g', n', got', hissued', hless, -⟩ := hstate'
    · rw [hissued] at hbound
      cases hbound
    · rw [hissued] at hissued'
      cases hissued'
      exact ⟨g, n, got, hissued, hless, hl⟩
  have hsend := sendLine_of_chosen (round := round) (chosenEntry_of_first heligible hfirst) hnext hplace
  have hexec : exec (.portAccessGrant c p) s = .next (sendLine c p round s) := by
    show whenOperating s _ = _
    rw [whenOperating, if_pos hop, hgranted]
  rw [hsend] at hexec
  have hentry (u : State) (hu : u.queue p = s.queue p) (st : ReqState) :
      (setEntryState p e.tag st u).entry p e.tag = some { e with state := st } := by
    rw [setEntryState_entry, State.entry, hu, find_tag_of_nodup hnodup hqueue]
    rfl
  refine ⟨_, lineAccess e.kind (l - pl.line), hexec, ?_, fun cls h a n hkind => ?_, fun cls h a n data hkind => ?_,
    fun cls h a n mask data hkind => ?_, fun cls h a g cmp new hkind => ?_, fun g hbound => ?_, fun g n k got hissued => ?_,
    fun x hx htag => ?_, ?_, fun d hd => ?_, rfl, rfl, rfl, rfl, fun q hq => ?_⟩
  · exact Quad.get_set_same _ _ _
  · rw [hkind]
    rfl
  · rw [hkind]
    rfl
  · rw [hkind]
    exact lineAccess_masked _
  · rw [hkind]
    rfl
  · obtain ⟨got, hgot, hfailed, hswap, hlines⟩ := grantedState_of_bound hbound
    have hfg : g = f := by
      obtain ⟨hb, -⟩ | ⟨_, _, _, hi, -⟩ := hstate
      · rw [hbound] at hb
        exact ReqState.bound.inj hb
      · rw [hbound] at hi
        cases hi
    subst hfg
    exact ⟨got, hfailed, hswap, hlines, by rw [hentry (enqueue ..) rfl, hgot]⟩
  · have hfg : g = f := by
      obtain ⟨hb, -⟩ | ⟨_, _, _, hi, -⟩ := hstate
      · rw [hissued] at hb
        cases hb
      · rw [hissued] at hi
        cases hi
        rfl
    subst hfg
    rw [hentry (enqueue ..) rfl, grantedState_of_issued hissued]
  · rw [setEntryState_queue_same]
    exact List.mem_map.2 ⟨x, hx, if_neg htag⟩
  · rw [setEntryState_queue_same, List.length_map]
    rfl
  · exact Quad.get_set_ne _ _ hd
  · exact setEntryState_samePort hq _

end Sys2Proof.Machine
end

section
/-! What a translation leaves (R36 to R45), and O40: the results of map reads. -/

namespace Sys2Proof.Machine

/-! ### The ways a translation goes -/

theorem translate_cases (p : PortId) (tag : Nat) (s : State) :
    (translate p tag s = s ∧ ∀ e, s.entry p tag = some e → placeOf e.kind = none) ∨
    ∃ e pl, s.entry p tag = some e ∧ placeOf e.kind = some pl ∧
      ((∃ c, (s.cache p).find? (fun c => c.hpn == pl.hpn) = some c ∧
          translate p tag s = setEntryState p tag (accessCheck e.kind c.frame c.access)
            (leaveRetry p tag (s.setCache p (c :: (s.cache p).filter fun c' => !(c'.hpn == pl.hpn))))) ∨
        ((s.cache p).find? (fun c => c.hpn == pl.hpn) = none ∧ s.hasWalk p pl.hpn = true ∧
          translate p tag s = setEntryState p tag .walking (leaveRetry p tag s)) ∨
        ((s.cache p).find? (fun c => c.hpn == pl.hpn) = none ∧ s.hasWalk p pl.hpn = false ∧
          s.walker.walks.length < Config.walkQueueSize ∧
          translate p tag s = setEntryState p tag .walking (leaveRetry p tag (createWalk p pl.hpn s))) ∨
        ((s.cache p).find? (fun c => c.hpn == pl.hpn) = none ∧ s.hasWalk p pl.hpn = false ∧
          Config.walkQueueSize ≤ s.walker.walks.length ∧ translate p tag s = joinRetry p tag s)) := by
  cases he : s.entry p tag with
  | none => exact .inl ⟨translate_of_no_entry he, fun _ hsome => absurd hsome (by simp)⟩
  | some e =>
    cases hplace : placeOf e.kind with
    | none =>
      refine .inl ⟨translate_of_no_place he hplace, fun e' he' => ?_⟩
      obtain rfl := Option.some.inj he'
      exact hplace
    | some pl =>
      refine .inr ⟨e, pl, rfl, hplace, ?_⟩
      cases hc : (s.cache p).find? (fun c => c.hpn == pl.hpn) with
      | some c => exact .inl ⟨c, rfl, translate_of_hit he hplace hc⟩
      | none =>
        cases hwalk : s.hasWalk p pl.hpn with
        | true => exact .inr (.inl ⟨rfl, rfl, translate_of_walk he hplace hc hwalk⟩)
        | false =>
          by_cases hroom : s.walker.walks.length < Config.walkQueueSize
          · exact .inr (.inr (.inl ⟨rfl, rfl, hroom, translate_of_room he hplace hc hwalk hroom⟩))
          · have hfull := Nat.not_lt.1 hroom
            exact .inr (.inr (.inr ⟨rfl, rfl, hfull, translate_of_full he hplace hc hwalk hfull⟩))

/-! ### What translations keep -/

/-- The entry of a page that a cache shows first. -/
def State.cached (s : State) (p : PortId) (hpn : Nat) : Option CacheEntry := (s.cache p).find? fun c => c.hpn == hpn

/-- From `s` to `t` entries were translated: beside Request Queues and retry list, caches changed their order, and walks were
created, each asking for its map read. -/
structure Translated (s t : State) : Prop where
  outside : t.outside [.requests, .caches, .walker, .mapUnit] = s.outside [.requests, .caches, .walker, .mapUnit]
  walks : ∃ new, t.walker.walks = s.walker.walks ++ new ∧ ∀ w ∈ new, w.stale = false
  mapUnit : ∃ rs n, t.mapUnit = { s.mapUnit with reads := s.mapUnit.reads ++ rs, arrivals := n } ∧
    ∀ r ∈ rs, r.issued = false
  cached : ∀ q hpn, t.cached q hpn = s.cached q hpn
  cacheLength : ∀ q, (t.cache q).length ≤ (s.cache q).length

theorem Translated.refl (s : State) : Translated s s :=
  ⟨rfl, ⟨[], (List.append_nil _).symm, nofun⟩, ⟨[], s.mapUnit.arrivals, by rw [List.append_nil], nofun⟩, fun _ _ => rfl,
    fun _ => le_rfl⟩

theorem Translated.trans {s t u : State} (h : Translated s t) (h' : Translated t u) : Translated s u where
  outside := h'.outside.trans h.outside
  walks := by
    obtain ⟨new, hw, hnew⟩ := h.walks
    obtain ⟨new', hw', hnew'⟩ := h'.walks
    refine ⟨new ++ new', by rw [hw', hw, List.append_assoc], fun w hmem => ?_⟩
    exact (List.mem_append.1 hmem).elim (hnew w) (hnew' w)
  mapUnit := by
    obtain ⟨rs, n, hm, hrs⟩ := h.mapUnit
    obtain ⟨rs', n', hm', hrs'⟩ := h'.mapUnit
    refine ⟨rs ++ rs', n', by rw [hm', hm, List.append_assoc], fun r hmem => ?_⟩
    exact (List.mem_append.1 hmem).elim (hrs r) (hrs' r)
  cached q hpn := (h'.cached q hpn).trans (h.cached q hpn)
  cacheLength q := (h'.cacheLength q).trans (h.cacheLength q)

/-- A step that touches Request Queues and retry list only. -/
theorem Translated.of_same {s t : State} (houtside : t.outside [.requests, .walker] = s.outside [.requests, .walker])
    (hwalks : t.walker.walks = s.walker.walks) : Translated s t where
  outside := by
    have h := congrArg (State.outside [.caches, .mapUnit]) houtside
    simpa [State.outside] using h
  walks := ⟨[], by rw [hwalks, List.append_nil], nofun⟩
  mapUnit := ⟨[], s.mapUnit.arrivals, by
    rw [show t.mapUnit = s.mapUnit from Block.same_of_outside (b := .mapUnit) houtside (by simp), List.append_nil], nofun⟩
  cached q hpn := by
    rw [State.cached, State.cache, show t.caches = s.caches from Block.same_of_outside (b := .caches) houtside (by simp)]
    rfl
  cacheLength q := by
    rw [State.cache, show t.caches = s.caches from Block.same_of_outside (b := .caches) houtside (by simp)]
    exact le_rfl

theorem Translated.setEntryState (p : PortId) (tag : Nat) (st : ReqState) (s : State) :
    Translated s (setEntryState p tag st s) := .of_same (by simp [Machine.setEntryState]) rfl

theorem Translated.leaveRetry (p : PortId) (tag : Nat) (s : State) : Translated s (leaveRetry p tag s) :=
  .of_same (by simp [Machine.leaveRetry]) rfl

theorem find_moved (l : List CacheEntry) {hpn : Nat} {c : CacheEntry} (hc : l.find? (fun c => c.hpn == hpn) = some c) (n : Nat) :
    (c :: l.filter fun c' => !(c'.hpn == hpn)).find? (fun c => c.hpn == n) = l.find? fun c => c.hpn == n := by
  have hhpn : c.hpn = hpn := by simpa using List.find?_some hc
  by_cases hn : hpn = n
  · subst hn
    rw [hc, List.find?_cons_of_pos (by simp [hhpn])]
  · rw [List.find?_cons_of_neg (by simp [hhpn, hn]), List.find?_filter]
    congr 1
    funext x
    by_cases hx : x.hpn = n
    · simp [hx, Ne.symm hn]
    · simp [hx]

theorem Translated.moveToFront {p : PortId} {s : State} {hpn : Nat} {c : CacheEntry}
    (hc : (s.cache p).find? (fun c => c.hpn == hpn) = some c) :
    Translated s (s.setCache p (c :: (s.cache p).filter fun c' => !(c'.hpn == hpn))) where
  outside := by simp
  walks := ⟨[], (List.append_nil _).symm, nofun⟩
  mapUnit := ⟨[], s.mapUnit.arrivals, by rw [List.append_nil]; rfl, nofun⟩
  cached q n := by
    by_cases hq : q = p
    · subst hq
      rw [State.cached, State.setCache_cache_same]
      exact find_moved _ hc n
    · rw [State.cached, State.setCache_cache_ne _ _ hq]
      rfl
  cacheLength q := by
    by_cases hq : q = p
    · subst hq
      rw [State.setCache_cache_same, List.length_cons]
      have hless : ((s.cache q).filter fun c' => !(c'.hpn == hpn)).length < (s.cache q).length :=
        List.length_filter_lt_length_iff_exists.2
          ⟨c, List.mem_of_find?_eq_some hc, by simpa using List.find?_some hc⟩
      omega
    · rw [State.setCache_cache_ne _ _ hq]

theorem Translated.createWalk (p : PortId) (hpn : Nat) (s : State) : Translated s (createWalk p hpn s) where
  outside := by simp
  walks := ⟨[{ port := p, hpn := hpn, stale := false }], rfl, by simp⟩
  mapUnit := ⟨[{ port := p, hpn := hpn, issued := false, arrival := s.mapUnit.arrivals }], _, rfl, by simp⟩
  cached _ _ := rfl
  cacheLength _ := le_rfl

theorem translate_translated (p : PortId) (tag : Nat) (s : State) : Translated s (translate p tag s) := by
  obtain ⟨h, -⟩ | ⟨e, pl, -, -, ⟨c, hc, h⟩ | ⟨-, -, h⟩ | ⟨-, -, -, h⟩ | ⟨-, -, -, h⟩⟩ := translate_cases p tag s
  · rw [h]
    exact .refl s
  · rw [h]
    exact ((Translated.moveToFront hc).trans (.leaveRetry ..)).trans (.setEntryState ..)
  · rw [h]
    exact (Translated.leaveRetry ..).trans (.setEntryState ..)
  · rw [h]
    exact ((Translated.createWalk ..).trans (.leaveRetry ..)).trans (.setEntryState ..)
  · rw [h]
    obtain ⟨l, hl⟩ := joinRetry_only_retry p tag s
    rw [hl]
    exact .of_same (by simp) rfl

theorem retryOne_translated (s : State) (r : PortId × Nat) : Translated s (retryOne s r) := by
  unfold retryOne
  split
  · split
    · exact translate_translated ..
    · exact .leaveRetry ..
  · exact .leaveRetry ..

theorem retryList_translated (l : List (PortId × Nat)) (s : State) : Translated s (l.foldl retryOne s) :=
  List.foldlRecOn (motive := fun u : State => Translated s u) l retryOne (.refl s)
    fun u h r _ => h.trans (retryOne_translated u r)

theorem retryAll_translated (s : State) : Translated s (retryAll s) := retryList_translated _ s

section
variable {s t : State} {p q : PortId} {hpn : Nat}

theorem Translated.hasWalk (h : Translated s t) (hwalk : s.hasWalk p hpn = true) : t.hasWalk p hpn = true := by
  obtain ⟨new, hw, -⟩ := h.walks
  rw [State.hasWalk, hw, List.any_append, show (s.walker.walks.any fun w => w.isOf p hpn) = true from hwalk]
  rfl

/-- No walk that a translation created is stale. -/
theorem Translated.isStale (h : Translated s t) : t.isStale p hpn = s.isStale p hpn := by
  obtain ⟨new, hw, hnew⟩ := h.walks
  have hnone : (new.any fun w => w.isOf p hpn && w.stale) = false :=
    List.any_eq_false.2 fun w hmem => by simp [hnew w hmem]
  rw [State.isStale, hw, List.any_append, hnone, Bool.or_false]
  rfl

theorem Translated.same (h : Translated s t) {b : Block} (hb : b ∉ [Block.requests, .caches, .walker, .mapUnit]) :
    b.same s t := Block.same_of_outside h.outside hb

end

/-! ### The entries that a translation leaves -/

section
variable {s : State} {p q : PortId} {tag n : Nat}

theorem setEntryState_entry_ne (h : (q, n) ≠ (p, tag)) (st : ReqState) : (setEntryState p tag st s).entry q n = s.entry q n := by
  by_cases hq : q = p
  · subst hq
    have hn : n ≠ tag := fun heq => h (by rw [heq])
    rw [State.entry, setEntryState_queue_same, List.find?_map]
    have hsame : ((fun e : ReqEntry => e.tag == n) ∘ fun e => if e.tag = tag then { e with state := st } else e) =
        fun e => e.tag == n := by
      funext e
      simp only [Function.comp_apply]
      split <;> rfl
    rw [hsame, State.entry]
    cases hfind : (s.queue q).find? fun e => e.tag == n with
    | none => rfl
    | some e =>
      have htag : e.tag = n := by simpa using List.find?_some hfind
      simp [htag, hn]
  · rw [State.entry, setEntryState, State.setQueue_queue_ne _ _ hq]
    rfl

theorem translate_entry_ne (h : (q, n) ≠ (p, tag)) : (translate p tag s).entry q n = s.entry q n := by
  obtain ⟨h', -⟩ | ⟨e, pl, -, -, ⟨c, hc, h'⟩ | ⟨-, -, h'⟩ | ⟨-, -, -, h'⟩ | ⟨-, -, -, h'⟩⟩ := translate_cases p tag s
  · rw [h']
  · rw [h', setEntryState_entry_ne h]
    rfl
  · rw [h', setEntryState_entry_ne h]
    rfl
  · rw [h', setEntryState_entry_ne h]
    rfl
  · rw [h']
    obtain ⟨l, hl⟩ := joinRetry_only_retry p tag s
    rw [hl]
    rfl

theorem retryOne_entry_ne {r : PortId × Nat} (h : (q, n) ≠ r) : (retryOne s r).entry q n = s.entry q n := by
  unfold retryOne
  split
  · split
    · exact translate_entry_ne h
    · rfl
  · rfl

/-- An entry that is not WAITING leaves the retry list and stays as it is. -/
theorem retryOne_of_not_waiting {e : ReqEntry} (he : s.entry p tag = some e) (hstate : e.state ≠ .waiting) :
    retryOne s (p, tag) = leaveRetry p tag s := by
  simp only [retryOne, he, if_neg hstate]

theorem retryList_entry_of_not_waiting {e : ReqEntry} (l : List (PortId × Nat)) (he : s.entry p tag = some e)
    (hstate : e.state ≠ .waiting) : (l.foldl retryOne s).entry p tag = some e :=
  List.foldlRecOn (motive := fun u : State => u.entry p tag = some e) l retryOne he fun u hu r _ => by
    by_cases hr : (p, tag) = r
    · subst hr
      rw [retryOne_of_not_waiting hu hstate]
      exact hu
    · rw [retryOne_entry_ne hr]
      exact hu

theorem retryOne_of_waiting {e : ReqEntry} (he : s.entry p tag = some e) (hstate : e.state = .waiting) :
    retryOne s (p, tag) = translate p tag s := by
  simp only [retryOne, he, if_pos hstate]

end

/-! ### What stays on the retry list (R38) -/

/-- If `x` is on the retry list and names a request that reaches into the window, the request is WAITING, its page neither
cached nor walked, and the Walk Queue full. -/
def State.heldOnRetry (s : State) (x : PortId × Nat) : Prop :=
  x ∈ s.walker.retry → ∀ e pl, s.entry x.1 x.2 = some e → placeOf e.kind = some pl →
    e.state = .waiting ∧ s.cached x.1 pl.hpn = none ∧ s.hasWalk x.1 pl.hpn = false ∧
      Config.walkQueueSize ≤ s.walker.walks.length

section
variable {s : State} {p : PortId} {tag : Nat}

theorem leaveRetry_not_mem (p : PortId) (tag : Nat) (s : State) : (p, tag) ∉ (leaveRetry p tag s).walker.retry := by
  intro h
  obtain ⟨-, h⟩ := List.mem_filter.1 h
  simp at h

theorem retryOne_held (s : State) (x : PortId × Nat) : (retryOne s x).heldOnRetry x := by
  obtain ⟨p, tag⟩ := x
  intro hmem e pl he hplace
  cases he0 : s.entry p tag with
  | none =>
    have heq : retryOne s (p, tag) = leaveRetry p tag s := by simp only [retryOne, he0]
    rw [heq] at hmem
    exact absurd hmem (leaveRetry_not_mem p tag s)
  | some e0 =>
    by_cases hstate : e0.state = .waiting
    · rw [retryOne_of_waiting he0 hstate] at hmem he ⊢
      obtain ⟨h, hnone⟩ | ⟨e', pl', he', hplace', ⟨c, hc, h⟩ | ⟨-, -, h⟩ | ⟨-, -, -, h⟩ | ⟨hc, hwalk, hfull, h⟩⟩ :=
        translate_cases p tag s
      · rw [h] at he
        rw [hnone e he] at hplace
        cases hplace
      · rw [h] at hmem
        exact absurd hmem (leaveRetry_not_mem p tag _)
      · rw [h] at hmem
        exact absurd hmem (leaveRetry_not_mem p tag _)
      · rw [h] at hmem
        exact absurd hmem (leaveRetry_not_mem p tag _)
      · obtain ⟨l, hl⟩ := joinRetry_only_retry p tag s
        rw [hl] at h
        rw [h] at he ⊢
        obtain rfl : e' = e := Option.some.inj (he'.symm.trans he)
        obtain rfl : pl' = pl := Option.some.inj (hplace'.symm.trans hplace)
        obtain rfl : e0 = e' := Option.some.inj (he0.symm.trans he')
        exact ⟨hstate, hc, hwalk, hfull⟩
    · rw [retryOne_of_not_waiting he0 hstate] at hmem
      exact absurd hmem (leaveRetry_not_mem p tag s)

/-- With the Walk Queue full no translation creates a walk. -/
theorem translate_walks_of_full (h : Config.walkQueueSize ≤ s.walker.walks.length) :
    (translate p tag s).walker.walks = s.walker.walks := by
  obtain ⟨h', -⟩ | ⟨e, pl, -, -, ⟨c, hc, h'⟩ | ⟨-, -, h'⟩ | ⟨-, -, hroom, h'⟩ | ⟨-, -, -, h'⟩⟩ := translate_cases p tag s
  · rw [h']
  · rw [h']
    rfl
  · rw [h']
    rfl
  · exact absurd hroom (Nat.not_lt.2 h)
  · rw [h']
    obtain ⟨l, hl⟩ := joinRetry_only_retry p tag s
    rw [hl]
    rfl

theorem retryOne_walks_of_full (h : Config.walkQueueSize ≤ s.walker.walks.length) (r : PortId × Nat) :
    (retryOne s r).walker.walks = s.walker.walks := by
  unfold retryOne
  split
  · split
    · exact translate_walks_of_full h
    · rfl
  · rfl

theorem translate_retry_subset {x : PortId × Nat} (hx : x ∈ (translate p tag s).walker.retry) (hne : x ≠ (p, tag)) :
    x ∈ s.walker.retry := by
  have hleft {u : State} (h : x ∈ (leaveRetry p tag u).walker.retry) : x ∈ u.walker.retry := List.mem_of_mem_filter h
  obtain ⟨h', -⟩ | ⟨e, pl, -, -, ⟨c, hc, h'⟩ | ⟨-, -, h'⟩ | ⟨-, -, hroom, h'⟩ | ⟨-, -, -, h'⟩⟩ := translate_cases p tag s
  · rwa [h'] at hx
  · rw [h'] at hx
    exact hleft hx
  · rw [h'] at hx
    exact hleft hx
  · rw [h'] at hx
    exact hleft hx
  · rw [h'] at hx
    unfold joinRetry at hx
    split at hx
    · exact hx
    · exact (List.mem_append.1 hx).resolve_right fun h => hne (List.mem_singleton.1 h)

theorem retryOne_retry_subset {x r : PortId × Nat} (hx : x ∈ (retryOne s r).walker.retry) (hne : x ≠ r) :
    x ∈ s.walker.retry := by
  unfold retryOne at hx
  split at hx
  · split at hx
    · exact translate_retry_subset hx hne
    · exact List.mem_of_mem_filter hx
  · exact List.mem_of_mem_filter hx

theorem retryOne_keeps_held {x : PortId × Nat} (h : s.heldOnRetry x) (r : PortId × Nat) : (retryOne s r).heldOnRetry x := by
  by_cases hr : x = r
  · subst hr
    exact retryOne_held s x
  · intro hmem e pl he hplace
    rw [retryOne_entry_ne hr] at he
    obtain ⟨hstate, hcached, hwalk, hfull⟩ := h (retryOne_retry_subset hmem hr) e pl he hplace
    have hwalks := retryOne_walks_of_full hfull r
    refine ⟨hstate, ((retryOne_translated s r).cached _ _).trans hcached, ?_, by rw [hwalks]; exact hfull⟩
    rw [State.hasWalk, hwalks]
    exact hwalk

/-- After the retry every request on the list is held there. -/
theorem retryList_held (l : List (PortId × Nat)) (s : State) (x : PortId × Nat) (hx : x ∈ l) : (l.foldl retryOne s).heldOnRetry x := by
  induction l generalizing s with
  | nil => cases hx
  | cons r l ih =>
    rcases List.mem_cons.1 hx with rfl | htail
    · exact List.foldlRecOn (motive := fun u : State => u.heldOnRetry x) l retryOne (retryOne_held s x)
        fun u hu r _ => retryOne_keeps_held hu r
    · exact ih (retryOne s r) htail

theorem retryList_retry_subset (l : List (PortId × Nat)) {s : State} {x : PortId × Nat}
    (hx : x ∈ (l.foldl retryOne s).walker.retry) : x ∈ s.walker.retry ∨ x ∈ l := by
  induction l generalizing s with
  | nil => exact .inl hx
  | cons r l ih =>
    obtain hr | hl := ih hx
    · by_cases hne : x = r
      · exact .inr (hne ▸ List.mem_cons_self)
      · exact .inl (retryOne_retry_subset hr hne)
    · exact .inr (List.mem_cons_of_mem _ hl)

theorem retryAll_held (s : State) (x : PortId × Nat) : (retryAll s).heldOnRetry x := by
  intro hmem
  exact retryList_held s.walker.retry s x ((retryList_retry_subset _ hmem).elim id id) hmem

end

end Sys2Proof.Machine
end

section
/-! O40: the results of map reads (R31, R33, R37, R38, R41). -/

namespace Sys2Proof.Machine

/-! ### The sweep and the entries that reach into the window -/

theorem sweepQueue_find {e : ReqEntry} (hplace : (placeOf e.kind).isSome = true) (q : List ReqEntry) (n : Nat)
    (all writes : Bool) : (sweepQueue all writes q).find? (fun x => x.tag == n) = some e ↔
      q.find? (fun x => x.tag == n) = some e := by
  induction q generalizing all writes with
  | nil => simp [sweepQueue]
  | cons x q ih =>
    rw [sweepQueue_cons, List.find?_cons, List.find?_cons, ReqEntry.swept_tag]
    cases htag : x.tag == n with
    | false => exact ih _ _
    | true =>
      dsimp only
      by_cases hx : (placeOf x.kind).isSome = true
      · rw [ReqEntry.swept_of_place hx]
      · refine iff_of_false (fun h => hx ?_) fun h => hx ?_
        · rw [← ReqEntry.swept_kind (e := x) (all := all) (writes := writes), Option.some.inj h]
          exact hplace
        · rw [Option.some.inj h]
          exact hplace

theorem settleAll_entry {e : ReqEntry} (hplace : (placeOf e.kind).isSome = true) (s0 s : State) (q : PortId) (n : Nat) :
    (settleAll s0 s).entry q n = some e ↔ s.entry q n = some e := by
  rw [State.entry, (settleAll_queue_link s0 s q).1]
  exact sweepQueue_find hplace _ n true true

theorem settleAll_same (s0 s : State) {b : Block} (hb : b ∉ [Block.links, .requests]) : b.same s (settleAll s0 s) :=
  Block.same_of_outside (settleAll_outside (bs := [.links, .requests]) s (by simp) (by simp) s0) hb

theorem settleAll_caches (s0 s : State) : (settleAll s0 s).caches = s.caches := settleAll_same s0 s (b := .caches) (by simp)

theorem settleAll_walker (s0 s : State) : (settleAll s0 s).walker = s.walker := settleAll_same s0 s (b := .walker) (by simp)

theorem settleAll_mapUnit (s0 s : State) : (settleAll s0 s).mapUnit = s.mapUnit := settleAll_same s0 s (b := .mapUnit) (by simp)

theorem settleAll_flight (s0 s : State) : (settleAll s0 s).flight = s.flight := settleAll_same s0 s (b := .flight) (by simp)

/-! ### Tags through translations -/

section
variable {s : State} {p q : PortId} {tag : Nat}

theorem setEntryState_tags (st : ReqState) :
    ((setEntryState p tag st s).queue q).map ReqEntry.tag = (s.queue q).map ReqEntry.tag := by
  by_cases hq : q = p
  · subst hq
    rw [setEntryState_queue_same, List.map_map]
    refine List.map_congr_left fun e _ => ?_
    simp only [Function.comp_apply]
    split <;> rfl
  · rw [setEntryState, State.setQueue_queue_ne _ _ hq]

theorem translate_tags : ((translate p tag s).queue q).map ReqEntry.tag = (s.queue q).map ReqEntry.tag := by
  obtain ⟨h, -⟩ | ⟨e, pl, -, -, ⟨c, hc, h⟩ | ⟨-, -, h⟩ | ⟨-, -, -, h⟩ | ⟨-, -, -, h⟩⟩ := translate_cases p tag s
  · rw [h]
  · rw [h, setEntryState_tags]
    rfl
  · rw [h, setEntryState_tags]
    rfl
  · rw [h, setEntryState_tags]
    rfl
  · obtain ⟨l, hl⟩ := joinRetry_only_retry p tag s
    rw [h, hl]
    rfl

theorem retryOne_tags (r : PortId × Nat) : ((retryOne s r).queue q).map ReqEntry.tag = (s.queue q).map ReqEntry.tag := by
  unfold retryOne
  split
  · split
    · exact translate_tags
    · rfl
  · rfl

theorem retryList_tags (l : List (PortId × Nat)) (s : State) :
    ((l.foldl retryOne s).queue q).map ReqEntry.tag = (s.queue q).map ReqEntry.tag :=
  List.foldlRecOn (motive := fun u : State => (u.queue q).map ReqEntry.tag = (s.queue q).map ReqEntry.tag) l retryOne rfl
    fun _ h r _ => (retryOne_tags r).trans h

/-- With distinct tags an entry that is not WAITING keeps its place in the queue through the retries. -/
theorem retryList_getElem?_of_not_waiting {k : Nat} {e : ReqEntry} (l : List (PortId × Nat))
    (hnodup : ((s.queue p).map ReqEntry.tag).Nodup) (hk : (s.queue p)[k]? = some e) (hstate : e.state ≠ .waiting) :
    ((l.foldl retryOne s).queue p)[k]? = some e := by
  have hentry := retryList_entry_of_not_waiting l (find_tag_of_nodup hnodup (List.mem_of_getElem? hk)) hstate
  have htags := retryList_tags (q := p) l s
  have htag : (((l.foldl retryOne s).queue p)[k]?).map ReqEntry.tag = some e.tag := by
    rw [← List.getElem?_map, htags, List.getElem?_map, hk]
    rfl
  obtain ⟨e', he', htag'⟩ := Option.map_eq_some_iff.1 htag
  have hfind := find_tag_of_nodup (by rw [htags]; exact hnodup) (List.mem_of_getElem? he')
  rw [htag'] at hfind
  rw [he', ← Option.some.inj (hentry.symm.trans hfind)]

end

/-! ### A walk delivers (R37, R41, R44) -/

/-- `s` once the walk left the queue and its result was delivered, before the retry list tries again. -/
def State.walkDelivered (s : State) (p : PortId) (hpn : Nat) (v : MapValue) : State :=
  let s := s.setWalker { s.walker with walks := s.walker.walks.filter fun w => !w.isOf p hpn }
  if (s.link p).state = .detaching then s
  else
    match v with
    | .invalid =>
      s.setQueue p ((s.queue p).map fun e =>
        if e.walkedBy hpn then { e with state := .done .unmapped Gathered.nothing } else e)
    | .valid f a =>
      let s := s.setCache p (install { hpn := hpn, frame := f, access := a } (s.cache p))
      s.setQueue p ((s.queue p).map fun e => if e.walkedBy hpn then { e with state := accessCheck e.kind f a } else e)

theorem deliverWalk_eq (p : PortId) (hpn : Nat) (v : MapValue) (s : State) :
    deliverWalk p hpn v s = retryAll (s.walkDelivered p hpn v) := by
  unfold deliverWalk State.walkDelivered
  cases v <;> rfl

/-- The state that a walk gives the requests it serves. -/
def MapValue.servedState (v : MapValue) (kind : ReqKind) : ReqState :=
  match v with
  | .invalid => .done .unmapped Gathered.nothing
  | .valid f a => accessCheck kind f a

theorem accessCheck_eq (kind : ReqKind) (f : Nat) (a : Access) : accessCheck kind f a =
    if a = .readWrite ∨ isWriting kind = false then .bound f else .done .protection Gathered.nothing := by
  cases a <;> cases hwriting : isWriting kind <;> simp [accessCheck, hwriting]

theorem accessCheck_not_waiting (kind : ReqKind) (f : Nat) (a : Access) : accessCheck kind f a ≠ .waiting := by
  rw [accessCheck_eq]
  split <;> simp

theorem MapValue.servedState_not_waiting (v : MapValue) (kind : ReqKind) : v.servedState kind ≠ .waiting := by
  cases v with
  | invalid => simp [MapValue.servedState]
  | valid f a => exact accessCheck_not_waiting kind f a

section
variable {s : State} {p q : PortId} {hpn n tag : Nat} {v : MapValue}

theorem walkDelivered_walker :
    (s.walkDelivered p hpn v).walker = { s.walker with walks := s.walker.walks.filter fun w => !w.isOf p hpn } := by
  unfold State.walkDelivered
  dsimp only
  split
  · rfl
  · cases v <;> rfl

theorem walkDelivered_cache_ne (hq : q ≠ p) : (s.walkDelivered p hpn v).cache q = s.cache q := by
  unfold State.walkDelivered
  dsimp only
  split
  · rfl
  · cases v with
    | invalid => rfl
    | valid f a => exact State.setCache_cache_ne _ _ hq

theorem walkDelivered_cache_valid {f : Nat} {a : Access} (hstate : (s.link p).state ≠ .detaching) :
    (s.walkDelivered p hpn (.valid f a)).cache p = install { hpn := hpn, frame := f, access := a } (s.cache p) := by
  unfold State.walkDelivered
  dsimp only
  rw [State.setWalker_link, if_neg hstate]
  exact State.setCache_cache_same ..

theorem walkDelivered_cache_invalid : (s.walkDelivered p hpn .invalid).cache q = s.cache q := by
  unfold State.walkDelivered
  dsimp only
  split <;> rfl

theorem walkDelivered_queue_ne (hq : q ≠ p) : (s.walkDelivered p hpn v).queue q = s.queue q := by
  unfold State.walkDelivered
  dsimp only
  split
  · rfl
  · cases v <;> exact State.setQueue_queue_ne _ _ hq

theorem walkDelivered_queue (hstate : (s.link p).state ≠ .detaching) : (s.walkDelivered p hpn v).queue p =
    (s.queue p).map fun e => if e.walkedBy hpn then { e with state := v.servedState e.kind } else e := by
  unfold State.walkDelivered
  dsimp only
  rw [State.setWalker_link, if_neg hstate]
  cases v <;> exact State.setQueue_queue_same ..

theorem walkDelivered_queue_detaching (hstate : (s.link p).state = .detaching) :
    (s.walkDelivered p hpn v).queue p = s.queue p := by
  unfold State.walkDelivered
  dsimp only
  rw [State.setWalker_link, if_pos hstate]
  rfl

/-- A WAITING request is no request that the walk serves. -/
theorem walkDelivered_entry {e : ReqEntry} (he : s.entry q tag = some e) (hstate : e.state = .waiting) :
    (s.walkDelivered p hpn v).entry q tag = some e := by
  by_cases hq : q = p
  · subst hq
    by_cases hd : (s.link q).state = .detaching
    · rw [State.entry, walkDelivered_queue_detaching hd]
      exact he
    · rw [State.entry, walkDelivered_queue hd, List.find?_map]
      have hsame : ((fun e : ReqEntry => e.tag == tag) ∘
          fun e : ReqEntry => if e.walkedBy hpn then { e with state := v.servedState e.kind } else e) =
          fun e => e.tag == tag := by
        funext e
        simp only [Function.comp_apply]
        split <;> rfl
      rw [hsame, show (s.queue q).find? (fun e => e.tag == tag) = some e from he]
      simp [ReqEntry.walkedBy, hstate]
  · rw [State.entry, walkDelivered_queue_ne hq]
    exact he

theorem walkDelivered_tags : ((s.walkDelivered p hpn v).queue q).map ReqEntry.tag = (s.queue q).map ReqEntry.tag := by
  by_cases hq : q = p
  · subst hq
    by_cases hd : (s.link q).state = .detaching
    · rw [walkDelivered_queue_detaching hd]
    · rw [walkDelivered_queue hd, List.map_map]
      refine List.map_congr_left fun e _ => ?_
      simp only [Function.comp_apply]
      split <;> rfl
  · rw [walkDelivered_queue_ne hq]

theorem install_spec (c : CacheEntry) (l : List CacheEntry) : (install c l).head? = some c ∧
    (install c l).length ≤ Config.cacheSize ∧ (install c l).find? (fun x => x.hpn == c.hpn) = some c := by
  refine ⟨rfl, List.length_take_le _ _, ?_⟩
  rw [install, show Config.cacheSize = 23 + 1 from rfl, List.take_succ_cons, List.find?_cons_of_pos (by simp)]

/-- What is installed hides no page but its own. -/
theorem install_find_none {c : CacheEntry} {l : List CacheEntry} (h : l.find? (fun x => x.hpn == n) = none) (hne : c.hpn ≠ n) :
    (install c l).find? (fun x => x.hpn == n) = none := by
  refine List.find?_eq_none.2 fun x hx => ?_
  rcases List.mem_cons.1 (List.mem_of_mem_take hx) with rfl | hmem
  · simpa using hne
  · exact List.find?_eq_none.1 h x (List.mem_of_mem_filter hmem)

theorem walkDelivered_cached_none (h : s.cached q n = none) (hne : (q, n) ≠ (p, hpn)) :
    (s.walkDelivered p hpn v).cached q n = none := by
  by_cases hq : q = p
  · subst hq
    have hn : hpn ≠ n := fun heq => hne (by rw [heq])
    cases v with
    | invalid =>
      rw [State.cached, walkDelivered_cache_invalid]
      exact h
    | valid f a =>
      by_cases hd : (s.link q).state = .detaching
      · have hcache : (s.walkDelivered q hpn (.valid f a)).cache q = s.cache q := by
          unfold State.walkDelivered
          dsimp only
          rw [State.setWalker_link, if_pos hd]
          rfl
        rw [State.cached, hcache]
        exact h
      · rw [State.cached, walkDelivered_cache_valid hd]
        exact install_find_none h hn
  · rw [State.cached, walkDelivered_cache_ne hq]
    exact h

theorem walkDelivered_hasWalk (hne : (q, n) ≠ (p, hpn)) : (s.walkDelivered p hpn v).hasWalk q n = s.hasWalk q n := by
  rw [State.hasWalk, walkDelivered_walker, List.any_filter]
  refine congrArg (fun f => s.walker.walks.any f) (funext fun w => ?_)
  cases hw : w.isOf q n with
  | false => simp
  | true =>
    have hnot : w.isOf p hpn = false := by
      simp only [Walk.isOf, Bool.and_eq_true, beq_iff_eq] at hw
      by_contra hyes
      simp only [Walk.isOf, Bool.not_eq_false, Bool.and_eq_true, beq_iff_eq] at hyes
      exact hne (by rw [← hw.1, ← hw.2, ← hyes.1, ← hyes.2])
    simp [hnot]

/-- The walk that delivered leaves a place of the Walk Queue. -/
theorem walkDelivered_room (hwalk : s.hasWalk p hpn = true) (hlength : s.walker.walks.length ≤ Config.walkQueueSize) :
    (s.walkDelivered p hpn v).walker.walks.length < Config.walkQueueSize := by
  rw [walkDelivered_walker]
  obtain ⟨w, hw, hof⟩ := List.any_eq_true.1 hwalk
  have hless : (s.walker.walks.filter fun w => !w.isOf p hpn).length < s.walker.walks.length :=
    List.length_filter_lt_length_iff_exists.2 ⟨w, hw, by simp [hof]⟩
  exact lt_of_lt_of_le hless hlength

end

/-! ### A stale walk reads again, an uncorrectable one is repaired (R33, R38) -/

section
variable {s : State} {p : PortId} {hpn : Nat}

theorem hasWalk_of_isStale (h : s.isStale p hpn = true) : s.hasWalk p hpn = true := by
  obtain ⟨w, hw, hof⟩ := List.any_eq_true.1 h
  rw [Bool.and_eq_true] at hof
  exact List.any_eq_true.2 ⟨w, hw, hof.1⟩

theorem setStale_false_isStale (p : PortId) (hpn : Nat) (s : State) : (setStale p hpn false s).isStale p hpn = false := by
  refine List.any_eq_false.2 fun w hw => ?_
  obtain ⟨x, -, rfl⟩ := List.mem_map.1 hw
  split
  · simp
  · next h => simp [h]

theorem walkAgain_of_walk (h : s.hasWalk p hpn = true) : walkAgain p hpn s = askRead p hpn (setStale p hpn false s) := if_pos h

theorem startHeadRepair_of_queued {r : Repair} {rest : List Repair} (hrepairs : s.mapUnit.repairs = r :: rest)
    (hphase : r.phase = .queued) : startHeadRepair s =
      s.setMapUnit { s.mapUnit with repairs := { r with phase := .searching 1 } :: rest } := by
  simp only [startHeadRepair, hrepairs, hphase]

theorem startHeadRepair_of_started {r : Repair} {rest : List Repair} (hrepairs : s.mapUnit.repairs = r :: rest)
    (hphase : r.phase ≠ .queued) : startHeadRepair s = s := by
  unfold startHeadRepair
  rw [hrepairs]
  dsimp only
  cases h : r.phase <;> simp_all

end

/-! ### O40 -/

/-- The retry list's first request, once the walk delivered, tries its translation before the others (R38). -/
theorem retryAll_cons {s : State} {r : PortId × Nat} {more : List (PortId × Nat)} (h : s.walker.retry = r :: more) :
    retryAll s = more.foldl retryOne (retryOne s r) := by rw [retryAll, h, List.foldl_cons]

section
variable {s : State} {p q : PortId} {hpn tag : Nat} {v : MapValue} {e : ReqEntry} {pl : Place} {more : List (PortId × Nat)}

/-- It takes the access check of its cache entry. -/
theorem deliverWalk_first_hit {c : CacheEntry} (hretry : s.walker.retry = (q, tag) :: more) (he : s.entry q tag = some e)
    (hstate : e.state = .waiting) (hplace : placeOf e.kind = some pl) (hc : s.cached q pl.hpn = some c) (hq : q ≠ p) :
    (deliverWalk p hpn v s).entry q tag = some { e with state := accessCheck e.kind c.frame c.access } := by
  have hcached : (s.walkDelivered p hpn v).cached q pl.hpn = some c := by
    rw [State.cached, walkDelivered_cache_ne hq]
    exact hc
  have hentry : (s.walkDelivered p hpn v).entry q tag = some e := walkDelivered_entry he hstate
  rw [deliverWalk_eq, retryAll_cons (r := (q, tag)) (more := more) (by rw [walkDelivered_walker]; exact hretry)]
  refine retryList_entry_of_not_waiting more ?_ (accessCheck_not_waiting _ _ _)
  rw [retryOne_of_waiting hentry hstate, translate_of_hit hentry hplace hcached, setEntryState_entry]
  exact congrArg (Option.map fun b : ReqEntry => { b with state := accessCheck e.kind c.frame c.access }) hentry

/-- It joins or creates a walk, for which the walk that delivered left a place. -/
theorem deliverWalk_first_miss (hretry : s.walker.retry = (q, tag) :: more) (he : s.entry q tag = some e)
    (hstate : e.state = .waiting) (hplace : placeOf e.kind = some pl) (hne : (q, pl.hpn) ≠ (p, hpn))
    (hc : s.cached q pl.hpn = none) (hwalk : s.hasWalk p hpn = true) (hlength : s.walker.walks.length ≤ Config.walkQueueSize) :
    (deliverWalk p hpn v s).entry q tag = some { e with state := .walking } ∧
      (deliverWalk p hpn v s).hasWalk q pl.hpn = true ∧
      (s.hasWalk q pl.hpn = false →
        ∃ r ∈ (deliverWalk p hpn v s).mapUnit.reads, r.port = q ∧ r.hpn = pl.hpn ∧ r.issued = false) := by
  have hcached : (s.walkDelivered p hpn v).cached q pl.hpn = none := walkDelivered_cached_none hc hne
  have hentry : (s.walkDelivered p hpn v).entry q tag = some e := walkDelivered_entry he hstate
  have hroom : (s.walkDelivered p hpn v).walker.walks.length < Config.walkQueueSize := walkDelivered_room hwalk hlength
  have hwalks : (s.walkDelivered p hpn v).hasWalk q pl.hpn = s.hasWalk q pl.hpn := walkDelivered_hasWalk hne
  rw [deliverWalk_eq, retryAll_cons (r := (q, tag)) (more := more) (by rw [walkDelivered_walker]; exact hretry),
    retryOne_of_waiting hentry hstate]
  generalize s.walkDelivered p hpn v = d at *
  have hrest := retryList_translated more (translate q tag d)
  cases hjoin : s.hasWalk q pl.hpn with
  | true =>
    rw [hjoin] at hwalks
    have ht := translate_of_walk hentry hplace hcached hwalks
    refine ⟨retryList_entry_of_not_waiting more ?_ (by simp), hrest.hasWalk ?_, nofun⟩
    · rw [ht, setEntryState_entry]
      exact congrArg (Option.map fun e : ReqEntry => { e with state := .walking }) hentry
    · rw [ht]
      exact hwalks
  | false =>
    rw [hjoin] at hwalks
    have ht := translate_of_room hentry hplace hcached hwalks hroom
    refine ⟨retryList_entry_of_not_waiting more ?_ (by simp), hrest.hasWalk ?_, fun _ => ?_⟩
    · rw [ht, setEntryState_entry]
      exact congrArg (Option.map fun e : ReqEntry => { e with state := .walking }) hentry
    · rw [ht]
      exact List.any_eq_true.2 ⟨_, List.mem_append_right _ (List.mem_singleton_self _), by simp [Walk.isOf]⟩
    · obtain ⟨rs, k, hm, -⟩ := hrest.mapUnit
      rw [hm, ht]
      exact ⟨_, List.mem_append_left _ (List.mem_append_right _ (List.mem_singleton_self _)), rfl, rfl, rfl⟩

/-- The requests that the walk serves take its result, and keep it. -/
theorem deliverWalk_served {k : Nat} (hstate : (s.link p).state ≠ .detaching) (hnodup : ((s.queue p).map ReqEntry.tag).Nodup)
    (hk : (s.queue p)[k]? = some e) (hwalking : e.state = .walking) (hnames : e.namesHpn hpn = true) :
    ((deliverWalk p hpn v s).queue p)[k]? = some { e with state := v.servedState e.kind } := by
  rw [deliverWalk_eq]
  refine retryList_getElem?_of_not_waiting _ (by rw [walkDelivered_tags]; exact hnodup) ?_ (v.servedState_not_waiting _)
  rw [walkDelivered_queue hstate, List.getElem?_map, hk]
  simp [ReqEntry.walkedBy, hwalking, hnames]

theorem deliverWalk_of_no_retry (h : s.walker.retry = []) : deliverWalk p hpn v s = s.walkDelivered p hpn v := by
  rw [deliverWalk_eq, retryAll, walkDelivered_walker]
  exact congrArg (List.foldl retryOne _) h

end

/-- Settles O40. -/
theorem mapReadResultsAreTaken : Obligations.MapReadResultsAreTaken := by
  unfold Obligations.MapReadResultsAreTaken
  intro p hpn v s hop hfound
  have hexec := exec_mapReadResult_of_found hop hfound
  have hflight (u : State) : (takeMapResult p hpn v u).flight = u.flight :=
    Block.same_of_outside (b := .flight) (takeMapResult_outside (bs := [.requests, .caches, .walker, .mapUnit]) u
      (by simp) (by simp) (by simp) (by simp) p hpn v) (by simp)
  have htaken {b : Bool} (h : s.isStale p hpn = b) : (s.mapResultTaken p hpn).isStale p hpn = b := h
  refine ⟨_, hexec, fun x hx => ?taken, fun hstale => ?stale, fun hfresh hnone => ?repair, fun x hfresh hv => ?data⟩
  case taken =>
    rw [settleAll_flight, hflight] at hx
    obtain ⟨-, hx⟩ := List.mem_filter.1 hx
    rintro ⟨hport, hhpn⟩
    simp [hport, hhpn] at hx
  case stale =>
    have hagain : takeMapResult p hpn v (s.mapResultTaken p hpn) =
        askRead p hpn (setStale p hpn false (s.mapResultTaken p hpn)) :=
      (if_pos (htaken hstale)).trans (walkAgain_of_walk (hasWalk_of_isStale (htaken hstale)))
    rw [hagain, State.isStale, settleAll_walker, settleAll_mapUnit, settleAll_caches]
    exact ⟨setStale_false_isStale p hpn _, rfl, rfl, rfl⟩
  case repair =>
    subst hnone
    have hstart : takeMapResult p hpn none (s.mapResultTaken p hpn) = startRepair p hpn (s.mapResultTaken p hpn) :=
      if_neg (by rw [htaken hfresh]; nofun)
    rw [hstart, settleAll_walker, settleAll_mapUnit, settleAll_caches, startRepair]
    let u := (s.mapResultTaken p hpn).setMapUnit { (s.mapResultTaken p hpn).mapUnit with
      repairs := (s.mapResultTaken p hpn).mapUnit.repairs ++ [{ port := p, hpn := hpn, phase := .queued }] }
    have houtside : (startHeadRepair u).outside [.mapUnit] = u.outside [.mapUnit] := startHeadRepair_outside _ (by simp)
    refine ⟨Block.same_of_outside (b := .walker) houtside (by simp), Block.same_of_outside (b := .caches) houtside (by simp),
      fun hempty => ?_, fun r rest hrepairs hphase => ?_⟩
    · have hu : u.mapUnit.repairs = [{ port := p, hpn := hpn, phase := .queued }] := congrArg (· ++ _) hempty
      exact congrArg (fun t => t.mapUnit.repairs) (startHeadRepair_of_queued hu rfl)
    · have hu : u.mapUnit.repairs = r :: (rest ++ [{ port := p, hpn := hpn, phase := .queued }]) :=
        congrArg (· ++ _) hrepairs
      exact congrArg (fun t => t.mapUnit.repairs) (startHeadRepair_of_started hu hphase)
  case data =>
    subst hv
    have hdeliver : takeMapResult p hpn (some x) (s.mapResultTaken p hpn) = deliverWalk p hpn x (s.mapResultTaken p hpn) :=
      if_neg (by rw [htaken hfresh]; nofun)
    rw [hdeliver]
    have hcache (q : PortId) (u : State) : (settleAll s u).cache q = u.cache q :=
      congrArg (Quad.get · q) (settleAll_caches s u)
    have hwalkOf (q : PortId) (n : Nat) (u : State) : (settleAll s u).hasWalk q n = u.hasWalk q n := by
      rw [State.hasWalk, settleAll_walker]
      rfl
    have hall := retryAll_translated ((s.mapResultTaken p hpn).walkDelivered p hpn x)
    rw [← deliverWalk_eq] at hall
    refine ⟨?walks, fun hattached hnodup => ⟨fun f a hvalid => ⟨?_, ?_, fun hretry => ?_, fun k e hk hwalking hnames => ?_⟩,
      fun hinvalid => ⟨fun hretry => ?_, fun k e hk hwalking hnames => ?_⟩⟩, fun q tag e pl hmem he hplace => ?held,
      fun q tag e pl more hretry hdistinct he hstate hplace hne => ⟨fun c hc hq => ?hit, fun hc hwalk hlength => ?miss⟩⟩
    case walks =>
      rw [settleAll_walker]
      by_cases hretry : s.walker.retry = []
      · refine ⟨[], ?_, fun _ => rfl⟩
        rw [deliverWalk_of_no_retry (s := s.mapResultTaken p hpn) hretry, walkDelivered_walker, List.append_nil]
        rfl
      · obtain ⟨new, hnew, -⟩ := hall.walks
        refine ⟨new, ?_, fun h => absurd h hretry⟩
        rw [hnew, walkDelivered_walker]
        rfl
    case held =>
      rw [settleAll_walker] at hmem
      rw [settleAll_entry (by rw [hplace]; rfl)] at he
      rw [hcache, hwalkOf, settleAll_walker]
      rw [deliverWalk_eq] at hmem he ⊢
      exact retryAll_held _ (q, tag) hmem e pl he hplace
    case hit =>
      rw [settleAll_entry (by exact Option.isSome_iff_exists.2 ⟨pl, hplace⟩), ← accessCheck_eq]
      exact deliverWalk_first_hit (s := s.mapResultTaken p hpn) hretry he hstate hplace hc hq
    case miss =>
      obtain ⟨hentry, hhas, hread⟩ := deliverWalk_first_miss (s := s.mapResultTaken p hpn) (v := x) hretry he hstate
        hplace hne hc hwalk hlength
      rw [settleAll_entry (by exact Option.isSome_iff_exists.2 ⟨pl, hplace⟩), hwalkOf, settleAll_mapUnit]
      exact ⟨hentry, hhas, hread⟩
    all_goals have hsession : ((s.mapResultTaken p hpn).link p).state ≠ .detaching := by
                show (s.link p).state ≠ .detaching
                rw [hattached]
                nofun
    · subst hvalid
      rw [hcache]
      have hcached := hall.cached p hpn
      refine List.mem_of_find?_eq_some (p := fun c : CacheEntry => c.hpn == hpn) (hcached.trans ?_)
      rw [State.cached, walkDelivered_cache_valid hsession]
      exact (install_spec _ _).2.2
    · subst hvalid
      rw [hcache]
      refine (hall.cacheLength p).trans ?_
      rw [walkDelivered_cache_valid hsession]
      exact (install_spec _ _).2.1
    · subst hvalid
      rw [hcache, deliverWalk_of_no_retry (s := s.mapResultTaken p hpn) hretry, walkDelivered_cache_valid hsession]
      exact (install_spec _ _).1
    · subst hvalid
      have hserved := deliverWalk_served (s := s.mapResultTaken p hpn) (v := .valid f a) hsession hnodup hk hwalking hnames
      rw [(settleAll_queue_link s _ p).1, sweepQueue_getElem?, hserved, ← accessCheck_eq]
      exact congrArg some (ReqEntry.swept_of_not_waiting (accessCheck_not_waiting _ _ _))
    · subst hinvalid
      rw [hcache, deliverWalk_of_no_retry (s := s.mapResultTaken p hpn) hretry, walkDelivered_cache_invalid]
      rfl
    · subst hinvalid
      have hserved := deliverWalk_served (s := s.mapResultTaken p hpn) (v := .invalid) hsession hnodup hk hwalking hnames
      rw [(settleAll_queue_link s _ p).1, sweepQueue_getElem?, hserved]
      exact congrArg some (ReqEntry.swept_of_not_waiting (by simp [MapValue.servedState]))

end Sys2Proof.Machine
end

section
/-! A performed map write (R30): its requests unbound and translated again, its repair ended, its producer told. -/

namespace Sys2Proof.Machine

/-! ### Unbinding (R45) -/

/-- The entry is BOUND. -/
def ReqEntry.isBound (e : ReqEntry) : Bool :=
  match e.state with
  | .bound _ => true
  | .waiting => false
  | .walking => false
  | .issued _ _ _ _ => false
  | .done _ _ => false

/-- The tags of the entries bound through the page, in acceptance order. -/
def State.boundTags (s : State) (p : PortId) (hpn : Nat) : List Nat :=
  ((s.queue p).filter fun e => e.namesHpn hpn && e.isBound).map ReqEntry.tag

/-- The entries of these tags return to WAITING. -/
def returnToWaiting (p : PortId) (tags : List Nat) (s : State) : State :=
  tags.foldl (fun s tag => setEntryState p tag .waiting s) s

/-- The entries of these tags translate, in this order. -/
def translateAll (p : PortId) (tags : List Nat) (s : State) : State := tags.foldl (fun s tag => translate p tag s) s

theorem unbind_eq (p : PortId) (hpn : Nat) (s : State) :
    unbind p hpn s = translateAll p (s.boundTags p hpn) (returnToWaiting p (s.boundTags p hpn) s) := by
  rw [translateAll, returnToWaiting, State.boundTags, List.foldl_map, List.foldl_map]
  rfl

section
variable {p q : PortId} {hpn tag : Nat} {s : State} {tags : List Nat}

theorem returnToWaiting_queue : (returnToWaiting p tags s).queue p =
    (s.queue p).map fun e => if e.tag ∈ tags then { e with state := .waiting } else e := by
  induction tags generalizing s with
  | nil => simp [returnToWaiting]
  | cons tag tags ih =>
    refine (ih (s := setEntryState p tag .waiting s)).trans ?_
    rw [setEntryState_queue_same, List.map_map]
    refine List.map_congr_left fun e _ => ?_
    by_cases h : e.tag = tag <;> simp [h]

theorem returnToWaiting_samePort (hq : q ≠ p) : samePort q s (returnToWaiting p tags s) :=
  List.foldlRecOn (motive := fun u : State => samePort q s u) tags _ (.refl q s)
    fun _ h _ _ => h.trans (setEntryState_samePort hq _)

theorem returnToWaiting_translated (p : PortId) (tags : List Nat) (s : State) : Translated s (returnToWaiting p tags s) :=
  List.foldlRecOn (motive := fun u : State => Translated s u) tags _ (.refl s)
    fun _ h _ _ => h.trans (.setEntryState ..)

theorem translate_samePort (hq : q ≠ p) : samePort q s (translate p tag s) := by
  obtain ⟨h, -⟩ | ⟨e, pl, -, -, ⟨c, hc, h⟩ | ⟨-, -, h⟩ | ⟨-, -, -, h⟩ | ⟨-, -, -, h⟩⟩ := translate_cases p tag s
  · rw [h]
    exact .refl q s
  · rw [h]
    have hcache : samePort q s (leaveRetry p tag (s.setCache p (c :: (s.cache p).filter fun c' => !(c'.hpn == pl.hpn)))) :=
      ⟨rfl, rfl, State.setCache_cache_ne _ _ hq⟩
    exact hcache.trans (setEntryState_samePort hq _)
  · rw [h]
    exact setEntryState_samePort (s := leaveRetry p tag s) hq _
  · rw [h]
    exact setEntryState_samePort (s := leaveRetry p tag (createWalk p pl.hpn s)) hq _
  · rw [h]
    obtain ⟨l, hl⟩ := joinRetry_only_retry p tag s
    rw [hl]
    exact .refl q s

theorem translateAll_samePort (hq : q ≠ p) : samePort q s (translateAll p tags s) :=
  List.foldlRecOn (motive := fun u : State => samePort q s u) tags _ (.refl q s)
    fun _ h _ _ => h.trans (translate_samePort hq)

theorem translateAll_translated (p : PortId) (tags : List Nat) (s : State) : Translated s (translateAll p tags s) :=
  List.foldlRecOn (motive := fun u : State => Translated s u) tags _ (.refl s)
    fun u h tag _ => h.trans (translate_translated p tag u)

theorem unbind_translated (p : PortId) (hpn : Nat) (s : State) : Translated s (unbind p hpn s) := by
  rw [unbind_eq]
  exact (returnToWaiting_translated ..).trans (translateAll_translated ..)

theorem unbind_samePort (hq : q ≠ p) : samePort q s (unbind p hpn s) := by
  rw [unbind_eq]
  exact (returnToWaiting_samePort hq).trans (translateAll_samePort hq)

/-- What one translation does to its port's queue: nothing, or the entries of the tag walk or take the access check. -/
theorem translate_queue : (translate p tag s).queue p = s.queue p ∨ ∃ e pl st, s.entry p tag = some e ∧
    placeOf e.kind = some pl ∧ (st = .walking ∨ ∃ c, s.cached p pl.hpn = some c ∧ st = accessCheck e.kind c.frame c.access) ∧
    (translate p tag s).queue p = (s.queue p).map fun e => if e.tag = tag then { e with state := st } else e := by
  obtain ⟨h, -⟩ | ⟨e, pl, he, hplace, ⟨c, hc, h⟩ | ⟨-, -, h⟩ | ⟨-, -, -, h⟩ | ⟨-, -, -, h⟩⟩ := translate_cases p tag s
  · exact .inl (by rw [h])
  · exact .inr ⟨e, pl, _, he, hplace, .inr ⟨c, hc, rfl⟩, by rw [h, setEntryState_queue_same]; rfl⟩
  · exact .inr ⟨e, pl, _, he, hplace, .inl rfl, by rw [h, setEntryState_queue_same]; rfl⟩
  · exact .inr ⟨e, pl, _, he, hplace, .inl rfl, by rw [h, setEntryState_queue_same]; rfl⟩
  · refine .inl ?_
    obtain ⟨l, hl⟩ := joinRetry_only_retry p tag s
    rw [h, hl]
    rfl

/-- The port's tags are distinct, its cache has no entry of the page, and no request is bound through it. -/
structure NoneBound (p : PortId) (hpn : Nat) (s : State) : Prop where
  nodup : ((s.queue p).map ReqEntry.tag).Nodup
  cached : s.cached p hpn = none
  bound : ∀ e ∈ s.queue p, e.namesHpn hpn = true → e.isBound = false

theorem NoneBound.translate (h : NoneBound p hpn s) (tag : Nat) : NoneBound p hpn (translate p tag s) where
  nodup := by
    rw [translate_tags]
    exact h.nodup
  cached := ((translate_translated p tag s).cached p hpn).trans h.cached
  bound := by
    obtain hsame | ⟨e0, pl, st, he0, hplace, hst, hqueue⟩ := translate_queue (p := p) (tag := tag) (s := s)
    · rw [hsame]
      exact h.bound
    · rw [hqueue]
      intro e he hnames
      obtain ⟨b, hb, rfl⟩ := List.mem_map.1 he
      by_cases htag : b.tag = tag
      · rw [if_pos htag] at hnames ⊢
        obtain rfl := State.entry_unique h.nodup he0 hb htag
        have hpage : pl.hpn = hpn := by simpa [ReqEntry.namesHpn, hplace] using hnames
        obtain rfl | ⟨c, hc, -⟩ := hst
        · rfl
        · rw [hpage, h.cached] at hc
          cases hc
      · rw [if_neg htag] at hnames ⊢
        exact h.bound b hb hnames

theorem unbind_noneBound (hnodup : ((s.queue p).map ReqEntry.tag).Nodup) (hcached : s.cached p hpn = none) :
    NoneBound p hpn (unbind p hpn s) := by
  rw [unbind_eq]
  refine List.foldlRecOn (motive := fun u : State => NoneBound p hpn u) _ _ ⟨?_, ?_, fun e he hnames => ?_⟩
    fun u h tag _ => h.translate tag
  · rw [returnToWaiting_queue, List.map_map]
    have htags : (ReqEntry.tag ∘ fun e => if e.tag ∈ s.boundTags p hpn then { e with state := .waiting } else e) =
        ReqEntry.tag := by
      funext e
      simp only [Function.comp_apply]
      split <;> rfl
    rw [htags]
    exact hnodup
  · exact ((returnToWaiting_translated ..).cached p hpn).trans hcached
  · rw [returnToWaiting_queue] at he
    obtain ⟨b, hb, rfl⟩ := List.mem_map.1 he
    by_cases htag : b.tag ∈ s.boundTags p hpn
    · rw [if_pos htag]
      rfl
    · rw [if_neg htag] at hnames ⊢
      by_contra hbound
      refine htag (List.mem_map.2 ⟨b, List.mem_filter.2 ⟨hb, ?_⟩, rfl⟩)
      rw [hnames, Bool.true_and]
      simpa using hbound

/-! ### What is ISSUED stays ISSUED -/

/-- No entry of these tags is ISSUED. -/
def State.noneIssued (s : State) (p : PortId) (tags : List Nat) : Prop :=
  ∀ e ∈ s.queue p, e.tag ∈ tags → ∀ f, e.issuedTo f = false

theorem issuedTo_of_translated {e : ReqEntry} {kind : ReqKind} {st : ReqState} {a : Access} {g : Nat}
    (h : st = .walking ∨ st = accessCheck kind g a) (f : Nat) : ({ e with state := st } : ReqEntry).issuedTo f = false := by
  obtain rfl | rfl := h
  · rfl
  · rw [accessCheck_eq]
    split <;> rfl

theorem translate_issued {f : Nat} (hnone : s.noneIssued p [tag]) : ((translate p tag s).queue p).map (ReqEntry.issuedTo · f) =
    (s.queue p).map (ReqEntry.issuedTo · f) := by
  obtain hsame | ⟨e0, pl, st, he0, hplace, hst, hqueue⟩ := translate_queue (p := p) (tag := tag) (s := s)
  · rw [hsame]
  · rw [hqueue, List.map_map]
    refine List.map_congr_left fun e he => ?_
    simp only [Function.comp_apply]
    split
    · next htag =>
      rw [hnone e he (by simp [htag]) f]
      obtain rfl | ⟨c, -, rfl⟩ := hst
      · rfl
      · exact issuedTo_of_translated (.inr rfl) f
    · rfl

theorem translate_noneIssued (hnone : s.noneIssued p tags) (tag : Nat) : (translate p tag s).noneIssued p tags := by
  obtain hsame | ⟨e0, pl, st, he0, hplace, hst, hqueue⟩ := translate_queue (p := p) (tag := tag) (s := s)
  · rw [State.noneIssued, hsame]
    exact hnone
  · rw [State.noneIssued, hqueue]
    intro e he htag f
    obtain ⟨b, hb, rfl⟩ := List.mem_map.1 he
    by_cases h : b.tag = tag
    · rw [if_pos h]
      obtain rfl | ⟨c, -, rfl⟩ := hst
      · rfl
      · exact issuedTo_of_translated (.inr rfl) f
    · rw [if_neg h] at htag ⊢
      exact hnone b hb htag f

theorem translateAll_issued {f : Nat} (hnone : s.noneIssued p tags) :
    ((translateAll p tags s).queue p).map (ReqEntry.issuedTo · f) = (s.queue p).map (ReqEntry.issuedTo · f) := by
  have hfold := List.foldlRecOn (motive := fun u : State => u.noneIssued p tags ∧
      (u.queue p).map (ReqEntry.issuedTo · f) = (s.queue p).map (ReqEntry.issuedTo · f)) tags
    (fun s tag => translate p tag s) ⟨hnone, rfl⟩ fun u h tag htag =>
      ⟨translate_noneIssued h.1 tag, (translate_issued fun e he hmem => h.1 e he (by
        rw [List.mem_singleton.1 hmem]
        exact htag)).trans h.2⟩
  exact hfold.2

theorem isBound_issuedTo {e : ReqEntry} (h : e.isBound = true) (f : Nat) : e.issuedTo f = false := by
  cases hstate : e.state <;> simp [ReqEntry.isBound, ReqEntry.issuedTo, hstate] at h ⊢

/-- Unbinding changes no entry that is ISSUED. -/
theorem unbind_issued (hnodup : ((s.queue p).map ReqEntry.tag).Nodup) (f : Nat) :
    ((unbind p hpn s).queue p).map (ReqEntry.issuedTo · f) = (s.queue p).map (ReqEntry.issuedTo · f) := by
  have hbound {e : ReqEntry} (he : e ∈ s.queue p) (htag : e.tag ∈ s.boundTags p hpn) : e.isBound = true := by
    obtain ⟨b, hb, hbtag⟩ := List.mem_map.1 htag
    obtain ⟨hmem, hbound⟩ := List.mem_filter.1 hb
    rw [List.inj_on_of_nodup_map hnodup he hmem hbtag.symm]
    exact (Bool.and_eq_true_iff.1 hbound).2
  rw [unbind_eq, translateAll_issued, returnToWaiting_queue, List.map_map]
  · refine List.map_congr_left fun e he => ?_
    simp only [Function.comp_apply]
    split
    · next htag => exact (isBound_issuedTo (hbound he htag) f).symm
    · rfl
  · intro e he htag g
    rw [returnToWaiting_queue] at he
    obtain ⟨b, hb, rfl⟩ := List.mem_map.1 he
    by_cases h : b.tag ∈ s.boundTags p hpn
    · rw [if_pos h]
      rfl
    · rw [if_neg h] at htag
      exact absurd htag h

theorem any_issuedTo_of_map {l l' : List ReqEntry} {f : Nat}
    (h : l.map (ReqEntry.issuedTo · f) = l'.map (ReqEntry.issuedTo · f)) :
    (l.any fun e => e.issuedTo f) = l'.any fun e => e.issuedTo f := by
  have hany (x : List ReqEntry) : (x.any fun e => e.issuedTo f) = (x.map (ReqEntry.issuedTo · f)).any id := by
    rw [List.any_map]
    rfl
  rw [hany, hany, h]

end

/-! ### The waiting writes that find a place (R28) -/

/-- A repair that stands as it was or gave way. -/
def Repair.standsOrGaveWay (r r' : Repair) : Prop :=
  r'.port = r.port ∧ r'.hpn = r.hpn ∧ (r'.phase = r.phase ∨ ∃ n, r'.phase = .superseded n)

theorem Repair.standsOrGaveWay.trans {a b c : Repair} (h : a.standsOrGaveWay b) (h' : b.standsOrGaveWay c) :
    a.standsOrGaveWay c := by
  obtain ⟨hp, hh, hphase⟩ := h
  obtain ⟨hp', hh', hphase'⟩ := h'
  refine ⟨hp'.trans hp, hh'.trans hh, ?_⟩
  obtain heq | hn := hphase'
  · rw [heq]
    exact hphase
  · exact .inr hn

/-- From `m` to `m'` waiting writes arrived: reads stay, and repairs stand or gave way. -/
structure WritesArrived (m m' : MapUnit) : Prop where
  reads : m'.reads = m.reads
  repairs : List.Forall₂ Repair.standsOrGaveWay m.repairs m'.repairs

theorem Repair.standsOrGaveWay.refl (r : Repair) : r.standsOrGaveWay r := ⟨rfl, rfl, .inl rfl⟩

theorem WritesArrived.refl (m : MapUnit) : WritesArrived m m := ⟨rfl, List.forall₂_same.2 fun r _ => .refl r⟩

theorem forall₂_trans {α : Type} {R : α → α → Prop} (hR : ∀ a b c, R a b → R b c → R a c) {l l' l'' : List α}
    (h : List.Forall₂ R l l') (h' : List.Forall₂ R l' l'') : List.Forall₂ R l l'' := by
  induction h generalizing l'' with
  | nil =>
    cases h'
    exact .nil
  | cons hab _ ih =>
    cases h' with
    | cons hbc htail => exact .cons (hR _ _ _ hab hbc) (ih htail)

theorem WritesArrived.trans {m m' m'' : MapUnit} (h : WritesArrived m m') (h' : WritesArrived m' m'') : WritesArrived m m'' :=
  ⟨h'.reads.trans h.reads, forall₂_trans (fun a b c (hab : a.standsOrGaveWay b) (hbc : b.standsOrGaveWay c) => hab.trans hbc) h.repairs h'.repairs⟩

theorem supersedeRepair_arrived (p : PortId) (hpn n : Nat) (m : MapUnit) : WritesArrived m (supersedeRepair p hpn n m) := by
  unfold supersedeRepair
  split
  · refine ⟨rfl, List.forall₂_map_right_iff.2 (List.forall₂_same.2 fun r _ => ?_)⟩
    split
    · exact ⟨rfl, rfl, .inr ⟨n, rfl⟩⟩
    · exact .refl r
  · exact .refl m

theorem arriveWrite_arrived (w : MapWrite) (m : MapUnit) : WritesArrived m (arriveWrite w m) := by
  have hjoin : WritesArrived m
      { m with queue := m.queue ++ [{ write := w, arrival := m.arrivals }], arrivals := m.arrivals + 1 } :=
    ⟨rfl, List.forall₂_same.2 fun r _ => .refl r⟩
  unfold arriveWrite
  dsimp only
  split
  · exact hjoin
  · exact hjoin.trans (supersedeRepair_arrived ..)

theorem drainWaiting_arrived (n : Nat) (m : MapUnit) : WritesArrived m (drainWaiting n m) := by
  induction n generalizing m with
  | zero => exact .refl m
  | succ n ih =>
    unfold drainWaiting
    split
    · exact .refl m
    · next w ws _ =>
      split
      · have htake : WritesArrived m { m with waiting := ws } := ⟨rfl, List.forall₂_same.2 fun r _ => .refl r⟩
        exact (htake.trans (arriveWrite_arrived ..)).trans (ih _)
      · exact .refl m

theorem MapUnit.drained_arrived (m : MapUnit) : WritesArrived m m.drained := drainWaiting_arrived ..

/-! ### A repair ends (R34, R35) -/

/-- `s` without the repair of (p, hpn), its record handed over. -/
def State.repairEnded (s : State) (p : PortId) (hpn : Nat) (d : RepairDetail) : State :=
  (handFault (.mapRepaired p hpn d) s).setMapUnit { s.mapUnit with
    repairs := s.mapUnit.repairs.filter fun r => !(r.port == p && r.hpn == hpn) }

theorem endRepair_eq (p : PortId) (hpn : Nat) (d : RepairDetail) (s : State) :
    endRepair p hpn d s = startHeadRepair (walkAgain p hpn (s.repairEnded p hpn d)) := rfl

section
variable {p : PortId} {hpn : Nat} {d : RepairDetail} {s : State}

theorem startHeadRepair_reads (s : State) : (startHeadRepair s).mapUnit.reads = s.mapUnit.reads := by
  cases hrepairs : s.mapUnit.repairs with
  | nil => simp only [startHeadRepair, hrepairs]
  | cons r rest =>
    by_cases hphase : r.phase = .queued
    · rw [startHeadRepair_of_queued hrepairs hphase]
      rfl
    · rw [startHeadRepair_of_started hrepairs hphase]

theorem startHeadRepair_walker (s : State) : (startHeadRepair s).walker = s.walker :=
  Block.same_of_outside (b := .walker) (startHeadRepair_outside (bs := [.mapUnit]) s (by simp)) (by simp)

/-- No repair but the head's search starts, and the head is not left QUEUED. -/
theorem startHeadRepair_repairs (s : State) :
    (∀ x ∈ (startHeadRepair s).mapUnit.repairs, ∃ y ∈ s.mapUnit.repairs, x.port = y.port ∧ x.hpn = y.hpn) ∧
      ∀ x, (startHeadRepair s).mapUnit.repairs.head? = some x → x.phase ≠ .queued := by
  cases hrepairs : s.mapUnit.repairs with
  | nil => simp [startHeadRepair, hrepairs]
  | cons r rest =>
    by_cases hphase : r.phase = .queued
    · rw [startHeadRepair_of_queued hrepairs hphase]
      refine ⟨fun x hx => ?_, fun x hx => ?_⟩
      · rcases List.mem_cons.1 hx with rfl | hmem
        · exact ⟨r, List.mem_cons_self, rfl, rfl⟩
        · exact ⟨x, List.mem_cons_of_mem _ hmem, rfl, rfl⟩
      · obtain rfl := Option.some.inj hx
        simp
    · rw [startHeadRepair_of_started hrepairs hphase, hrepairs]
      refine ⟨fun x hx => ⟨x, hx, rfl, rfl⟩, fun x hx => ?_⟩
      obtain rfl := Option.some.inj hx
      exact hphase

theorem walkAgain_repairs (s : State) : (walkAgain p hpn s).mapUnit.repairs = s.mapUnit.repairs := by
  unfold walkAgain
  split <;> rfl

theorem endRepair_flight : (endRepair p hpn d s).flight.faults = s.flight.faults ++ [.mapRepaired p hpn d] := by
  have h : (startHeadRepair (walkAgain p hpn (s.repairEnded p hpn d))).flight = (s.repairEnded p hpn d).flight :=
    (Block.same_of_outside (b := .flight) (startHeadRepair_outside (bs := [.mapUnit]) _ (by simp)) (by simp)).trans
      (Block.same_of_outside (b := .flight) (walkAgain_outside (bs := [.walker, .mapUnit]) (s.repairEnded p hpn d)
        (by simp) (by simp) p hpn) (by simp))
  rw [endRepair_eq, h]
  rfl

theorem endRepair_repairs : (∀ x ∈ (endRepair p hpn d s).mapUnit.repairs, ¬(x.port = p ∧ x.hpn = hpn)) ∧
    ∀ x, (endRepair p hpn d s).mapUnit.repairs.head? = some x → x.phase ≠ .queued := by
  rw [endRepair_eq]
  obtain ⟨hkeys, hhead⟩ := startHeadRepair_repairs (walkAgain p hpn (s.repairEnded p hpn d))
  refine ⟨fun x hx => ?_, hhead⟩
  obtain ⟨y, hy, hport, hhpn⟩ := hkeys x hx
  rw [walkAgain_repairs] at hy
  obtain ⟨-, hne⟩ := List.mem_filter.1 hy
  rw [hport, hhpn]
  rintro ⟨rfl, rfl⟩
  simp at hne

theorem endRepair_walks (hwalk : s.hasWalk p hpn = true) : (endRepair p hpn d s).isStale p hpn = false ∧
    ∃ x ∈ (endRepair p hpn d s).mapUnit.reads, x.port = p ∧ x.hpn = hpn ∧ x.issued = false := by
  rw [endRepair_eq, State.isStale, startHeadRepair_walker, startHeadRepair_reads,
    walkAgain_of_walk (s := s.repairEnded p hpn d) hwalk]
  exact ⟨setStale_false_isStale p hpn _, _, List.mem_append_right _ (List.mem_singleton_self _), rfl, rfl, rfl⟩

end

/-! ### The first drain check (R100 to R103) -/

section
variable {rid : Nat} {r : RecallRecord} {s : State}

/-- The record DRAINING, as its invalid write was performed. -/
def RecallRecord.turnDraining (r : RecallRecord) : RecallRecord :=
  { r with phase := .draining, drained := match r.role with | .holder => some false | .reader => none }

theorem unmapPerformed_eq (rid : Nat) (s : State) :
    unmapPerformed rid s = drainCheck rid (updateRecall rid RecallRecord.turnDraining s) := rfl

theorem drainCheck_of_busy (hr : s.recordById rid = some r) (hbusy : (s.queue r.port).any (fun e => e.issuedTo r.frame) = true) :
    drainCheck rid s = s := by
  simp only [drainCheck, hr]
  exact if_pos (.inr hbusy)

theorem drainCheck_of_drained (hr : s.recordById rid = some r) (hphase : r.phase = .draining)
    (hidle : (s.queue r.port).any (fun e => e.issuedTo r.frame) = false) :
    (r.role = .reader ∨ (s.record r.frame).hasReader = false → drainCheck rid s = reportComplete rid s) ∧
    (r.role = .holder → (s.record r.frame).hasReader = true →
      drainCheck rid s = updateRecall rid (fun r => { r with drained := some true }) s) := by
  have hready : ¬(r.phase ≠ .draining ∨ (s.queue r.port).any (fun e => e.issuedTo r.frame) = true) := by
    simp [hphase, hidle]
  refine ⟨fun h => ?_, fun hrole hreader => ?_⟩
  · cases hrole : r.role with
    | reader => simp only [drainCheck, hr, if_neg hready, hrole]
    | holder =>
      have hreader : (s.record r.frame).hasReader = false := h.resolve_left (by rw [hrole]; nofun)
      simp only [drainCheck, hr, if_neg hready, hrole, hreader, Bool.false_eq_true, if_false]
  · simp only [drainCheck, hr, if_neg hready, hrole, hreader, if_true]

theorem reportComplete_recordById (n : Nat) : (reportComplete rid s).recordById n = s.recordById n := by
  unfold reportComplete
  split <;> rfl

/-- What the performed invalid write of a record comes to. -/
theorem unmapPerformed_spec (hr : s.recordById rid = some r) {busy : Bool}
    (hbusy : (s.queue r.port).any (fun e => e.issuedTo r.frame) = busy) :
    (r.role = .reader → (unmapPerformed rid s).recordById rid = some { r with phase := .draining, drained := none }) ∧
    (r.role = .holder →
      (busy = true ∨ (s.record r.frame).hasReader = false →
        (unmapPerformed rid s).recordById rid = some { r with phase := .draining, drained := some false }) ∧
      (busy = false → (s.record r.frame).hasReader = true →
        (unmapPerformed rid s).recordById rid = some { r with phase := .draining, drained := some true })) ∧
    (busy = false → r.role = .reader ∨ (s.record r.frame).hasReader = false →
      rid ∈ (unmapPerformed rid s).recalls.reported) ∧
    (busy = true ∨ r.role = .holder ∧ (s.record r.frame).hasReader = true →
      (unmapPerformed rid s).recalls.reported = s.recalls.reported) := by
  have hturned : (updateRecall rid RecallRecord.turnDraining s).recordById rid = some r.turnDraining := by
    rw [updateRecall_recordById RecallRecord.turnDraining (fun _ => rfl), if_pos rfl, hr]
    rfl
  rw [unmapPerformed_eq]
  generalize hu : updateRecall rid RecallRecord.turnDraining s = u at hturned
  have hany : (u.queue r.turnDraining.port).any (fun e => e.issuedTo r.turnDraining.frame) = busy := by
    rw [← hu]
    exact hbusy
  have hreader : (u.record r.turnDraining.frame).hasReader = (s.record r.frame).hasReader := by
    rw [← hu]
    rfl
  have hreported : u.recalls.reported = s.recalls.reported := by
    rw [← hu]
    rfl
  have hreaderEntry (hrole : r.role = .reader) : r.turnDraining = { r with phase := .draining, drained := none } := by
    simp [RecallRecord.turnDraining, hrole]
  have hholderEntry (hrole : r.role = .holder) : r.turnDraining = { r with phase := .draining, drained := some false } := by
    simp [RecallRecord.turnDraining, hrole]
  cases busy with
  | true =>
    rw [drainCheck_of_busy hturned hany, hturned]
    refine ⟨fun hrole => by rw [hreaderEntry hrole], fun hrole => ⟨fun _ => by rw [hholderEntry hrole], nofun⟩, nofun,
      fun _ => hreported⟩
  | false =>
    obtain ⟨hreports, hmarks⟩ := drainCheck_of_drained hturned rfl hany
    rw [hreader] at hreports hmarks
    refine ⟨fun hrole => ?_, fun hrole => ⟨fun h => ?_, fun _ h => ?_⟩, fun _ h => ?_, fun h => ?_⟩
    · rw [hreports (.inl hrole), reportComplete_recordById, hturned, hreaderEntry hrole]
    · rw [hreports (.inr (h.resolve_left nofun)), reportComplete_recordById, hturned, hholderEntry hrole]
    · rw [hmarks hrole h, updateRecall_recordById (fun r => { r with drained := some true }) (fun _ => rfl), if_pos rfl, hturned, hholderEntry hrole]
      rfl
    · rw [hreports h]
      exact reportComplete_mem _ _
    · obtain ⟨hrole, h⟩ := h.resolve_left nofun
      rw [hmarks hrole h]
      exact hreported

end

end Sys2Proof.Machine
end

section
/-! O39: a grant of the Map Unit (R29, R30, R34, R35, R42, R45). -/

namespace Sys2Proof.Machine

/-! ### The parts of a performed write -/

/-- `s` with the write sent to channel 0 and out of the Map Write Queue, and its page out of the cache (R29, R42). -/
def State.writeSent (s : State) (round : Round) (w : QueuedWrite) : State :=
  let s := enqueue 0 round
    { owner := .mapWrite, frame := 0, line := mapLine w.write.port w.write.hpn, kind := .mapWrite w.write.value } s
  let s := s.setMapUnit { s.mapUnit with queue := s.mapUnit.queue.tail }
  s.setCache w.write.port ((s.cache w.write.port).filter fun c => !(c.hpn == w.write.hpn))

/-- `s` with the requests of the page unbound and its read marked stale besides (R30, R45). -/
def State.writeTaken (s : State) (round : Round) (w : QueuedWrite) : State :=
  markStale w.write.port w.write.hpn (unbind w.write.port w.write.hpn (s.writeSent round w))

/-- `s` with the producer told and the repair that gave way ended besides (R30, R35). -/
def State.writeTold (s : State) (round : Round) (w : QueuedWrite) : State :=
  endSuperseded w (reportPerformed w.write (s.writeTaken round w))

theorem sendMapWrite_eq (round : Round) (w : QueuedWrite) (s : State) : sendMapWrite round w s =
    (s.writeTold round w).setMapUnit (s.writeTold round w).mapUnit.drained := rfl

section
variable {s : State} {round : Round} {w : QueuedWrite} {q : PortId}

theorem markStale_mapUnit (p : PortId) (hpn : Nat) (s : State) : (markStale p hpn s).mapUnit = s.mapUnit :=
  Block.same_of_outside (b := .mapUnit) (markStale_outside (bs := [.walker]) s (by simp) p hpn) (by simp)

theorem markStale_requests (p : PortId) (hpn : Nat) (s : State) : (markStale p hpn s).requests = s.requests :=
  Block.same_of_outside (b := .requests) (markStale_outside (bs := [.walker]) s (by simp) p hpn) (by simp)

theorem markStale_caches (p : PortId) (hpn : Nat) (s : State) : (markStale p hpn s).caches = s.caches :=
  Block.same_of_outside (b := .caches) (markStale_outside (bs := [.walker]) s (by simp) p hpn) (by simp)

/-- What stays until the producer is told. -/
theorem writeTaken_same {b : Block} (hb : b ∉ [Block.requests, .caches, .walker, .mapUnit, .channels]) :
    b.same s (s.writeTaken round w) := by
  refine Block.same_of_outside (bs := [.requests, .caches, .walker, .mapUnit, .channels]) ?_ hb
  unfold State.writeTaken State.writeSent
  simp

/-- The access that a map write makes. -/
def QueuedWrite.access (w : QueuedWrite) : Access64 :=
  { owner := .mapWrite, frame := 0, line := mapLine w.write.port w.write.hpn, kind := .mapWrite w.write.value }

theorem writeTaken_channel : (s.writeTaken round w).channel 0 =
    { queue := (s.channel 0).queue ++ [w.access], round := round } := by
  have hchannels : (s.writeTaken round w).channels = (s.writeSent round w).channels :=
    (Block.same_of_outside (b := .channels) (markStale_outside (bs := [.walker]) _ (by simp) _ _) (by simp)).trans
      ((unbind_translated ..).same (b := .channels) (by simp))
  rw [State.channel, hchannels]
  show (s.channels.set 0 _).get 0 = _
  rw [Quad.get_set_same]
  rfl

theorem writeSent_cached : (s.writeSent round w).cached w.write.port w.write.hpn = none := by
  rw [State.cached, State.writeSent, State.setCache_cache_same]
  refine List.find?_eq_none.2 fun c hc => ?_
  simpa using (List.mem_filter.1 hc).2

theorem writeTaken_cached : (s.writeTaken round w).cached w.write.port w.write.hpn = none := by
  rw [State.cached, State.cache, State.writeTaken, markStale_caches]
  exact ((unbind_translated ..).cached _ _).trans writeSent_cached

theorem writeTaken_queue : (s.writeTaken round w).queue q =
    (unbind w.write.port w.write.hpn (s.writeSent round w)).queue q := by
  rw [State.queue, State.writeTaken, markStale_requests]
  rfl

theorem writeTaken_bound (hnodup : ((s.queue w.write.port).map ReqEntry.tag).Nodup) :
    ∀ e ∈ (s.writeTaken round w).queue w.write.port, e.namesHpn w.write.hpn = true → e.isBound = false := by
  rw [writeTaken_queue]
  exact (unbind_noneBound (s := s.writeSent round w) hnodup writeSent_cached).bound

theorem writeTaken_issued (hnodup : ((s.queue w.write.port).map ReqEntry.tag).Nodup) (f : Nat) :
    ((s.writeTaken round w).queue q).any (fun e => e.issuedTo f) = (s.queue q).any fun e => e.issuedTo f := by
  rw [writeTaken_queue]
  by_cases hq : q = w.write.port
  · subst hq
    exact any_issuedTo_of_map (unbind_issued (s := s.writeSent round w) hnodup f)
  · rw [(unbind_samePort hq).2.1]
    rfl

theorem writeTaken_reads : ∃ rs n, (s.writeTaken round w).mapUnit =
    { s.mapUnit with queue := s.mapUnit.queue.tail, reads := s.mapUnit.reads ++ rs, arrivals := n } ∧
      ∀ r ∈ rs, r.issued = false := by
  obtain ⟨rs, n, hm, hrs⟩ := (unbind_translated w.write.port w.write.hpn (s.writeSent round w)).mapUnit
  exact ⟨rs, n, (markStale_mapUnit ..).trans hm, hrs⟩

/-- The read of the page that was issued and not yet returned. -/
def State.readIssued (s : State) (p : PortId) (hpn : Nat) : Bool :=
  s.mapUnit.reads.any fun r => r.port == p && r.hpn == hpn && r.issued

theorem setStale_hasWalk (p : PortId) (hpn : Nat) (b : Bool) (s : State) : (setStale p hpn b s).hasWalk p hpn = s.hasWalk p hpn := by
  rw [State.hasWalk, setStale, State.hasWalk]
  refine (List.any_map ..).trans (congrArg (fun f => s.walker.walks.any f) (funext fun x => ?_))
  simp only [Function.comp_apply]
  split <;> rfl

theorem setStale_true_isStale {p : PortId} {hpn : Nat} (h : s.hasWalk p hpn = true) :
    (setStale p hpn true s).isStale p hpn = true := by
  obtain ⟨x, hx, hof⟩ := List.any_eq_true.1 h
  refine List.any_eq_true.2 ⟨_, List.mem_map.2 ⟨x, hx, rfl⟩, ?_⟩
  rw [if_pos hof]
  simp only [Bool.and_true]
  exact hof

theorem markStale_hasWalk (p : PortId) (hpn : Nat) (s : State) : (markStale p hpn s).hasWalk p hpn = s.hasWalk p hpn := by
  unfold markStale
  split
  · exact setStale_hasWalk ..
  · rfl

theorem writeTaken_hasWalk (h : s.hasWalk w.write.port w.write.hpn = true) :
    (s.writeTaken round w).hasWalk w.write.port w.write.hpn = true := by
  rw [State.writeTaken, markStale_hasWalk]
  exact (unbind_translated ..).hasWalk h

theorem unbind_readIssued (p : PortId) (hpn : Nat) (s : State) : (unbind p hpn s).readIssued p hpn = s.readIssued p hpn := by
  obtain ⟨rs, n, hm, hrs⟩ := (unbind_translated p hpn s).mapUnit
  have hnone : (rs.any fun r => r.port == p && r.hpn == hpn && r.issued) = false :=
    List.any_eq_false.2 fun r hr => by simp [hrs r hr]
  rw [State.readIssued, hm, List.any_append, hnone, Bool.or_false]
  rfl

theorem markStale_of_issued {p : PortId} {hpn : Nat} (h : s.readIssued p hpn = true) :
    markStale p hpn s = setStale p hpn true s := if_pos h

theorem markStale_of_not_issued {p : PortId} {hpn : Nat} (h : s.readIssued p hpn = false) : markStale p hpn s = s :=
  if_neg (Bool.eq_false_iff.1 h)

theorem writeTaken_isStale (hwalk : s.hasWalk w.write.port w.write.hpn = true) :
    (s.writeTaken round w).isStale w.write.port w.write.hpn =
      (s.readIssued w.write.port w.write.hpn || s.isStale w.write.port w.write.hpn) := by
  have hissued : (unbind w.write.port w.write.hpn (s.writeSent round w)).readIssued w.write.port w.write.hpn =
      s.readIssued w.write.port w.write.hpn := unbind_readIssued ..
  have htranslated := unbind_translated w.write.port w.write.hpn (s.writeSent round w)
  cases h : s.readIssued w.write.port w.write.hpn with
  | true =>
    rw [h] at hissued
    rw [State.writeTaken, markStale_of_issued hissued, Bool.true_or]
    exact setStale_true_isStale (htranslated.hasWalk hwalk)
  | false =>
    rw [h] at hissued
    rw [State.writeTaken, markStale_of_not_issued hissued, Bool.false_or]
    exact htranslated.isStale

end

/-! ### The producer is told (R30, step 4) -/

section
variable {v : State} {m : MapWrite}

/-- An ordinary write's report reaches links, engine and Recall Unit only. -/
theorem reportPerformed_same_of_ordinary (h : m.producer ≠ .repair) {b : Block} (hb : b ∉ [Block.links, .engine, .recalls]) :
    b.same v (reportPerformed m v) := by
  refine Block.same_of_outside (bs := [.links, .engine, .recalls]) ?_ hb
  unfold reportPerformed
  cases hproducer : m.producer with
  | claim p tag => simp
  | accept q tag holder grantTag gid => simp
  | unmap rid => simp
  | repair => exact absurd hproducer h

theorem reportPerformed_of_repair (h : m.producer = .repair) :
    reportPerformed m v = endRepair m.port m.hpn (repairDetail m.value) v := by simp only [reportPerformed, h]

theorem reportPerformed_of_unmap {rid : Nat} (h : m.producer = .unmap rid) : reportPerformed m v = unmapPerformed rid v := by
  simp only [reportPerformed, h]

theorem reportPerformed_of_accept {q holder : PortId} {tag grantTag gid : Nat}
    (h : m.producer = .accept q tag holder grantTag gid) : reportPerformed m v =
      handOver holder (grantCompletion grantTag .ok gid) (handOver q (commandCompletion tag .ok) v) := by
  simp only [reportPerformed, h]

theorem reportPerformed_of_claim {p : PortId} {tag : Nat} (h : m.producer = .claim p tag) :
    reportPerformed m v = claimWritePerformed p tag v := by simp only [reportPerformed, h]

theorem claimWritePerformed_of_last {p : PortId} {tag : Nat} {g : GrantedClaim}
    (hg : v.engine.granted.find? (fun x => x.port == p && x.tag == tag) = some g) (hleft : g.left = 1) :
    claimWritePerformed p tag v = handOver p (commandCompletion tag .ok)
      (v.setEngine { v.engine with granted := v.engine.granted.filter fun g => !(g.port == p && g.tag == tag) }) := by
  simp only [claimWritePerformed, hg]
  exact if_pos hleft.le

theorem claimWritePerformed_completes {p : PortId} {tag : Nat} {g : GrantedClaim}
    (hg : v.engine.granted.find? (fun x => x.port == p && x.tag == tag) = some g) (hleft : g.left = 1)
    (hattached : (v.link p).state = .attached) :
    commandCompletion tag .ok ∈ ((claimWritePerformed p tag v).link p).outbound := by
  rw [claimWritePerformed_of_last hg hleft]
  exact handOver_mem_outbound (by exact hattached) _

theorem claimWritePerformed_directory (p : PortId) (tag : Nat) (v : State) :
    (claimWritePerformed p tag v).engine.directory = v.engine.directory := by
  unfold claimWritePerformed
  split
  · rfl
  · split
    · rw [handOver_engine]
      rfl
    · rfl

theorem reportPerformed_directory (m : MapWrite) (v : State) :
    (reportPerformed m v).engine.directory = v.engine.directory := by
  unfold reportPerformed
  split
  · exact claimWritePerformed_directory ..
  · rw [handOver_engine, handOver_engine]
  · exact congrArg Engine.directory (Block.same_of_outside (b := .engine)
      (unmapPerformed_outside (bs := [.recalls]) v (by simp) _) (by simp))
  · exact congrArg Engine.directory (Block.same_of_outside (b := .engine)
      (endRepair_outside (bs := [.flight, .walker, .mapUnit]) v (by simp) (by simp) (by simp) _ _ _) (by simp))

/-- The producer of an ordinary write gets no fault record. -/
theorem endSuperseded_of_none {w : QueuedWrite} {r : State}
    (h : ∀ x ∈ r.mapUnit.repairs, ¬(x.port = w.write.port ∧ x.hpn = w.write.hpn ∧ x.phase = .superseded w.arrival)) :
    endSuperseded w r = r := by
  refine if_neg fun hany => ?_
  obtain ⟨x, hx, hof⟩ := List.any_eq_true.1 hany
  simp only [Bool.and_eq_true, beq_iff_eq, decide_eq_true_eq] at hof
  exact h x hx ⟨hof.1.1, hof.1.2, hof.2⟩

theorem endSuperseded_of_superseded {w : QueuedWrite} {r : State}
    (h : { port := w.write.port, hpn := w.write.hpn, phase := .superseded w.arrival } ∈ r.mapUnit.repairs) :
    endSuperseded w r = endRepair w.write.port w.write.hpn .superseded r :=
  if_pos (List.any_eq_true.2 ⟨_, h, by simp⟩)

end

section
variable {s : State} {round : Round} {w : QueuedWrite} {q : PortId}

/-- What the end of a repair and the report of an ordinary write leave alone. -/
theorem writeTold_same {b : Block} (hb : b ∉ [Block.links, .engine, .recalls, .flight, .walker, .mapUnit]) :
    b.same (s.writeTaken round w) (s.writeTold round w) := by
  refine Block.same_of_outside (bs := [.links, .engine, .recalls, .flight, .walker, .mapUnit]) ?_ hb
  unfold State.writeTold
  simp

theorem endSuperseded_same (w : QueuedWrite) (r : State) {b : Block} (hb : b ∉ [Block.flight, .walker, .mapUnit]) :
    b.same r (endSuperseded w r) :=
  Block.same_of_outside (endSuperseded_outside (bs := [.flight, .walker, .mapUnit]) r (by simp) (by simp) (by simp) w) hb

theorem writeTold_links : (s.writeTold round w).links = (reportPerformed w.write (s.writeTaken round w)).links :=
  endSuperseded_same w _ (b := .links) (by simp)

theorem writeTold_recalls : (s.writeTold round w).recalls = (reportPerformed w.write (s.writeTaken round w)).recalls :=
  endSuperseded_same w _ (b := .recalls) (by simp)

/-- Without a repair of its entry, an ordinary write ends with the report to its producer. -/
theorem writeTold_of_no_repair (hnone : ∀ x ∈ s.mapUnit.repairs, ¬(x.port = w.write.port ∧ x.hpn = w.write.hpn))
    (hordinary : w.write.producer ≠ .repair) : s.writeTold round w = reportPerformed w.write (s.writeTaken round w) := by
  obtain ⟨rs, n, hm, -⟩ := writeTaken_reads (s := s) (round := round) (w := w)
  refine endSuperseded_of_none fun x hx hof => ?_
  rw [show (reportPerformed w.write (s.writeTaken round w)).mapUnit = (s.writeTaken round w).mapUnit from
    reportPerformed_same_of_ordinary hordinary (b := .mapUnit) (by simp), hm] at hx
  exact hnone x hx ⟨hof.1, hof.2.1⟩

/-- The repair whose own write it is, or that gave way to it, ends with its detail. -/
theorem writeTold_endsRepair {detail : RepairDetail}
    (h : (w.write.producer = .repair ∧ detail = repairDetail w.write.value) ∨
      (w.write.producer ≠ .repair ∧ detail = .superseded ∧
        { port := w.write.port, hpn := w.write.hpn, phase := .superseded w.arrival } ∈ s.mapUnit.repairs)) :
    ∃ y : State, s.writeTold round w = endRepair w.write.port w.write.hpn detail y ∧ y.flight = s.flight ∧
      y.walker = (s.writeTaken round w).walker := by
  have hflight : (s.writeTaken round w).flight = s.flight := writeTaken_same (b := .flight) (by simp)
  obtain ⟨hrepair, rfl⟩ | ⟨hordinary, rfl, hmem⟩ := h
  · refine ⟨s.writeTaken round w, ?_, hflight, rfl⟩
    rw [State.writeTold, reportPerformed_of_repair hrepair]
    exact endSuperseded_of_none fun x hx hof => endRepair_repairs.1 x hx ⟨hof.1, hof.2.1⟩
  · refine ⟨reportPerformed w.write (s.writeTaken round w), endSuperseded_of_superseded ?_, ?_, ?_⟩
    · obtain ⟨rs, n, hm, -⟩ := writeTaken_reads (s := s) (round := round) (w := w)
      rw [show (reportPerformed w.write (s.writeTaken round w)).mapUnit = (s.writeTaken round w).mapUnit from
        reportPerformed_same_of_ordinary hordinary (b := .mapUnit) (by simp), hm]
      exact hmem
    · exact (reportPerformed_same_of_ordinary hordinary (b := .flight) (by simp)).trans hflight
    · exact reportPerformed_same_of_ordinary hordinary (b := .walker) (by simp)

theorem handed_outbound_subset (l : LinkPort) (cs : List Completion) : l.outbound ⊆ (l.handed cs).outbound := by
  unfold LinkPort.handed
  split
  · exact List.subset_append_left ..
  · exact List.Subset.refl _

theorem settleAll_outbound_subset (s0 u : State) (q : PortId) : (u.link q).outbound ⊆ ((settleAll s0 u).link q).outbound := by
  rw [(settleAll_queue_link s0 u q).2]
  exact handed_outbound_subset ..

theorem exec_mapAccessGrant_of_granted (hop : s.operating = true) (hgranted : s.granted 0 .map = some round)
    (hclear : s.mapUnit.clearNext = none) : exec .mapAccessGrant s = .next (settleAll s (sendMapAccess round s)) := by
  show whenOperating s _ = _
  rw [whenOperating, if_pos hop, hgranted, hclear]

theorem sendMapAccess_of_read {r : MapRead} (hr : s.mapUnit.unsentRead = some r)
    (hfirst : ∀ w, s.mapUnit.queue.head? = some w → r.arrival ≤ w.arrival) : sendMapAccess round s = sendMapRead round r s := by
  unfold sendMapAccess
  rw [hr]
  cases hw : s.mapUnit.queue.head? with
  | none => rfl
  | some w => exact if_neg (Nat.not_lt.2 (hfirst w hw))

theorem sendMapAccess_of_write {rest : List QueuedWrite} (hqueue : s.mapUnit.queue = w :: rest)
    (hfirst : ∀ r, s.mapUnit.unsentRead = some r → w.arrival < r.arrival) :
    sendMapAccess round s = sendMapWrite round w s := by
  unfold sendMapAccess
  rw [hqueue]
  cases hr : s.mapUnit.unsentRead with
  | none => rfl
  | some r => exact if_pos (hfirst r hr)

end

theorem forall₂_mem_right {α : Type} {R : α → α → Prop} {l l' : List α} (h : List.Forall₂ R l l') {x : α} (hx : x ∈ l') :
    ∃ y ∈ l, R y x := by
  induction h with
  | nil => cases hx
  | cons hab _ ih =>
    rcases List.mem_cons.1 hx with rfl | htail
    · exact ⟨_, List.mem_cons_self, hab⟩
    · obtain ⟨y, hy, hR⟩ := ih htail
      exact ⟨y, List.mem_cons_of_mem _ hy, hR⟩

theorem forall₂_head?_right {α : Type} {R : α → α → Prop} {l l' : List α} (h : List.Forall₂ R l l') {x : α}
    (hx : l'.head? = some x) : ∃ y, l.head? = some y ∧ R y x := by
  cases h with
  | nil => cases hx
  | cons hab _ =>
    obtain rfl := Option.some.inj hx
    exact ⟨_, rfl, hab⟩

/-- Settles O39. -/
theorem mapGrantSendsOlderAccess : Obligations.MapGrantSendsOlderAccess := by
  unfold Obligations.MapGrantSendsOlderAccess
  intro round s hop hgranted hclear
  have hexec := exec_mapAccessGrant_of_granted hop hgranted hclear
  refine ⟨fun r hr hfirst => ?_, fun w rest hqueue hfirst => ?_⟩
  · rw [sendMapAccess_of_read hr hfirst] at hexec
    refine ⟨_, hexec, ?_, ?_, ?_, ?_, ?_⟩
    · rw [State.channel, settleAll_channels]
      show (s.channels.set 0 _).get 0 = _
      rw [Quad.get_set_same]
      rfl
    · rw [settleAll_mapUnit]
      rfl
    · rw [settleAll_caches]
      rfl
    · exact settleAll_same s _ (b := .recalls) (by simp)
    · exact settleAll_same s _ (b := .engine) (by simp)
  rw [sendMapAccess_of_write hqueue hfirst] at hexec
  dsimp only
  let v := s.writeTaken round w
  let told := s.writeTold round w
  let t := settleAll s (sendMapWrite round w s)
  have hwalker : t.walker = told.walker := settleAll_walker ..
  have hmap : t.mapUnit = told.mapUnit.drained := settleAll_mapUnit ..
  have hflight : t.flight = told.flight := settleAll_flight ..
  have hrecalls : t.recalls = (reportPerformed w.write v).recalls :=
    (settleAll_same s (sendMapWrite round w s) (b := .recalls) (by simp)).trans writeTold_recalls
  have hcaches : t.caches = v.caches :=
    (settleAll_caches s (sendMapWrite round w s)).trans (writeTold_same (b := .caches) (by simp))
  have hsent (q : PortId) : (sendMapWrite round w s).link q = (reportPerformed w.write v).link q :=
    congrArg (Quad.get · q) writeTold_links
  have hqueues (q : PortId) : (sendMapWrite round w s).queue q = v.queue q :=
    congrArg (Quad.get · q) (writeTold_same (s := s) (round := round) (w := w) (b := .requests) (by simp))
  have hlink (q : PortId) : v.link q = s.link q :=
    congrArg (Quad.get · q) (writeTaken_same (s := s) (round := round) (w := w) (b := .links) (by simp))
  have hengine : v.engine = s.engine := writeTaken_same (b := .engine) (by simp)
  have hunit : v.recalls = s.recalls := writeTaken_same (b := .recalls) (by simp)
  have hkept (q : PortId) {c : Completion} (hc : c ∈ ((reportPerformed w.write v).link q).outbound) :
      c ∈ (t.link q).outbound := by
    refine settleAll_outbound_subset s (sendMapWrite round w s) q ?_
    rw [hsent]
    exact hc
  refine ⟨t, hexec, ?channel, fun c hc => ?cache, fun hnodup e he f hnames => ?bound,
    fun q tag g hproducer hattached hg hleft => ?claim, fun q tag holder grantTag gid hproducer => ?accept,
    fun rid r hproducer hr hnodup => ?unmap, fun hnone hordinary hwalk => ?ordinary, fun detail hdetail => ?repair, ?dram, ?directory⟩
  case channel =>
    rw [State.channel, settleAll_channels]
    have htold : told.channels = v.channels := writeTold_same (b := .channels) (by simp)
    show told.channels.get 0 = _
    rw [htold]
    exact writeTaken_channel
  case cache =>
    rw [State.cache, hcaches] at hc
    have hnone := List.find?_eq_none.1 (writeTaken_cached (s := s) (round := round) (w := w)) c hc
    simpa using hnone
  case bound =>
    have ht : t.queue w.write.port = sweepQueue true true (v.queue w.write.port) := by
      rw [(settleAll_queue_link s (sendMapWrite round w s) _).1, hqueues]
    have hplace : (placeOf e.kind).isSome = true := by
      cases hplace : placeOf e.kind with
      | none => simp [ReqEntry.namesHpn, hplace] at hnames
      | some pl => rfl
    have htags : ((t.queue w.write.port).map ReqEntry.tag).Nodup := by
      rw [ht, sweepQueue_tags, writeTaken_queue]
      exact (unbind_noneBound (s := s.writeSent round w) hnodup writeSent_cached).nodup
    have hfind := find_tag_of_nodup htags he
    rw [ht, sweepQueue_find hplace] at hfind
    have hnot := writeTaken_bound (round := round) hnodup e (List.mem_of_find?_eq_some hfind) hnames
    intro hstate
    simp [ReqEntry.isBound, hstate] at hnot
  case claim =>
    refine hkept q ?_
    rw [reportPerformed_of_claim hproducer]
    exact claimWritePerformed_completes (by rw [hengine]; exact hg) hleft (by rw [hlink]; exact hattached)
  case accept =>
    refine ⟨fun hattached => hkept q ?_, fun hattached => hkept holder ?_⟩
    · rw [reportPerformed_of_accept hproducer]
      exact (handOver_told holder _ _).outbound q (handOver_mem_outbound (by rw [hlink]; exact hattached) _)
    · rw [reportPerformed_of_accept hproducer]
      exact handOver_mem_outbound (by rw [(handOver_told q _ v).state, hlink]; exact hattached) _
  case unmap =>
    have hrecord : v.recordById rid = some r := by
      rw [State.recordById, hunit]
      exact hr
    have hdirectory : (v.record r.frame).hasReader = (s.record r.frame).hasReader := by
      rw [State.record_of_engine hengine]
    have hbusy : (v.queue r.port).any (fun e => e.issuedTo r.frame) = (s.queue r.port).any fun e => e.issuedTo r.frame :=
      writeTaken_issued hnodup _
    obtain ⟨hreader, hholder, hreported, hsame⟩ := unmapPerformed_spec hrecord hbusy
    have hbyId : t.recordById rid = (unmapPerformed rid v).recordById rid := by
      rw [State.recordById, hrecalls, reportPerformed_of_unmap hproducer]
      rfl
    rw [hdirectory] at hholder hreported hsame
    rw [hbyId, hrecalls, reportPerformed_of_unmap hproducer]
    rw [hunit] at hsame
    have hany : (s.queue r.port).any (fun e => e.issuedTo r.frame) = true ↔ ∃ x ∈ s.queue r.port, x.issuedTo r.frame = true :=
      List.any_eq_true
    refine ⟨hreader, fun hrole => ⟨fun h => (hholder hrole).1 (h.imp hany.2 id), fun h h' => (hholder hrole).2 ?_ ?_⟩,
      fun h => hreported ?_, fun h => hsame (h.imp hany.2 fun h' => ⟨h'.1, by simpa using h'.2⟩)⟩
    · exact Bool.eq_false_iff.2 fun hb => h (hany.1 hb)
    · simpa using h'
    · exact Bool.eq_false_iff.2 fun hb => h (hany.1 hb)
  case ordinary =>
    have htold : told = reportPerformed w.write v := writeTold_of_no_repair hnone hordinary
    have hkeptWalker : t.walker = v.walker := by
      rw [hwalker, htold]
      exact reportPerformed_same_of_ordinary hordinary (b := .walker) (by simp)
    have hstale : t.isStale w.write.port w.write.hpn =
        (s.readIssued w.write.port w.write.hpn || s.isStale w.write.port w.write.hpn) := by
      rw [← writeTaken_isStale (round := round) hwalk, State.isStale, hkeptWalker]
      rfl
    refine ⟨?_, fun ⟨x, hx, hport, hhpn, hissued⟩ => ?_, fun hnot => ?_⟩
    · rw [hflight, htold]
      have hreport : (reportPerformed w.write v).flight = v.flight :=
        reportPerformed_same_of_ordinary hordinary (b := .flight) (by simp)
      have htaken : v.flight = s.flight := writeTaken_same (b := .flight) (by simp)
      rw [hreport, htaken]
    · rw [hstale, show s.readIssued w.write.port w.write.hpn = true from
        List.any_eq_true.2 ⟨x, hx, by simp [hport, hhpn, hissued]⟩, Bool.true_or]
    · have hunissued : s.readIssued w.write.port w.write.hpn = false := by
        refine List.any_eq_false.2 fun x hx hof => ?_
        simp only [Bool.and_eq_true, beq_iff_eq] at hof
        rw [hnot x hx hof.1.1 hof.1.2] at hof
        exact nomatch hof.2
      rw [hstale, hunissued, Bool.false_or]
  case repair =>
    have hends : (w.write.producer = .repair ∧ detail = repairDetail w.write.value) ∨
        (w.write.producer ≠ .repair ∧ detail = .superseded ∧
          { port := w.write.port, hpn := w.write.hpn, phase := .superseded w.arrival } ∈ s.mapUnit.repairs) := by
      refine hdetail.imp (fun ⟨hrepair, hvalue⟩ => ⟨hrepair, ?_⟩) id
      obtain ⟨hv, rfl⟩ | ⟨f, a, hv, rfl⟩ := hvalue <;> rw [hv] <;> rfl
    obtain ⟨y, hy, hyflight, hywalker⟩ := writeTold_endsRepair (round := round) hends
    obtain ⟨hreads, hrepairs⟩ := MapUnit.drained_arrived told.mapUnit
    rw [← hmap] at hreads hrepairs
    obtain ⟨hkeys, hhead⟩ := endRepair_repairs (p := w.write.port) (hpn := w.write.hpn) (d := detail) (s := y)
    rw [← hy] at hkeys hhead
    refine ⟨?_, fun x hx hof => ?_, fun x hx hphase => ?_, fun hwalk => ?_⟩
    · rw [hflight, show told = _ from hy, endRepair_flight, hyflight]
    · obtain ⟨z, hz, hport, hhpn, -⟩ := forall₂_mem_right hrepairs hx
      exact hkeys z hz ⟨hport.symm.trans hof.1, hhpn.symm.trans hof.2⟩
    · obtain ⟨z, hz, -, -, hstands⟩ := forall₂_head?_right hrepairs hx
      obtain hsame | ⟨n, hn⟩ := hstands
      · exact hhead z hz (hsame.symm.trans hphase)
      · rw [hn] at hphase
        cases hphase
    · obtain ⟨hstale, x, hx, hread⟩ := endRepair_walks (p := w.write.port) (hpn := w.write.hpn) (d := detail) (s := y)
        (by rw [State.hasWalk, hywalker]; exact writeTaken_hasWalk hwalk)
      rw [← hy] at hstale hx
      refine ⟨?_, x, by rw [hreads]; exact hx, hread⟩
      rw [State.isStale, hwalker]
      exact hstale
  case dram =>
    have htold : told.dram = v.dram := writeTold_same (b := .dram) (by simp)
    have htaken : v.dram = s.dram := writeTaken_same (b := .dram) (by simp)
    exact (settleAll_same s (sendMapWrite round w s) (b := .dram) (by simp)).trans (htold.trans htaken)
  case directory =>
    have hends : t.engine = (reportPerformed w.write v).engine :=
      (settleAll_same s (sendMapWrite round w s) (b := .engine) (by simp)).trans
        (endSuperseded_same w _ (b := .engine) (by simp))
    rw [hends, reportPerformed_directory, hengine]

end Sys2Proof.Machine
end

section
/-! `mapsInOrder` and the invariants it is stated with say nothing of the pending lists of R93. Where such a list names a
record that is already UNMAPPING, the next free place of the Notice Queue makes the record NOTIFIED while its invalid
write is still pending, and the recall records are out of order. -/

namespace Sys2Proof.Machine

/-- The record of the holder's item of frame 1, in UNMAPPING. -/
def strayRecord : RecallRecord :=
  { recallId := 1, frame := 1, port := 0, hpn := 5, role := .holder, reason := .evict, notify := true, phase := .unmapping,
    noticeSent := some false, deadline := none, origin := none, drained := none }

/-- Frame 1, lent to Port 0 and taken back by management. -/
def strayFrame : FrameRecord :=
  { FrameRecord.afterReset 1 with
    state := .recalling, holder := some 0, leave := some .evict,
    items := [{ port := 0, hpn := 5, access := .readWrite, role := .holder, phase := .leaving }] }

/-- A session with a notice to send. -/
def strayLink : LinkPort :=
  { LinkPort.afterReset [] with
    link := .up, state := .attached, requestCredits := 32, commandCredits := 4, noticeCredits := 1,
    notices := [.withdrawn 0 .expiry] }

/-- A running part of two frames whose pending list of Port 0 names a record in UNMAPPING, before a NOTICE_SEND. -/
def strayPending : State :=
  { State.reset with
    pop := { channels := 1, channelSize := 2 }, device := .run,
    links := ⟨strayLink, LinkPort.afterReset [], LinkPort.afterReset [], LinkPort.afterReset []⟩,
    mapUnit := { MapUnit.afterReset false with queue := [{ write := strayRecord.unmapWrite, arrival := 0 }], arrivals := 1 },
    engine := { Engine.afterReset with directory := [(1, strayFrame)], held := ⟨1, 0, 0, 0⟩ },
    recalls := { table := [strayRecord], pendingLists := ⟨[1], [], [], []⟩, counter := 2, reported := [] },
    scrub := Scrub.afterReset 1, pending := [.noticeSend 0] }

theorem strayPending_framesInOrder : strayPending.framesInOrder := by
  unfold State.framesInOrder FrameRecord.inOrder
  decide

theorem strayPending_sessionsInOrder : strayPending.sessionsInOrder := by
  unfold State.sessionsInOrder LinkPort.sessionInOrder LinkPort.stateFitsLink
  decide

theorem strayPending_withinCapacity : strayPending.withinCapacity := by
  unfold State.withinCapacity State.writesWaitOnlyWhenFull
  decide

theorem strayPending_channel_queue (c : ChannelId) : (strayPending.channel c).queue = [] :=
  congrArg Channel.queue (Quad.get_all _ c)

theorem strayPending_cache (p : PortId) : strayPending.cache p = [] := Quad.get_all _ p

theorem strayPending_walksInOrder : strayPending.walksInOrder := by
  refine ⟨List.nodup_nil, List.Perm.refl _, by decide, by decide, fun c a ha => ?_⟩
  simp [strayPending_channel_queue] at ha

theorem strayPending_recallsInOrder : strayPending.recallsInOrder := by
  refine ⟨by decide, by decide, fun r hr => ?_, List.forall_mem_nil _, by decide, fun w hw rid hrid => ?_⟩
  · obtain rfl : r = strayRecord := by simpa [strayPending] using hr
    exact ⟨by decide, _, rfl, by decide⟩
  · obtain rfl : w = strayRecord.unmapWrite := by
      simpa [State.pendingWrites, strayPending, MapUnit.afterReset] using hw
    obtain rfl : 1 = rid := MapProducer.unmap.inj hrid
    exact ⟨strayRecord, by decide, rfl, rfl, rfl⟩

theorem strayPending_pagesInOrder : strayPending.pagesInOrder :=
  ⟨by decide, by decide, List.forall_mem_nil _, List.Pairwise.nil⟩

theorem strayPending_startingInOrder : strayPending.startingInOrder := by
  unfold State.startingInOrder
  decide

theorem strayPending_entryAgrees (p : PortId) (h : Nat) : strayPending.entryAgrees p h := by
  have hperformed : strayPending.performedMap p h = .invalid := by
    rw [State.performedMap, strayPending_channel_queue]
    rfl
  have hpending : ∀ w ∈ strayPending.pendingWrites, w.value = .invalid := by decide
  have hvalues : ∀ v ∈ strayPending.mapValues p h, v = .invalid := by
    intro v hv
    rcases List.mem_cons.mp hv with rfl | hv
    · exact hperformed
    · obtain ⟨w, hw, rfl⟩ := List.mem_map.mp hv
      exact hpending w (List.mem_of_mem_filter hw)
  unfold State.entryAgrees
  by_cases hitem : p = 0 ∧ h = 5
  · obtain ⟨rfl, rfl⟩ := hitem
    rw [show strayPending.itemAt 0 5 = some (1, { port := 0, hpn := 5, access := .readWrite, role := .holder, phase := .leaving }) from rfl]
    refine ⟨fun v hv => .inl (hvalues v hv), fun hactive => ?_, fun _ => ⟨strayRecord, by decide, rfl, rfl, fun _ => ?_, fun _ => hvalues⟩⟩
    · cases hactive
    · exact ⟨[], [], rfl, List.forall_mem_nil _⟩
  · have hnone : strayPending.itemAt p h = none := by
      simp only [State.itemAt, strayPending, strayFrame, List.findSome?_cons, List.findSome?_nil, List.find?_cons, List.find?_nil]
      grind
    rw [hnone]
    exact hvalues

theorem strayPending_mapsInOrder : strayPending.mapsInOrder := by
  refine ⟨strayPending_walksInOrder, strayPending_recallsInOrder, strayPending_pagesInOrder, strayPending_startingInOrder,
    fun p h _ _ => strayPending_entryAgrees p h, by decide, List.forall_mem_nil _, fun p c hc => ?_, List.forall_mem_nil _,
    List.forall_mem_nil _⟩
  simp [strayPending_cache] at hc

/-- The notice is sent, and the freed place is filled for the record in UNMAPPING. -/
theorem step_strayPending : ∃ t, step strayPending = .next t ∧ t.pendingWrites = [strayRecord.unmapWrite] ∧
    t.recalls.table = [{ strayRecord with phase := .notified }] := ⟨_, rfl, by decide, by decide⟩

/-- Refutes O59: the invariants allow a pending list that names a record in UNMAPPING, and a NOTICE_SEND then makes the
record NOTIFIED although its invalid write is still pending. -/
theorem not_stepKeepsMapsInOrder : ¬ Obligations.StepKeepsMapsInOrder := by
  unfold Obligations.StepKeepsMapsInOrder
  intro h
  obtain ⟨t, hstep, hwrites, htable⟩ := step_strayPending
  obtain ⟨-, ⟨-, -, -, -, -, hunmapping⟩, -⟩ :=
    h _ t hstep strayPending_framesInOrder strayPending_sessionsInOrder strayPending_withinCapacity (by decide)
      strayPending_mapsInOrder
  obtain ⟨r, hr, -, -, hphase⟩ := hunmapping strayRecord.unmapWrite (by simp [hwrites]) 1 rfl
  rw [htable, List.mem_singleton] at hr
  subst hr
  cases hphase

end Sys2Proof.Machine
end

section
/-! What the Allocation Engine, the Recall Unit and the Map Unit do at Link Ports besides a teardown: completions join the
outbound order of a session, notices join and leave the Notice Queues, and nothing else changes (R93, R169, R170). -/

namespace Sys2Proof.Machine

/-- From `l` to `l'` only the outbound order and the Notice Queue changed: the outbound order in a session alone and by
completions of pool commands, the Notice Queue within its capacity and, outside a session, by notices that left it. -/
structure LinkPort.Quiet (l l' : LinkPort) : Prop where
  core : l'.core = l.core
  outbound : l.state ≠ .attached → l'.outbound = l.outbound
  notices : l.state ≠ .attached → l.notices = [] → l'.notices = []
  requestTags : l'.requestTags = l.requestTags
  room : l.notices.length ≤ Config.noticeQueueSize → l'.notices.length ≤ Config.noticeQueueSize

/-- Every Link Port of `s` came quietly from the one of `k`. -/
def State.quietFrom (k : Quad LinkPort) (s : State) : Prop := ∀ p, (k.get p).Quiet (s.link p)

/-! ### One Link Port -/

section
variable {l l' l'' : LinkPort}

theorem LinkPort.Quiet.refl (l : LinkPort) : l.Quiet l := ⟨rfl, fun _ => rfl, fun _ h => h, rfl, id⟩

theorem LinkPort.Quiet.state (h : l.Quiet l') : l'.state = l.state := (congrArg LinkPort.state h.core :)

theorem LinkPort.Quiet.trans (h : l.Quiet l') (h' : l'.Quiet l'') : l.Quiet l'' where
  core := h'.core.trans h.core
  outbound hl := (h'.outbound (by rwa [h.state])).trans (h.outbound hl)
  notices hl hn := h'.notices (by rwa [h.state]) (h.notices hl hn)
  requestTags := h'.requestTags.trans h.requestTags
  room hl := h'.room (h.room hl)

theorem LinkPort.Quiet.handedOver (h : l.state = .attached) {c : Completion} (hc : c.answers = .command) :
    l.Quiet { l with outbound := l.outbound ++ [c] } where
  core := rfl
  outbound hl := absurd h hl
  notices hl := absurd h hl
  requestTags := by simp [LinkPort.requestTags, hc]
  room := id

theorem LinkPort.Quiet.noticed (h : l.state = .attached) (hroom : l.notices.length < Config.noticeQueueSize) (n : Notice) :
    l.Quiet { l with notices := l.notices ++ [n] } where
  core := rfl
  outbound hl := absurd h hl
  notices hl := absurd h hl
  requestTags := rfl
  room _ := by simpa using hroom

theorem LinkPort.Quiet.unnoticed (l : LinkPort) (keep : Notice → Bool) : l.Quiet { l with notices := l.notices.filter keep } where
  core := rfl
  outbound _ := rfl
  notices _ hn := by simp [hn]
  requestTags := rfl
  room hl := Nat.le_trans (List.length_filter_le _ _) hl

end

/-! ### Blocks other than the Link Ports -/

section
variable (k : Quad LinkPort) (s : State)

theorem State.quietFrom_self : s.quietFrom s.links := fun _ => LinkPort.Quiet.refl _

variable {k s}

theorem State.quietFrom_of_links {t : State} (h : t.links = s.links) : t.quietFrom k ↔ s.quietFrom k := by
  unfold State.quietFrom State.link
  rw [h]

variable (k s)

@[simp] theorem State.setQueue_quiet (p : PortId) (x : List ReqEntry) : (s.setQueue p x).quietFrom k ↔ s.quietFrom k := .rfl
@[simp] theorem State.setCache_quiet (p : PortId) (x : List CacheEntry) : (s.setCache p x).quietFrom k ↔ s.quietFrom k := .rfl
@[simp] theorem State.setWalker_quiet (x : Walker) : (s.setWalker x).quietFrom k ↔ s.quietFrom k := .rfl
@[simp] theorem State.setMapUnit_quiet (x : MapUnit) : (s.setMapUnit x).quietFrom k ↔ s.quietFrom k := .rfl
@[simp] theorem State.setEngine_quiet (x : Engine) : (s.setEngine x).quietFrom k ↔ s.quietFrom k := .rfl
@[simp] theorem State.setRecalls_quiet (x : RecallUnit) : (s.setRecalls x).quietFrom k ↔ s.quietFrom k := .rfl
@[simp] theorem State.setChannel_quiet (c : ChannelId) (x : Channel) : (s.setChannel c x).quietFrom k ↔ s.quietFrom k := .rfl
@[simp] theorem State.setScrub_quiet (x : Scrub) : (s.setScrub x).quietFrom k ↔ s.quietFrom k := .rfl
@[simp] theorem State.setMgmt_quiet (x : Mgmt) : (s.setMgmt x).quietFrom k ↔ s.quietFrom k := .rfl
@[simp] theorem State.setFlight_quiet (x : InFlight) : (s.setFlight x).quietFrom k ↔ s.quietFrom k := .rfl
@[simp] theorem State.setRecord_quiet (f : Nat) (r : FrameRecord) : (s.setRecord f r).quietFrom k ↔ s.quietFrom k := .rfl
@[simp] theorem State.useFree_quiet : s.useFree.quietFrom k ↔ s.quietFrom k := .rfl
@[simp] theorem handFault_quiet (i : FaultInfo) : (handFault i s).quietFrom k ↔ s.quietFrom k := .rfl
@[simp] theorem updateRecall_quiet (rid : Nat) (f : RecallRecord → RecallRecord) :
    (updateRecall rid f s).quietFrom k ↔ s.quietFrom k := .rfl
@[simp] theorem setPending_quiet (p : PortId) (l : List Nat) : (setPending p l s).quietFrom k ↔ s.quietFrom k := .rfl
@[simp] theorem leavePending_quiet (r : RecallRecord) : (leavePending r s).quietFrom k ↔ s.quietFrom k := .rfl
@[simp] theorem askWrite_quiet (w : MapWrite) : (askWrite w s).quietFrom k ↔ s.quietFrom k := .rfl
@[simp] theorem startUnmap_quiet (r : RecallRecord) : (startUnmap r s).quietFrom k ↔ s.quietFrom k := .rfl
@[simp] theorem movePointer_quiet (i : Fin 5) : (movePointer i s).quietFrom k ↔ s.quietFrom k := .rfl
@[simp] theorem clearWaiting_quiet : (clearWaiting s).quietFrom k ↔ s.quietFrom k := .rfl
@[simp] theorem setScan_quiet (p : PortId) (x : ScanState) : (setScan p x s).quietFrom k ↔ s.quietFrom k := .rfl
@[simp] theorem parkClaim_quiet (p : PortId) (tag hpn n : Nat) : (parkClaim p tag hpn n s).quietFrom k ↔ s.quietFrom k := .rfl
@[simp] theorem deferCommand_quiet (p : PortId) : (deferCommand p s).quietFrom k ↔ s.quietFrom k := .rfl
@[simp] theorem scrubIdle_quiet : (scrubIdle s).quietFrom k ↔ s.quietFrom k := .rfl
@[simp] theorem quarantineFrame_quiet (f : Nat) (c : QuarantineCause) : (quarantineFrame f c s).quietFrom k ↔ s.quietFrom k := .rfl

/-- An operation that leaves the Link Ports. -/
theorem State.quietFrom_of_outside {bs : List Block} {t : State} (h : t.outside bs = s.outside bs) (hb : .links ∉ bs) :
    t.quietFrom k ↔ s.quietFrom k := State.quietFrom_of_links (Block.same_of_outside (b := .links) h hb)

@[simp] theorem reportComplete_quiet (rid : Nat) : (reportComplete rid s).quietFrom k ↔ s.quietFrom k :=
  State.quietFrom_of_outside k s (bs := [.recalls]) (reportComplete_outside _ (by simp) _) (by simp)
@[simp] theorem unmapPerformed_quiet (rid : Nat) : (unmapPerformed rid s).quietFrom k ↔ s.quietFrom k :=
  State.quietFrom_of_outside k s (bs := [.recalls]) (unmapPerformed_outside _ (by simp) _) (by simp)
@[simp] theorem drainReport_quiet (p : PortId) (f : Nat) : (drainReport p f s).quietFrom k ↔ s.quietFrom k :=
  State.quietFrom_of_outside k s (bs := [.recalls]) (drainReport_outside _ (by simp) _ _) (by simp)
@[simp] theorem removeReader_quiet (f : Nat) (p : PortId) : (removeReader f p s).quietFrom k ↔ s.quietFrom k :=
  State.quietFrom_of_outside k s (bs := [.engine, .recalls]) (removeReader_outside _ (by simp) (by simp) _ _) (by simp)
@[simp] theorem takeScrub_quiet : (takeScrub s).quietFrom k ↔ s.quietFrom k :=
  State.quietFrom_of_outside k s (bs := [.scrub]) (takeScrub_outside _ (by simp)) (by simp)
@[simp] theorem joinScrub_quiet (f : Nat) : (joinScrub f s).quietFrom k ↔ s.quietFrom k :=
  State.quietFrom_of_outside k s (bs := [.scrub]) (joinScrub_outside _ (by simp) _) (by simp)
@[simp] theorem answerSlot_quiet (st : MgmtStatus) (data : List Byte) : (answerSlot st data s).quietFrom k ↔ s.quietFrom k :=
  State.quietFrom_of_outside k s (bs := [.engine, .mgmt]) (answerSlot_outside _ (by simp) (by simp) _ _) (by simp)
@[simp] theorem markDamaged_quiet (f : Nat) : (markDamaged f s).quietFrom k ↔ s.quietFrom k :=
  State.quietFrom_of_outside k s (bs := [.engine, .flight]) (markDamaged_outside _ (by simp) (by simp) _) (by simp)
@[simp] theorem grantClaim_quiet (p : PortId) (tag hpn n : Nat) : (grantClaim p tag hpn n s).quietFrom k ↔ s.quietFrom k :=
  State.quietFrom_of_outside k s (bs := [.engine, .mapUnit]) (grantClaim_outside _ (by simp) (by simp) ..) (by simp)
@[simp] theorem unbind_quiet (p : PortId) (hpn : Nat) : (unbind p hpn s).quietFrom k ↔ s.quietFrom k :=
  State.quietFrom_of_outside k s (bs := [.requests, .caches, .walker, .mapUnit])
    (unbind_outside _ (by simp) (by simp) (by simp) (by simp) _ _) (by simp)
@[simp] theorem markStale_quiet (p : PortId) (hpn : Nat) : (markStale p hpn s).quietFrom k ↔ s.quietFrom k :=
  State.quietFrom_of_outside k s (bs := [.walker]) (markStale_outside _ (by simp) _ _) (by simp)
@[simp] theorem endRepair_quiet (p : PortId) (hpn : Nat) (d : RepairDetail) : (endRepair p hpn d s).quietFrom k ↔ s.quietFrom k :=
  State.quietFrom_of_outside k s (bs := [.flight, .walker, .mapUnit]) (endRepair_outside _ (by simp) (by simp) (by simp) ..) (by simp)
@[simp] theorem endSuperseded_quiet (w : QueuedWrite) : (endSuperseded w s).quietFrom k ↔ s.quietFrom k :=
  State.quietFrom_of_outside k s (bs := [.flight, .walker, .mapUnit]) (endSuperseded_outside _ (by simp) (by simp) (by simp) _) (by simp)

end

/-! ### Completions and notices -/

section
variable {k : Quad LinkPort} {s : State}

theorem State.setLink_quiet {p : PortId} {l : LinkPort} (h : s.quietFrom k) (hl : (s.link p).Quiet l) :
    (s.setLink p l).quietFrom k := by
  intro q
  by_cases hq : q = p
  · subst hq
    rw [State.setLink_link_same]
    exact (h q).trans hl
  · rw [State.setLink_link_ne _ _ hq]
    exact h q

theorem handOver_quiet {c : Completion} (hc : c.answers = .command) (h : s.quietFrom k) (p : PortId) :
    (handOver p c s).quietFrom k := by
  unfold handOver
  split
  · next hp => exact State.setLink_quiet h (.handedOver hp hc)
  · exact h

@[simp] theorem handOver_command_quiet (h : s.quietFrom k) (p : PortId) (tag : Nat) (st : Status) :
    (handOver p (commandCompletion tag st) s).quietFrom k := handOver_quiet rfl h p

@[simp] theorem handOver_grant_quiet (h : s.quietFrom k) (p : PortId) (tag : Nat) (st : Status) (gid : Nat) :
    (handOver p (grantCompletion tag st gid) s).quietFrom k := handOver_quiet rfl h p

theorem appendNotice_quiet (h : s.quietFrom k) {p : PortId} (hroom : s.noticeRoom p = true) (n : Notice) :
    (appendNotice p n s).quietFrom k := by
  simp only [State.noticeRoom, Bool.and_eq_true, decide_eq_true_eq] at hroom
  exact State.setLink_quiet h (.noticed hroom.1 hroom.2 n)

@[simp] theorem removeNotice_quiet (h : s.quietFrom k) (p : PortId) (f : Notice → Bool) : (removeNotice p f s).quietFrom k :=
  State.setLink_quiet h (.unnoticed _ _)

@[simp] theorem fillPending_quiet (h : s.quietFrom k) (p : PortId) : (fillPending p s).quietFrom k := by
  unfold fillPending
  split
  · exact h
  · split
    · next hroom =>
      dsimp only
      split
      · exact h
      · exact (updateRecall_quiet ..).2 (appendNotice_quiet (by exact h) hroom _)
    · exact h

theorem fillPendingTimes_quiet (p : PortId) (n : Nat) (s : State) (h : s.quietFrom k) : (fillPendingTimes p n s).quietFrom k := by
  induction n generalizing s with
  | zero => exact h
  | succ n ih => exact ih _ (fillPending_quiet h p)

@[simp] theorem fillAllPending_quiet (h : s.quietFrom k) : (fillAllPending s).quietFrom k :=
  List.foldlRecOn (motive := fun u : State => u.quietFrom k) ports _ h fun _ hu p _ => fillPendingTimes_quiet p _ _ hu

@[simp] theorem removeNoticeAndFill_quiet (h : s.quietFrom k) (p : PortId) (f : Notice → Bool) :
    (removeNoticeAndFill p f s).quietFrom k := by
  unfold removeNoticeAndFill
  split
  · exact fillPending_quiet (removeNotice_quiet h p f) p
  · exact h

@[simp] theorem createRecall_quiet (h : s.quietFrom k) (f : Nat) (i : MapItem) (reason : RecallReason) (notify : Bool)
    (origin : Option (PortId × Nat)) : (createRecall f i reason notify origin s).quietFrom k := by
  unfold createRecall
  dsimp only
  split
  · exact h
  · split
    · next hroom => exact appendNotice_quiet (by exact h) hroom _
    · exact h

@[simp] theorem recallItem_quiet (h : s.quietFrom k) (f : Nat) (i : MapItem) (reason : RecallReason) (notify : Bool)
    (origin : Option (PortId × Nat)) : (recallItem f i reason notify origin s).quietFrom k :=
  createRecall_quiet (by exact h) _ _ _ _ _

/-! ### Offers, claims and frames -/

@[simp] theorem resolveOffer_quiet (h : s.quietFrom k) (o : Offer) (st : Status) : (resolveOffer o st s).quietFrom k :=
  handOver_quiet rfl (by exact h) _

@[simp] theorem informTarget_quiet (h : s.quietFrom k) (fill : Bool) (o : Offer) (cause : WithdrawnCause) :
    (informTarget fill o cause s).quietFrom k := by
  unfold informTarget
  split
  · split
    · next hroom => exact appendNotice_quiet h hroom _
    · exact h
  · split <;> simp [h]

@[simp] theorem withdrawOffer_quiet (h : s.quietFrom k) (fill : Bool) (o : Offer) : (withdrawOffer fill o s).quietFrom k :=
  informTarget_quiet (resolveOffer_quiet h o _) _ _ _

@[simp] theorem withdrawFrameOffers_quiet (h : s.quietFrom k) (f : Nat) : (withdrawFrameOffers f s).quietFrom k :=
  List.foldlRecOn (motive := fun u : State => u.quietFrom k) _ _ h fun _ hu o _ => withdrawOffer_quiet hu true o

@[simp] theorem teardownOffer_quiet (h : s.quietFrom k) (p : PortId) (fill : Bool) (o : Offer) :
    (teardownOffer p fill s o).quietFrom k := by
  unfold teardownOffer
  split <;> simp [h]

@[simp] theorem takeUpOffer_quiet (h : s.quietFrom k) (o : Offer) : (takeUpOffer o s).quietFrom k :=
  removeNoticeAndFill_quiet (by exact h) _ _

@[simp] theorem enterRecalling_quiet (h : s.quietFrom k) (f : Nat) (leave : LeaveReason) (b : Bool)
    (why : MapItem → RecallReason × Bool) : (enterRecalling f leave b why s).quietFrom k :=
  withdrawFrameOffers_quiet (List.foldlRecOn (motive := fun u : State => u.quietFrom k) _ _ (by exact h)
    fun _ hu _ _ => createRecall_quiet hu _ _ _ _ _) f

theorem examineClaims_quiet (cs : List ParkedClaim) (s : State) (h : s.quietFrom k) : (examineClaims cs s).quietFrom k := by
  induction cs generalizing s with
  | nil => exact h
  | cons c rest ih =>
    unfold examineClaims
    dsimp only
    split
    · exact h
    · split
      · exact ih _ (handOver_quiet rfl (by exact h) _)
      · exact ih _ ((grantClaim_quiet ..).2 h)

@[simp] theorem examineHead_quiet (h : s.quietFrom k) : (examineHead s).quietFrom k := examineClaims_quiet _ s h

@[simp] theorem removeClaims_quiet (h : s.quietFrom k) (gone : ParkedClaim → Bool) : (removeClaims gone s).quietFrom k := by
  unfold removeClaims
  dsimp only
  split
  · exact examineHead_quiet (by exact h)
  · exact h

@[simp] theorem exitRecalling_quiet (h : s.quietFrom k) (f : Nat) : (exitRecalling f s).quietFrom k := by
  unfold exitRecalling
  dsimp only
  (repeat' split) <;> simp [h]

@[simp] theorem scrubOutcome_quiet (h : s.quietFrom k) (f : Nat) : (scrubOutcome f s).quietFrom k := by
  unfold scrubOutcome
  dsimp only
  split <;> simp [h]

@[simp] theorem takeScrubEnd_quiet (h : s.quietFrom k) (f : Nat) : (takeScrubEnd f s).quietFrom k := by
  unfold takeScrubEnd
  dsimp only
  split <;> simp [h]

@[simp] theorem evictFrame_quiet (h : s.quietFrom k) (f : Nat) (b : Bool) : (evictFrame f b s).quietFrom k := by
  unfold evictFrame
  split <;> simp [h]

@[simp] theorem takeEvict_quiet (h : s.quietFrom k) (f : Nat) : (takeEvict f s).quietFrom k := by
  unfold takeEvict
  split <;> simp [h]

@[simp] theorem takeQuarantine_quiet (h : s.quietFrom k) (f : Nat) : (takeQuarantine f s).quietFrom k := by
  unfold takeQuarantine abortScrub
  (repeat' split) <;> simp [h]

@[simp] theorem takeReturn_quiet (h : s.quietFrom k) (f : Nat) : (takeReturn f s).quietFrom k := by
  unfold takeReturn
  dsimp only
  split <;> simp [h]

@[simp] theorem forceRecall_quiet (h : s.quietFrom k) (r : RecallRecord) : (forceRecall r s).quietFrom k := by
  unfold forceRecall
  dsimp only
  split <;> simp [h]

@[simp] theorem takeTeardown_quiet (h : s.quietFrom k) (p : PortId) : (takeTeardown p s).quietFrom k := by
  unfold takeTeardown
  dsimp only
  rw [State.setEngine_quiet]
  refine fillAllPending_quiet (List.foldlRecOn (motive := fun u : State => u.quietFrom k) _ _ ?_ fun _ hu o _ => ?_)
  · exact removeClaims_quiet ((State.useFree_quiet k s).2 h) _
  · exact teardownOffer_quiet hu p _ o

/-! ### Map writes -/

@[simp] theorem claimWritePerformed_quiet (h : s.quietFrom k) (p : PortId) (tag : Nat) :
    (claimWritePerformed p tag s).quietFrom k := by
  unfold claimWritePerformed
  (repeat' split) <;> simp [h]

@[simp] theorem reportPerformed_quiet (h : s.quietFrom k) (w : MapWrite) : (reportPerformed w s).quietFrom k := by
  unfold reportPerformed
  split <;> simp [h]

@[simp] theorem performWrite_quiet (h : s.quietFrom k) (w : QueuedWrite) : (performWrite w s).quietFrom k := by
  simp [performWrite, h]

@[simp] theorem enqueue_quiet (c : ChannelId) (r : Round) (a : Access64) : (enqueue c r a s).quietFrom k ↔ s.quietFrom k := .rfl

@[simp] theorem sendMapAccess_quiet (h : s.quietFrom k) (r : Round) : (sendMapAccess r s).quietFrom k := by
  unfold sendMapAccess sendMapWrite sendMapRead
  dsimp only
  (repeat' split) <;> simp [h]

end

end Sys2Proof.Machine
end

section
/-! Every step keeps the sessions in order (R162, R163, R167, R170). What is quiet at the Link Ports keeps them so; the
rest are the few operations that open, use and end a session. -/

namespace Sys2Proof.Machine

/-- The Link Port is in order and agrees with its link. -/
def LinkPort.inOrder (l : LinkPort) : Prop := l.sessionInOrder ∧ l.stateFitsLink

/-- Every Link Port is in order and agrees with its link. -/
def State.linksInOrder (s : State) : Prop := ∀ p, (s.link p).inOrder

theorem State.sessionsInOrder.linksInOrder {s : State} (h : s.sessionsInOrder) (hsupply : s.supplyValid = true) :
    s.linksInOrder := fun p => ⟨(h p).1, (h p).2 hsupply⟩

theorem State.linksInOrder.sessionsInOrder {s : State} (h : s.linksInOrder) : s.sessionsInOrder :=
  fun p => ⟨(h p).1, fun _ => (h p).2⟩

/-! ### Quiet events -/

theorem LinkPort.Quiet.inOrder {l l' : LinkPort} (h : l.Quiet l') (hl : l.inOrder) : l'.inOrder := by
  obtain ⟨⟨hattached, hother⟩, hfits⟩ := hl
  have hcommands : l'.commands = l.commands := (congrArg LinkPort.commands h.core :)
  have htags : l'.tags = l.tags := (congrArg LinkPort.tags h.core :)
  have hlink : l'.link = l.link := (congrArg LinkPort.link h.core :)
  have hreq : l'.requestCredits = l.requestCredits := (congrArg LinkPort.requestCredits h.core :)
  have hreqr : l'.requestReturns = l.requestReturns := (congrArg LinkPort.requestReturns h.core :)
  have hcmd : l'.commandCredits = l.commandCredits := (congrArg LinkPort.commandCredits h.core :)
  have hcmdr : l'.commandReturns = l.commandReturns := (congrArg LinkPort.commandReturns h.core :)
  refine ⟨⟨fun ha => ?_, fun hn => ?_⟩, ?_⟩
  · rw [h.state] at ha
    rw [hcmd, hcmdr, hcommands, hreqr]
    exact hattached ha
  · rw [h.state] at hn
    obtain ⟨h1, h2, h3, h4, h5, h6, h7, h8⟩ := hother hn
    exact ⟨hcommands.trans h1, (h.outbound hn).trans h2, h.notices hn h3, htags.trans h4, hreq.trans h5, hreqr.trans h6,
      hcmd.trans h7, hcmdr.trans h8⟩
  · unfold LinkPort.stateFitsLink
    rw [h.state, hlink]
    exact hfits

section
variable {s t : State}

theorem State.linksInOrder.quiet (h : s.linksInOrder) (hq : t.quietFrom s.links) : t.linksInOrder := fun p => (hq p).inOrder (h p)

theorem State.linksInOrder.of_links (h : s.linksInOrder) (hl : t.links = s.links) : t.linksInOrder :=
  h.quiet ((State.quietFrom_of_links hl).2 s.quietFrom_self)

theorem State.linksInOrder.setLink (h : s.linksInOrder) {p : PortId} {l : LinkPort} (hl : l.inOrder) :
    (s.setLink p l).linksInOrder := by
  intro q
  by_cases hq : q = p
  · subst hq
    rwa [State.setLink_link_same]
  · rw [State.setLink_link_ne _ _ hq]
    exact h q

theorem LinkPort.inOrder.sent {l : LinkPort} (h : l.inOrder) (m : OutMsg) : { l with sent := l.sent ++ [m] }.inOrder := h

theorem LinkPort.inOrder.of_attached {l : LinkPort} (hstate : l.state = .attached) (hlink : l.link = .up)
    (hcredits : l.commandCredits + l.commandReturns + l.commands.length = Config.commandQueueSize)
    (hrequests : l.requestReturns = 0) (hcommands : l.commandReturns = 0) : l.inOrder :=
  ⟨⟨fun _ => ⟨hcredits, hrequests, hcommands⟩, fun hn => absurd hstate hn⟩, fun _ => hlink,
    fun hoffline => nomatch hstate.symm.trans hoffline⟩

theorem LinkPort.inOrder.up_of_attached {l : LinkPort} (h : l.inOrder) (hstate : l.state = .attached) : l.link = .up :=
  h.2.1 (.inl hstate)

/-! ### Completions of memory requests -/

theorem handOver_linksInOrder (h : s.linksInOrder) (p : PortId) (c : Completion) : (handOver p c s).linksInOrder := by
  unfold handOver
  split
  · next hp =>
    obtain ⟨hcredits, hrequests, hcommands⟩ := (h p).1.1 hp
    exact h.setLink (.of_attached hp ((h p).up_of_attached hp) hcredits hrequests hcommands)
  · exact h

theorem settlePort_linksInOrder (h : s.linksInOrder) (p : PortId) (before : List ReqEntry) :
    (settlePort p before s).linksInOrder :=
  List.foldlRecOn (motive := fun u : State => u.linksInOrder) _ _ (by exact h) fun _ hu c _ => handOver_linksInOrder hu p c

theorem settleAll_linksInOrder (h : s.linksInOrder) (s0 : State) : (settleAll s0 s).linksInOrder :=
  List.foldlRecOn (motive := fun u : State => u.linksInOrder) ports _ h fun _ hu p _ => settlePort_linksInOrder hu p _

/-! ### Teardown -/

theorem checkTeardownEnd_linksInOrder (h : s.linksInOrder) (p : PortId) : (checkTeardownEnd p s).linksInOrder := by
  unfold checkTeardownEnd
  dsimp only
  split
  · next hend =>
    have hempty := (h p).1.2 (by rw [hend.1]; nofun)
    refine State.linksInOrder.of_links (h.setLink (p := p) (l := _) ?_) rfl
    refine ⟨⟨fun ha => ?_, fun _ => hempty⟩, fun hup => ?_, fun hoff => ?_⟩
    · dsimp only at ha
      (repeat' split at ha) <;> cases ha
    · dsimp only at hup ⊢
      split at hup
      · simp at hup
      · split at hup
        · assumption
        · simp at hup
    · dsimp only at hoff ⊢
      split at hoff
      · cases hoff
      · split at hoff
        · cases hoff
        · assumption
  · exact h

theorem engineTeardownReport_linksInOrder (h : s.linksInOrder) (p : PortId) : (engineTeardownReport p s).linksInOrder := by
  unfold engineTeardownReport
  split
  · exact checkTeardownEnd_linksInOrder (h.setLink (by exact h p)) p
  · exact h

theorem recallTeardownReport_linksInOrder (h : s.linksInOrder) (p : PortId) : (recallTeardownReport p s).linksInOrder := by
  unfold recallTeardownReport
  split
  · exact checkTeardownEnd_linksInOrder (h.setLink (by exact h p)) p
  · exact h

theorem queueTeardownReport_linksInOrder (h : s.linksInOrder) (p : PortId) : (queueTeardownReport p s).linksInOrder := by
  unfold queueTeardownReport
  split
  · exact checkTeardownEnd_linksInOrder (h.setLink (by exact h p)) p
  · exact h

theorem LinkPort.detached_inOrder (l : LinkPort) (cause : TeardownCause) : (l.detached cause).inOrder :=
  ⟨⟨nofun, fun _ => ⟨rfl, rfl, rfl, rfl, rfl, rfl, rfl, rfl⟩⟩, nofun, nofun⟩

/-- Teardown empties what its port held, so the port's own things need not be in order before it. -/
theorem beginTeardown_linksInOrder {p : PortId} (h : ∀ q, q ≠ p → (s.link q).inOrder) (cause : TeardownCause) :
    (beginTeardown p cause s).linksInOrder := by
  have hdetached : (s.setLink p ((s.link p).detached cause)).linksInOrder := by
    intro q
    by_cases hq : q = p
    · subst hq
      rw [State.setLink_link_same]
      exact LinkPort.detached_inOrder _ _
    · rw [State.setLink_link_ne _ _ hq]
      exact h q hq
  refine recallTeardownReport_linksInOrder (queueTeardownReport_linksInOrder (hdetached.of_links ?_) p) p
  exact (Block.same_of_outside (b := .links) (bs := [.recalls, .mapUnit])
    (recallsAtTeardown_outside _ (by simp) (by simp) p) (by simp)).trans rfl

theorem violation_linksInOrder (h : s.linksInOrder) (p : PortId) (kind : Violation) : (violation p kind s).linksInOrder :=
  beginTeardown_linksInOrder (s := handFault (.protocol p (s.link p).session kind) s) (fun q _ => by exact h q) .protocol

/-! ### Messages -/

theorem takeMalformed_linksInOrder (h : s.linksInOrder) (p : PortId) : (takeMalformed p s).linksInOrder := by
  unfold takeMalformed
  split
  · exact violation_linksInOrder h p _
  · exact h

theorem openSession_linksInOrder (h : s.linksInOrder) {p : PortId} (hidle : (s.link p).state = .idle) :
    (openSession p s).linksInOrder := by
  have hup : (s.link p).link = .up := (h p).2.1 (.inr hidle)
  have hopen := h.setLink (p := p) (l := { s.link p with
    state := .attached, session := ((s.link p).session + 1) % 256, requestCredits := Config.requestQueueSize,
    requestReturns := 0, commandCredits := Config.commandQueueSize, commandReturns := 0, tags := [], commands := [],
    outbound := [], notices := [] }) (.of_attached rfl hup rfl rfl rfl)
  exact hopen.setLink ((hopen p).sent _)

theorem takeAttach_linksInOrder (h : s.linksInOrder) (p : PortId) : (takeAttach p s).linksInOrder := by
  unfold takeAttach
  split
  · next hidle =>
    split
    · exact openSession_linksInOrder h hidle
    · exact h.setLink ((h p).sent _)
  · exact violation_linksInOrder h p _
  · exact h.setLink ((h p).sent _)
  · exact h.setLink ((h p).sent _)
  · exact h

theorem takeCredit_linksInOrder (h : s.linksInOrder) (p : PortId) (a b : Nat) (e : Bool) : (takeCredit p a b e s).linksInOrder := by
  have hadded : (s.setLink p { s.link p with
      completionCredits := (s.link p).completionCredits + a, noticeCredits := (s.link p).noticeCredits + b }).linksInOrder :=
    h.setLink (by exact h p)
  unfold takeCredit
  dsimp only
  split
  · exact takeMalformed_linksInOrder h p
  · split
    · split
      · exact h
      · exact hadded
    · split
      · exact violation_linksInOrder h p _
      · exact hadded
    all_goals exact h

theorem takeRecallAck_linksInOrder (h : s.linksInOrder) (p : PortId) (rid : Nat) (e : Bool) :
    (takeRecallAck p rid e s).linksInOrder := by
  unfold takeRecallAck
  split
  · exact takeMalformed_linksInOrder h p
  · split
    · split
      · exact h.quiet (by simp [s.quietFrom_self])
      · exact h
    · exact h

theorem takeResetPort_linksInOrder (h : s.linksInOrder) (p : PortId) : (takeResetPort p s).linksInOrder := by
  unfold takeResetPort
  split
  · exact beginTeardown_linksInOrder (fun q _ => h q) _
  · exact h

theorem takePoolCommand_linksInOrder (h : s.linksInOrder) (p : PortId) (tag : Nat) (cmd : PoolCmd) (e : Bool) :
    (takePoolCommand p tag cmd e s).linksInOrder := by
  unfold takePoolCommand
  dsimp only
  split
  · next hattached =>
    obtain ⟨hcredits, hrequests, hcommands⟩ := (h p).1.1 hattached
    split
    · exact violation_linksInOrder h p _
    · split
      · exact violation_linksInOrder h p _
      · split
        · exact violation_linksInOrder h p _
        · refine h.setLink (.of_attached hattached ((h p).up_of_attached hattached) ?_ hrequests hcommands)
          simp only [List.length_append, List.length_singleton]
          omega
  · exact h

theorem acceptRequest_linksInOrder (h : s.linksInOrder) (p : PortId) (tag : Nat) (kind : ReqKind) :
    (acceptRequest p tag kind s).linksInOrder := by
  unfold acceptRequest
  dsimp only
  refine settlePort_linksInOrder ?_ p _
  split
  · exact h
  · refine State.linksInOrder.of_links (s := s) h ?_
    exact (Block.same_of_outside (b := .links) (bs := [.requests, .caches, .walker, .mapUnit])
      (translate_outside _ (by simp) (by simp) (by simp) (by simp) p tag) (by simp)).trans rfl

theorem takeRequest_linksInOrder (h : s.linksInOrder) (p : PortId) (tag : Nat) (kind : ReqKind) (e : Bool) :
    (takeRequest p tag kind e s).linksInOrder := by
  unfold takeRequest
  dsimp only
  split
  · next hattached =>
    obtain ⟨hcredits, hrequests, hcommands⟩ := (h p).1.1 hattached
    split
    · exact violation_linksInOrder h p _
    · split
      · exact violation_linksInOrder h p _
      · split
        · exact violation_linksInOrder h p _
        · refine acceptRequest_linksInOrder (h.setLink ?_) p tag kind
          exact .of_attached hattached ((h p).up_of_attached hattached) hcredits hrequests hcommands
  · exact h

theorem takeMessage_linksInOrder (h : s.linksInOrder) (p : PortId) (m : HostMsg) : (takeMessage p m s).linksInOrder := by
  cases m with
  | attach => exact takeAttach_linksInOrder h p
  | credit a b => exact takeCredit_linksInOrder h p a b true
  | recallAck rid => exact takeRecallAck_linksInOrder h p rid true
  | resetPort => exact takeResetPort_linksInOrder h p
  | request tag kind => exact takeRequest_linksInOrder h p tag kind true
  | command tag cmd => exact takePoolCommand_linksInOrder h p tag cmd true

end

/-! ### Served pool commands -/

/-- A served command was deferred or taken, and the rest was quiet. -/
def servedQuietly (p : PortId) (s u : State) : Prop := u.quietFrom s.links ∨ u.quietFrom (takeCommand p s).links

section
variable {p : PortId} {tag : Nat} {s : State}

theorem refuseCommand_servedQuietly (st : Status) : servedQuietly p s (refuseCommand p tag st s) :=
  .inr (handOver_command_quiet (takeCommand p s).quietFrom_self p tag st)

theorem deferCommand_servedQuietly : servedQuietly p s (deferCommand p s) := .inl s.quietFrom_self

theorem takeCommand_noticeRoom (q : PortId) : (takeCommand p s).noticeRoom q = s.noticeRoom q := by
  have hstate := State.commandTaken_link_state s p q
  have hnotices := State.commandTaken_notices s p q
  unfold State.noticeRoom
  exact congrArg₂ (fun (x : PortState) (n : List Notice) => decide (x = .attached) && decide (n.length < Config.noticeQueueSize))
    hstate hnotices

theorem examineClaim_servedQuietly (hpn n : Nat) : servedQuietly p s (examineClaim p tag hpn n s) := by
  unfold examineClaim
  split
  · exact refuseCommand_servedQuietly _
  · split
    · exact .inr ((grantClaim_quiet ..).2 (takeCommand p s).quietFrom_self)
    · split
      · exact refuseCommand_servedQuietly _
      · split
        · exact refuseCommand_servedQuietly _
        · exact .inr (takeCommand p s).quietFrom_self

theorem examineRelease_servedQuietly (hpn : Nat) : servedQuietly p s (examineRelease p tag hpn s) := by
  unfold examineRelease
  split
  · exact refuseCommand_servedQuietly _
  · split
    · exact refuseCommand_servedQuietly _
    · split
      · exact deferCommand_servedQuietly
      · exact .inr (enterRecalling_quiet (takeCommand p s).quietFrom_self _ _ _ _)

theorem examineDrop_servedQuietly (hpn : Nat) : servedQuietly p s (examineDrop p tag hpn s) := by
  unfold examineDrop
  split
  · exact refuseCommand_servedQuietly _
  · split
    · exact refuseCommand_servedQuietly _
    · split
      · exact deferCommand_servedQuietly
      · exact .inr (recallItem_quiet (takeCommand p s).quietFrom_self _ _ _ _ _)

theorem examineGrant_servedQuietly (hpn target : Nat) (a : Access) : servedQuietly p s (examineGrant p tag hpn target a s) := by
  unfold examineGrant
  split
  · exact refuseCommand_servedQuietly _
  · split
    · exact refuseCommand_servedQuietly _
    · split
      · exact refuseCommand_servedQuietly _
      · next t _ =>
        split
        · exact refuseCommand_servedQuietly _
        · next hattached =>
          split
          · exact refuseCommand_servedQuietly _
          · split
            · exact refuseCommand_servedQuietly _
            · next hfull =>
              have hroom : (takeCommand p s).noticeRoom t = true := by
                rw [takeCommand_noticeRoom]
                exact State.noticeRoom_eq_true (not_not.1 hattached) (Nat.lt_of_not_le fun hle => hfull (.inr hle))
              exact .inr (appendNotice_quiet (by exact (takeCommand p s).quietFrom_self) hroom _)

theorem examineAccept_servedQuietly (gid hpn : Nat) : servedQuietly p s (examineAccept p tag gid hpn s) := by
  unfold examineAccept
  split
  · exact refuseCommand_servedQuietly _
  · split
    · exact refuseCommand_servedQuietly _
    · split
      · exact refuseCommand_servedQuietly _
      · exact .inr ((askWrite_quiet ..).2 (takeUpOffer_quiet (by exact (takeCommand p s).quietFrom_self) _))

theorem examineDecline_servedQuietly (gid : Nat) : servedQuietly p s (examineDecline p tag gid s) := by
  unfold examineDecline
  split
  · exact refuseCommand_servedQuietly _
  · exact .inr (handOver_command_quiet (handOver_grant_quiet (takeUpOffer_quiet (takeCommand p s).quietFrom_self _) _ _ _ _) _ _ _)

theorem examineRevoke_servedQuietly (hpn target : Nat) : servedQuietly p s (examineRevoke p tag hpn target s) := by
  unfold examineRevoke revokeFrom
  split
  · exact refuseCommand_servedQuietly _
  · split
    · exact refuseCommand_servedQuietly _
    · split
      · exact refuseCommand_servedQuietly _
      · split
        · split
          · exact refuseCommand_servedQuietly _
          · split
            · exact deferCommand_servedQuietly
            · exact .inr (recallItem_quiet (takeCommand p s).quietFrom_self _ _ _ _ _)
        · split
          · exact .inr (handOver_command_quiet (withdrawOffer_quiet (takeCommand p s).quietFrom_self _ _) _ _ _)
          · exact refuseCommand_servedQuietly _

end

theorem State.servedCommand_spec {s : State} {p : PortId} {c : Nat × PoolCmd} (h : s.servedCommand p = some c) :
    (s.link p).state ≠ .detaching ∧ (s.link p).commands.head? = some c := by
  unfold State.servedCommand at h
  split at h
  · next hserves => exact ⟨hserves.2, h⟩
  · cases h

theorem State.linksInOrder.attached_of_served {s : State} (h : s.linksInOrder) {p : PortId} {c : Nat × PoolCmd}
    (hserved : s.servedCommand p = some c) : (s.link p).state = .attached ∧ (s.link p).commands ≠ [] := by
  obtain ⟨-, hhead⟩ := State.servedCommand_spec hserved
  have hcommands : (s.link p).commands ≠ [] := fun hnil => by simp [hnil] at hhead
  exact ⟨by_contra fun hn => hcommands ((h p).1.2 hn).1, hcommands⟩

theorem returnCredits_linksInOrder_of_none {u : State} (h : u.linksInOrder) (p : PortId) : (returnCredits p u).linksInOrder := by
  unfold returnCredits
  dsimp only
  split
  · next hr =>
    obtain ⟨-, hrequests, hcommands⟩ := (h p).1.1 hr.1
    exact absurd hr.2 (by simp [hrequests, hcommands])
  · exact h

/-- The credit of the command taken is returned in the same event, and the command credits balance again. -/
theorem serveCommand_linksInOrder {s : State} {p : PortId} {c : Nat × PoolCmd} {examined : State → State} (h : s.linksInOrder)
    (hserved : s.servedCommand p = some c) (hexamined : ∀ u, servedQuietly p u (examined u)) :
    (serveCommand p examined s).linksInOrder := by
  obtain ⟨hattached, hcommands⟩ := h.attached_of_served hserved
  obtain ⟨hcredits, hrequests, hreturns⟩ := (h p).1.1 hattached
  rcases hexamined (movePointer (sourceOf p) s) with hdeferred | htaken
  · exact returnCredits_linksInOrder_of_none (h.quiet (by exact hdeferred)) p
  · generalize hu : examined (movePointer (sourceOf p) s) = u at htaken
    replace htaken : u.quietFrom (s.commandTaken p).links := htaken
    have hcore : (u.link p).core = ((s.commandTaken p).link p).core := (htaken p).core
    rw [State.commandTaken_link_self] at hcore
    have hstate : (u.link p).state = .attached := (congrArg LinkPort.state hcore).trans hattached
    have hcc : (u.link p).commandCredits = (s.link p).commandCredits := (congrArg LinkPort.commandCredits hcore :)
    have hcr : (u.link p).commandReturns = (s.link p).commandReturns + 1 := (congrArg LinkPort.commandReturns hcore :)
    have hcs : (u.link p).commands = (s.link p).commands.tail := (congrArg LinkPort.commands hcore :)
    have hlink : (u.link p).link = .up := (congrArg LinkPort.link hcore).trans ((h p).up_of_attached hattached)
    rw [serveCommand, hu, returnCredits_of_returns hstate (by omega)]
    have hpos : 0 < (s.link p).commands.length := List.length_pos_iff.2 hcommands
    intro q
    by_cases hq : q = p
    · subst hq
      rw [State.setLink_link_same]
      refine .of_attached hstate hlink ?_ rfl rfl
      simp only [LinkPort.returned, hcc, hcr, hcs, List.length_tail]
      omega
    · rw [State.setLink_link_ne _ _ hq]
      refine (htaken q).inOrder ?_
      rw [show (s.commandTaken p).links.get q = s.link q from State.commandTaken_link_of_ne s p hq]
      exact h q

/-! ### Sends -/

theorem sendCompletion_linksInOrder {s : State} (h : s.linksInOrder) {p : PortId} (hattached : (s.link p).state = .attached)
    (c : Completion) (rest : List Completion) : (sendCompletion p c rest s).linksInOrder := by
  obtain ⟨hcredits, hrequests, hcommands⟩ := (h p).1.1 hattached
  have hup := (h p).up_of_attached hattached
  unfold sendCompletion
  dsimp only
  split
  · exact h.setLink (.of_attached hattached hup hcredits hrequests hcommands)
  · have hothers : ∀ q, q ≠ p → ((retire p c.tag (s.setLink p { s.link p with
        outbound := rest, completionCredits := (s.link p).completionCredits - 1,
        tags := (s.link p).tags.filter fun t => !(t == c.tag), sent := (s.link p).sent ++ [.completion c] })).link q).inOrder :=
      fun q hq => by
        simp only [retire, State.setLink_link_ne _ _ hq, State.setQueue_link]
        exact h q
    rw [returnCredits, if_pos (by simp [retire, State.setQueue_link, hattached])]
    intro q
    by_cases hq : q = p
    · subst hq
      rw [State.setLink_link_same]
      refine .of_attached (by simp [retire, State.setQueue_link, hattached]) (by simp [retire, State.setQueue_link, hup]) ?_ rfl rfl
      simp only [retire, State.setLink_link_same, State.setQueue_link]
      omega
    · rw [State.setLink_link_ne _ _ hq]
      exact hothers q hq
  · refine beginTeardown_linksInOrder (fun q hq => ?_) _
    simp only [retire, State.setLink_link_ne _ _ hq, State.setQueue_link]
    exact h q

theorem sendNotice_linksInOrder {s : State} (h : s.linksInOrder) {p : PortId} (hattached : (s.link p).state = .attached)
    (n : Notice) (rest : List Notice) : (sendNotice p n rest s).linksInOrder := by
  obtain ⟨hcredits, hrequests, hcommands⟩ := (h p).1.1 hattached
  have hsent := h.setLink (p := p) (l := { s.link p with
    notices := rest, noticeCredits := (s.link p).noticeCredits - 1, sent := (s.link p).sent ++ [.notice n] })
    (.of_attached hattached ((h p).up_of_attached hattached) hcredits hrequests hcommands)
  refine hsent.quiet (fillPending_quiet ?_ p)
  cases n <;> exact State.quietFrom_self _

end Sys2Proof.Machine
end

section
/-! O55, command by command. -/

namespace Sys2Proof.Machine

/-- If the outcome is a next state, `P` holds of it. -/
def leadsTo (P : State → Prop) (o : Host.Outcome State Fault Refusal) : Prop := ∀ t, o = .next t → P t

section
variable {P : State → Prop} {s t : State}

theorem leadsTo_next (h : P t) : leadsTo P (.next t) := by
  intro u hu
  cases hu
  exact h

theorem leadsTo_whenOperating (hs : P s) (ht : s.operating = true → P t) : leadsTo P (whenOperating s t) := by
  refine leadsTo_next ?_
  split
  · next hop => exact ht hop
  · exact hs

theorem leadsTo_carryOut {c : ChannelId} {i : Nat} {a : Access64} {f : State → State}
    (h : a.frame < s.frames → P (f (completeAccess c i s))) : leadsTo P (carryOut c i a f s) := by
  unfold carryOut
  split
  · next hf => exact leadsTo_next (h hf)
  · intro t ht
    cases ht

/-- An invariant of some blocks is kept by every command that leaves these blocks. -/
theorem leadsTo_of_same (bs : List Block) (hP : ∀ t, (∀ b ∈ bs, b.same s t) → P t) {c : Instr}
    (hb : ∀ b ∈ bs, b ∉ Block.caches :: touches c) : leadsTo P (exec c s) :=
  fun t ht => hP t fun b hmem => Block.same_of_outside (exec_outside c s t ht) (hb b hmem)

end

theorem State.supplyValid_of_operating {s : State} (h : s.operating = true) : s.supplyValid = true := by
  simp only [State.operating, Bool.and_eq_true] at h
  exact h.1

section
variable {s t : State}

theorem sessions_whenOperating (h : s.sessionsInOrder) (ht : s.linksInOrder → t.linksInOrder) :
    leadsTo State.sessionsInOrder (whenOperating s t) :=
  leadsTo_whenOperating h fun hop => (ht (h.linksInOrder (State.supplyValid_of_operating hop))).sessionsInOrder

theorem sessions_onArrival (h : s.sessionsInOrder) (p : PortId) (ht : s.linksInOrder → t.linksInOrder) :
    leadsTo State.sessionsInOrder (onArrival p s t) := sessions_whenOperating h fun hl => by
  split
  · exact ht hl
  · exact hl

theorem sessions_onEngine (h : s.sessionsInOrder) (ht : s.linksInOrder → t.linksInOrder) :
    leadsTo State.sessionsInOrder (onEngine s t) := sessions_whenOperating h fun hl => by
  split
  · exact ht hl
  · exact hl

/-! ### Engine events that may end a teardown -/

theorem scanPast_linksInOrder (h : s.linksInOrder) (p : PortId) (f : Nat) : (scanPast p f s).linksInOrder := by
  unfold scanPast
  split
  · exact h
  · exact engineTeardownReport_linksInOrder (by exact h) p

theorem scanFrame_linksInOrder (h : s.linksInOrder) (p : PortId) (f : Nat) (i : MapItem) : (scanFrame p f i s).linksInOrder := by
  unfold scanFrame
  cases i.role
  case reader =>
    dsimp only
    split
    · exact h
    · exact scanPast_linksInOrder (h.quiet (recallItem_quiet s.quietFrom_self _ _ _ _ _)) p f
  case holder =>
    dsimp only
    split
    · exact h
    · exact scanPast_linksInOrder (h.quiet (enterRecalling_quiet s.quietFrom_self _ _ _ _)) p f

theorem scanTurn_linksInOrder (h : s.linksInOrder) (p : PortId) (n : Nat) : (scanTurn p n s).linksInOrder := by
  unfold scanTurn
  dsimp only
  split
  · exact scanFrame_linksInOrder h p _ _
  · exact engineTeardownReport_linksInOrder (by exact h) p

theorem takeCompletion_linksInOrder (h : s.linksInOrder) (r : RecallRecord) : (takeCompletion r s).linksInOrder := by
  unfold takeCompletion
  dsimp only
  refine engineTeardownReport_linksInOrder (recallTeardownReport_linksInOrder (h.quiet ?_) _) _
  have hrole : ∀ u : State, u.quietFrom s.links → (match r.role with
      | .holder => exitRecalling r.frame u
      | .reader => removeReader r.frame r.port u).quietFrom s.links := fun u hu => by
    split <;> simp [hu]
  rw [clearWaiting_quiet]
  split
  · exact handOver_command_quiet (hrole _ (by exact s.quietFrom_self)) _ _ _
  · exact hrole _ (by exact s.quietFrom_self)

theorem leaveIssued_linksInOrder (h : s.linksInOrder) (p : PortId) (tag frame : Nat) (got : Gathered) :
    (leaveIssued p tag frame got s).linksInOrder := by
  unfold leaveIssued
  split
  · exact queueTeardownReport_linksInOrder (h.quiet ((drainReport_quiet ..).2 (by exact s.quietFrom_self))) p
  · have hsettled : (settlePort p (s.queue p) (setEntryState p tag (.done (finalStatus got) got) s)).linksInOrder :=
      settlePort_linksInOrder (by exact h) p _
    exact hsettled.quiet ((drainReport_quiet ..).2 (State.quietFrom_self _))

theorem takeLineResult_linksInOrder (h : s.linksInOrder) (p : PortId) (r : LineResult) : (takeLineResult p r s).linksInOrder := by
  unfold takeLineResult
  split
  · exact h
  · split
    · dsimp only
      split
      · exact h
      · exact leaveIssued_linksInOrder h p _ _ _
    · exact h

/-! ### Link events and port requests -/

theorem LinkPort.inOrder.closed {l l' : LinkPort} (h : l.inOrder) (hout : l.state ≠ .attached) (hstate : l'.state ≠ .attached)
    (hthings : l'.commands = l.commands ∧ l'.outbound = l.outbound ∧ l'.notices = l.notices ∧ l'.tags = l.tags ∧
      l'.requestCredits = l.requestCredits ∧ l'.requestReturns = l.requestReturns ∧ l'.commandCredits = l.commandCredits ∧
      l'.commandReturns = l.commandReturns)
    (hidle : l'.state = .idle → l'.link = .up) (hoffline : l'.state = .offline → l'.link ≠ .up) : l'.inOrder := by
  obtain ⟨h1, h2, h3, h4, h5, h6, h7, h8⟩ := hthings
  refine ⟨⟨fun ha => absurd ha hstate, fun _ => ?_⟩, fun hup => hidle (hup.resolve_left hstate), hoffline⟩
  rw [h1, h2, h3, h4, h5, h6, h7, h8]
  exact h.1.2 hout

theorem farEndDetected_linksInOrder (h : s.linksInOrder) {p : PortId} (hdown : (s.link p).link = .down) :
    (s.setLink p { s.link p with link := .training }).linksInOrder := by
  have hfits := (h p).2.1
  refine h.setLink ((h p).closed (fun ha => ?_) (fun ha => ?_) ⟨rfl, rfl, rfl, rfl, rfl, rfl, rfl, rfl⟩ (fun hi => ?_) nofun)
  · rw [hfits (.inl ha)] at hdown
    cases hdown
  · rw [hfits (.inl ha)] at hdown
    cases hdown
  · rw [hfits (.inr hi)] at hdown
    cases hdown

theorem trainingCompletes_linksInOrder (h : s.linksInOrder) {p : PortId} (htraining : (s.link p).link = .training) :
    (s.setLink p { s.link p with
      link := .up, state := if (s.link p).state = .offline then .idle else (s.link p).state }).linksInOrder := by
  have hout : (s.link p).state ≠ .attached := fun ha => by
    rw [(h p).2.1 (.inl ha)] at htraining
    cases htraining
  refine h.setLink ((h p).closed hout ?_ ⟨rfl, rfl, rfl, rfl, rfl, rfl, rfl, rfl⟩ (fun _ => rfl) ?_)
  · dsimp only
    split
    · nofun
    · exact hout
  · dsimp only
    split
    · nofun
    · next hn => exact fun ho => absurd ho hn

theorem trainingFails_linksInOrder (h : s.linksInOrder) {p : PortId} (htraining : (s.link p).link = .training) :
    (s.setLink p { s.link p with link := .down }).linksInOrder := by
  have hfits := (h p).2.1
  refine h.setLink ((h p).closed (fun ha => ?_) (fun ha => ?_) ⟨rfl, rfl, rfl, rfl, rfl, rfl, rfl, rfl⟩ (fun hi => ?_) nofun)
  · rw [hfits (.inl ha)] at htraining
    cases htraining
  · rw [hfits (.inl ha)] at htraining
    cases htraining
  · rw [hfits (.inr hi)] at htraining
    cases htraining

theorem execLinkDown_sessionsInOrder (hs : s.sessionsInOrder) (p : PortId) : leadsTo State.sessionsInOrder (execLinkDown p s) := by
  refine sessions_whenOperating hs fun h => ?_
  have hclosed : ∀ x, x ≠ .attached → x ≠ .idle → (s.link p).state = x →
      (s.setLink p { s.link p with link := .down }).linksInOrder := fun x ha hi hx =>
    h.setLink ((h p).closed (by rwa [hx]) (by dsimp only; rwa [hx]) ⟨rfl, rfl, rfl, rfl, rfl, rfl, rfl, rfl⟩
      (fun hidle => absurd (hx.symm.trans hidle) hi) nofun)
  dsimp only
  split
  · split
    · next hidle =>
      exact h.setLink ((h p).closed (by rw [hidle]; nofun) nofun ⟨rfl, rfl, rfl, rfl, rfl, rfl, rfl, rfl⟩ nofun nofun)
    · refine beginTeardown_linksInOrder (fun q hq => ?_) _
      change ((s.setLink p _).link q).inOrder
      rw [State.setLink_link_ne _ _ hq]
      exact h q
    · next hx => exact hclosed _ (by nofun) (by nofun) hx
    · next hx => exact hclosed _ (by nofun) (by nofun) hx
    · next hx => exact hclosed _ (by nofun) (by nofun) hx
  · exact h

theorem answerPort_links (st : MgmtStatus) (s : State) : (answerPort st s).links = s.links :=
  Block.same_of_outside (b := .links) (bs := [.mgmt]) (answerPort_outside s (by simp) st) (by simp)

theorem answerPort_linksInOrder (h : s.linksInOrder) (st : MgmtStatus) : (answerPort st s).linksInOrder :=
  h.of_links (answerPort_links st s)

theorem takePortReset_linksInOrder (h : s.linksInOrder) (p : PortId) : (takePortReset p s).linksInOrder := by
  unfold takePortReset
  split
  · exact beginTeardown_linksInOrder (fun q _ => answerPort_linksInOrder h .ok q) _
  · exact answerPort_linksInOrder h _

theorem takePortDisable_linksInOrder (h : s.linksInOrder) (p : PortId) : (takePortDisable p s).linksInOrder := by
  have hanswered := answerPort_linksInOrder h .ok
  unfold takePortDisable
  dsimp only
  split
  · refine beginTeardown_linksInOrder (fun q hq => ?_) _
    rw [State.setLink_link_ne _ _ hq]
    exact hanswered q
  · exact hanswered.setLink (by exact h p)
  · next hx =>
    exact hanswered.setLink ((h p).closed (by rw [hx]; nofun) nofun ⟨rfl, rfl, rfl, rfl, rfl, rfl, rfl, rfl⟩ nofun nofun)
  · next hx =>
    exact hanswered.setLink ((h p).closed (by rw [hx]; nofun) nofun ⟨rfl, rfl, rfl, rfl, rfl, rfl, rfl, rfl⟩ nofun nofun)
  · exact hanswered

theorem takePortEnable_linksInOrder (h : s.linksInOrder) (p : PortId) : (takePortEnable p s).linksInOrder := by
  unfold takePortEnable
  dsimp only
  split
  · next hx =>
    refine (answerPort_linksInOrder h .ok).setLink ((h p).closed (by rw [hx]; nofun) ?_ ⟨rfl, rfl, rfl, rfl, rfl, rfl, rfl, rfl⟩ ?_ ?_)
    all_goals
      dsimp only
      split <;> simp_all
  · exact (answerPort_linksInOrder h .ok).setLink (by exact h p)
  all_goals exact answerPort_linksInOrder h .wrongState

/-! ### Resets -/

theorem LinkPort.afterReset_inOrder (sent : List OutMsg) : (LinkPort.afterReset sent).inOrder :=
  ⟨LinkPort.afterReset_sessionInOrder sent, LinkPort.afterReset_stateFitsLink sent⟩

theorem resetBlocks_linksInOrder (pop : Population) (startUp : Bool) (s : State) : (resetBlocks pop startUp s).linksInOrder :=
  fun p => by
    rw [resetBlocks_link]
    exact LinkPort.afterReset_inOrder _

theorem chipReset_linksInOrder (s : State) : (chipReset s).linksInOrder :=
  (resetBlocks_linksInOrder s.pop true (discardAccesses s)).of_links
    (Block.same_of_outside (b := .links) (bs := [.mgmt]) (placeResult_outside _ (by simp) _ _) (by simp) :)

theorem takeMgmtRequest_linksInOrder (h : s.linksInOrder) (id : Nat) (r : MgmtReq) : (takeMgmtRequest id r s).linksInOrder := by
  unfold takeMgmtRequest
  split
  · exact h
  · dsimp only
    split
    · exact h.of_links (Block.same_of_outside (b := .links) (bs := [.mgmt]) (placeResult_outside _ (by simp) _ _) (by simp) :)
    · by_cases hr : r = .chipReset
      · subst hr
        exact chipReset_linksInOrder _
      · exact h.of_links
          (Block.same_of_outside (b := .links) (bs := [.mgmt, .engine]) (runRequest_outside _ (by simp) (by simp) hr) (by simp) :)

end

/-! ### Every command -/

theorem State.sessionsInOrder_of_same {s t : State} (h : s.sessionsInOrder) (hlinks : t.links = s.links)
    (hsupply : t.supplyValid = s.supplyValid) : t.sessionsInOrder := by
  unfold State.sessionsInOrder State.link
  rw [hlinks, hsupply]
  exact h

theorem State.supplyFail_sessionsInOrder {s : State} (h : s.sessionsInOrder) :
    leadsTo State.sessionsInOrder (execSupplyFail s) := by
  refine leadsTo_next fun p => ⟨?_, nofun⟩
  match p with
  | 0 => exact (h 0).1
  | 1 => exact (h 1).1
  | 2 => exact (h 2).1
  | 3 => exact (h 3).1

theorem exec_sessionsInOrder (c : Instr) {s : State} (h : s.sessionsInOrder) : leadsTo State.sessionsInOrder (exec c s) := by
  have hserve : ∀ {p : PortId} {c : Nat × PoolCmd} {f : State → State}, s.servedCommand p = some c →
      (∀ u, servedQuietly p u (f u)) → s.linksInOrder → (serveCommand p f s).linksInOrder :=
    fun hserved hf hl => serveCommand_linksInOrder hl hserved hf
  cases c
  case powerOn pins => exact leadsTo_next (resetBlocks_linksInOrder _ _ _).sessionsInOrder
  case resetNAssert pins =>
    refine leadsTo_next ?_
    split
    · exact (resetBlocks_linksInOrder _ _ _).sessionsInOrder
    · exact h
  case resetNRelease =>
    refine leadsTo_next ?_
    dsimp only
    (repeat' split) <;> exact h
  case supplyFail => exact State.supplyFail_sessionsInOrder h
  case farEndDetected p =>
    refine sessions_whenOperating h fun hl => ?_
    split
    · next hd => exact farEndDetected_linksInOrder hl hd
    · exact hl
  case trainingCompletes p =>
    refine sessions_whenOperating h fun hl => ?_
    dsimp only
    split
    · next hd => exact trainingCompletes_linksInOrder hl hd
    · exact hl
  case trainingFails p =>
    refine sessions_whenOperating h fun hl => ?_
    split
    · next hd => exact trainingFails_linksInOrder hl hd
    · exact hl
  case linkDown p => exact execLinkDown_sessionsInOrder h p
  case attach p => exact sessions_onArrival h p fun hl => takeAttach_linksInOrder hl p
  case credit p a b => exact sessions_onArrival h p fun hl => takeCredit_linksInOrder hl p a b _
  case recallAck p rid => exact sessions_onArrival h p fun hl => takeRecallAck_linksInOrder hl p rid _
  case resetPort p => exact sessions_onArrival h p fun hl => takeResetPort_linksInOrder hl p
  case malformedMessage p bytes =>
    refine sessions_onArrival h p fun hl => ?_
    split
    · exact takeMalformed_linksInOrder hl p
    · exact takeMessage_linksInOrder hl p _
  case read | write | cswap | fence | flush | detach => exact sessions_onArrival h _ fun hl => takeRequest_linksInOrder hl _ _ _ _
  case commandArrival p tag cmd => exact sessions_onArrival h p fun hl => takePoolCommand_linksInOrder hl p tag cmd _
  case claim p =>
    refine sessions_whenOperating h fun hl => ?_
    split
    · next hs => exact hserve hs (fun _ => examineClaim_servedQuietly _ _) hl
    · exact hl
  case release p =>
    refine sessions_whenOperating h fun hl => ?_
    split
    · next hs => exact hserve hs (fun _ => examineRelease_servedQuietly _) hl
    · exact hl
  case drop p =>
    refine sessions_whenOperating h fun hl => ?_
    split
    · next hs => exact hserve hs (fun _ => examineDrop_servedQuietly _) hl
    · exact hl
  case grant p =>
    refine sessions_whenOperating h fun hl => ?_
    split
    · next hs => exact hserve hs (fun _ => examineGrant_servedQuietly _ _ _) hl
    · exact hl
  case accept p =>
    refine sessions_whenOperating h fun hl => ?_
    split
    · next hs => exact hserve hs (fun _ => examineAccept_servedQuietly _ _) hl
    · exact hl
  case decline p =>
    refine sessions_whenOperating h fun hl => ?_
    split
    · next hs => exact hserve hs (fun _ => examineDecline_servedQuietly _) hl
    · exact hl
  case revoke p =>
    refine sessions_whenOperating h fun hl => ?_
    split
    · next hs => exact hserve hs (fun _ => examineRevoke_servedQuietly _ _) hl
    · exact hl
  case teardownScan p =>
    refine sessions_whenOperating h fun hl => ?_
    split
    · split
      · exact scanTurn_linksInOrder (by exact hl) p _
      all_goals exact hl
    · exact hl
  case engineTakesTeardown p =>
    refine sessions_onEngine h fun hl => hl.quiet ?_
    split <;> simp [s.quietFrom_self]
  case claimDeadline p tag =>
    refine sessions_onEngine h fun hl => hl.quiet ?_
    (repeat' split) <;> simp [s.quietFrom_self]
  case offerDeadline gid =>
    refine sessions_onEngine h fun hl => hl.quiet ?_
    (repeat' split) <;> simp [s.quietFrom_self]
  case recallDeadline rid =>
    refine sessions_whenOperating h fun hl => hl.quiet ?_
    (repeat' split) <;> simp [s.quietFrom_self]
  case recallCompletionReport rid =>
    refine sessions_onEngine h fun hl => ?_
    split
    · split
      · exact takeCompletion_linksInOrder hl _
      · exact hl
    · exact hl
  case scrubEndReport =>
    refine sessions_onEngine h fun hl => hl.quiet ?_
    (repeat' split) <;> simp [s.quietFrom_self]
  case mapAccessGrant =>
    refine sessions_whenOperating h fun hl => ?_
    split
    · exact settleAll_linksInOrder (hl.quiet (sendMapAccess_quiet s.quietFrom_self _)) s
    all_goals exact hl
  case mapReadResult p hpn =>
    refine sessions_whenOperating h fun hl => ?_
    split
    · exact hl
    · refine settleAll_linksInOrder (hl.of_links ?_) s
      exact takeMapResult_links ..
  case lineResult p tag line =>
    refine sessions_whenOperating h fun hl => ?_
    split
    · exact hl
    · exact takeLineResult_linksInOrder (by exact hl) p _
  case completionSend p =>
    refine sessions_whenOperating h fun hl => ?_
    dsimp only
    split
    · next hsend =>
      split
      · exact sendCompletion_linksInOrder hl hsend.1 _ _
      · exact hl
    · exact hl
  case noticeSend p =>
    refine sessions_whenOperating h fun hl => ?_
    dsimp only
    split
    · next hsend =>
      split
      · exact sendNotice_linksInOrder hl hsend.1 _ _
      · exact hl
    · exact hl
  case evict =>
    refine sessions_whenOperating h fun hl => hl.quiet ?_
    split <;> simp [s.quietFrom_self]
  case quarantine =>
    refine sessions_whenOperating h fun hl => hl.quiet ?_
    split <;> simp [s.quietFrom_self]
  case portReset =>
    refine sessions_whenOperating h fun hl => ?_
    split
    · exact takePortReset_linksInOrder hl _
    · exact hl
  case portDisable =>
    refine sessions_whenOperating h fun hl => ?_
    split
    · exact takePortDisable_linksInOrder hl _
    · exact hl
  case portEnable =>
    refine sessions_whenOperating h fun hl => ?_
    split
    · exact takePortEnable_linksInOrder hl _
    · exact hl
  case mgmtRequestTransaction bytes =>
    refine sessions_whenOperating h fun hl => ?_
    split
    · exact hl
    · exact hl
    · exact takeMgmtRequest_linksInOrder (by exact hl) _ _
  case chipReset id => exact sessions_whenOperating h fun hl => takeMgmtRequest_linksInOrder (by exact hl) _ _
  all_goals
    exact leadsTo_of_same [.links, .supply] (fun t ht => State.sessionsInOrder_of_same h (ht .links (by simp)) (ht .supply (by simp)))
      (by simp [touches])

/-- A step is the next command's or, with none waiting, the clock's. -/
theorem step_cases {s t : State} (h : step s = .next t) :
    t = idle s ∨ ∃ c rest, s.pending = c :: rest ∧ exec c { s with pending := rest } = .next t := by
  unfold step at h
  split at h
  · cases h
    exact .inl rfl
  · next c rest hp => exact .inr ⟨c, rest, hp, h⟩

/-- Settles O55, by the command that the step carries out. -/
theorem stepKeepsSessionsInOrder : Obligations.StepKeepsSessionsInOrder := by
  unfold Obligations.StepKeepsSessionsInOrder
  intro s t hstep h
  rcases step_cases hstep with rfl | ⟨c, rest, -, hexec⟩
  · exact h
  · exact exec_sessionsInOrder c (s := { s with pending := rest }) h t hexec

end Sys2Proof.Machine
end

section
/-! What keeps frame 0 apart (R2): each block that names frames names none that is frame 0, and an operation is given
frames of the Free List, of offers, records and reports, or frames that hold an item, none of which is frame 0. -/

namespace Sys2Proof.Machine

/-! ### The directory's listed records -/

/-- In canonical form a listed value reads back, and is not what an unlisted key reads as. -/
theorem sparseGet_of_mem {α : Type} [DecidableEq α] {d : Nat → α} {m : List (Nat × α)} (hw : sparseWf d m = true)
    {e : Nat × α} (he : e ∈ m) : sparseGet d m e.1 = e.2 ∧ e.2 ≠ d e.1 := by
  induction m with
  | nil => cases he
  | cons x t ih =>
    simp only [sparseWf, Bool.and_eq_true, decide_eq_true_eq, List.all_eq_true] at hw
    obtain ⟨⟨hx, ht⟩, hwt⟩ := hw
    rcases List.mem_cons.1 he with rfl | he
    · exact ⟨if_pos rfl, hx⟩
    · have hne : x.1 ≠ e.1 := Nat.ne_of_lt (ht e he)
      rw [sparseGet, if_neg hne]
      exact ih hwt he

/-- A value that is not the default is listed. -/
theorem mem_of_sparseGet_ne {α : Type} {d : Nat → α} {m : List (Nat × α)} {k : Nat} (h : sparseGet d m k ≠ d k) :
    (k, sparseGet d m k) ∈ m := by
  induction m with
  | nil => exact absurd rfl h
  | cons x t ih =>
    rw [sparseGet] at h ⊢
    split
    · next heq =>
      subst heq
      exact List.mem_cons_self
    · next hne =>
      rw [if_neg hne] at h
      exact List.mem_cons_of_mem _ (ih h)

theorem State.record_of_mem {s : State} (hw : sparseWf FrameRecord.afterReset s.engine.directory = true)
    {e : Nat × FrameRecord} (he : e ∈ s.engine.directory) : s.record e.1 = e.2 := (sparseGet_of_mem hw he).1

theorem State.itemAt_mem {s : State} (hw : sparseWf FrameRecord.afterReset s.engine.directory = true) {p : PortId}
    {hpn f : Nat} {i : MapItem} (h : s.itemAt p hpn = some (f, i)) : i ∈ (s.record f).items := by
  obtain ⟨e, he, hfind⟩ := List.exists_of_findSome?_eq_some h
  obtain ⟨j, hj, heq⟩ := Option.map_eq_some_iff.1 hfind
  obtain ⟨rfl, rfl⟩ := Prod.mk.inj heq
  rw [State.record_of_mem hw he]
  exact List.mem_of_find?_eq_some hj

theorem checkItem_spec {s : State} {p : PortId} {hpn f : Nat} {i : MapItem} (h : checkItem p hpn s = .ok (f, i)) :
    s.itemAt p hpn = some (f, i) ∧ i.phase = .active := by
  unfold checkItem at h
  split at h
  · cases h
  · split at h
    · cases h
    · next fi hfi =>
      split at h
      · cases h
      · next hphase =>
        obtain rfl : fi = (f, i) := by simpa using h
        refine ⟨hfi, ?_⟩
        cases hp : i.phase
        · rfl
        · exact absurd hp hphase

/-! ### Frame 0 in each block -/

/-- The directory holds frame 0 as the reset wrote it, and no list, offer or scan names it. -/
structure NoneOfFrameZero (directory : List (Nat × FrameRecord)) (freeList : List Nat) (offers : List Offer)
    (teardown : Quad ScanState) : Prop where
  record : sparseGet FrameRecord.afterReset directory 0 = FrameRecord.afterReset 0
  directory : sparseWf FrameRecord.afterReset directory = true
  freeList : 0 ∉ freeList
  offers : ∀ o ∈ offers, o.frame ≠ 0
  scans : ∀ p n w, teardown.get p = .scanning n w → n ≠ 0

/-- The Allocation Engine keeps frame 0 apart. -/
def Engine.Apart (e : Engine) : Prop := NoneOfFrameZero e.directory e.freeList e.offers e.teardown

/-- Frame 0 is not to be scrubbed. -/
def Scrub.Apart (x : Scrub) : Prop := 0 ∉ x.queue ∧ x.current ≠ some 0

/-- No recall record is of frame 0. -/
def RecallUnit.Apart (x : RecallUnit) : Prop := ∀ r ∈ x.table, r.frame ≠ 0

/-- No ECC report is of frame 0. -/
def InFlight.Apart (x : InFlight) : Prop := (∀ e ∈ x.correctable, e.1 ≠ 0) ∧ ∀ e ∈ x.uncorrectable, e.1 ≠ 0

/-- The four blocks that name frames keep frame 0 apart. -/
def State.apart (s : State) : Prop := s.engine.Apart ∧ s.scrub.Apart ∧ s.recalls.Apart ∧ s.flight.Apart

theorem State.frameZeroApart_iff (s : State) : s.frameZeroApart ↔ s.apart := by
  constructor
  · rintro ⟨hrecord, hw, hfree, hqueue, hcurrent, hoffers, hrecalls, hc, hu, hscan⟩
    exact ⟨⟨hrecord, hw, hfree, hoffers, hscan⟩, ⟨hqueue, hcurrent⟩, hrecalls, hc, hu⟩
  · rintro ⟨⟨hrecord, hw, hfree, hoffers, hscan⟩, ⟨hqueue, hcurrent⟩, hrecalls, hc, hu⟩
    exact ⟨hrecord, hw, hfree, hqueue, hcurrent, hoffers, hrecalls, hc, hu, hscan⟩

section
variable {s t : State}

theorem State.apart_of_same (h : s.apart) (he : t.engine = s.engine) (hx : t.scrub = s.scrub) (hr : t.recalls = s.recalls)
    (hf : t.flight = s.flight) : t.apart := by
  unfold State.apart
  rw [he, hx, hr, hf]
  exact h

/-- An operation that leaves the four blocks. -/
theorem State.apart_of_outside (h : s.apart) {bs : List Block} (ht : t.outside bs = s.outside bs) (he : .engine ∉ bs)
    (hx : .scrub ∉ bs) (hr : .recalls ∉ bs) (hf : .flight ∉ bs) : t.apart :=
  State.apart_of_same h (Block.same_of_outside (b := .engine) ht he) (Block.same_of_outside (b := .scrub) ht hx)
    (Block.same_of_outside (b := .recalls) ht hr) (Block.same_of_outside (b := .flight) ht hf)

/-- A frame that holds an item is not frame 0. -/
theorem State.apart.ne_zero_of_item (h : s.apart) {f : Nat} {i : MapItem} (hi : i ∈ (s.record f).items) : f ≠ 0 := by
  rintro rfl
  rw [State.record, h.1.record] at hi
  cases hi

theorem State.apart.ne_zero_of_checkItem (h : s.apart) {p : PortId} {hpn f : Nat} {i : MapItem}
    (hcheck : checkItem p hpn s = .ok (f, i)) : f ≠ 0 :=
  h.ne_zero_of_item (State.itemAt_mem h.1.directory (checkItem_spec hcheck).1)

/-- A frame in another state than RESERVED is not frame 0. -/
theorem State.apart.ne_zero_of_state (h : s.apart) {f : Nat} (hf : (s.record f).state ≠ .reserved) : f ≠ 0 := by
  rintro rfl
  rw [State.record, h.1.record] at hf
  exact hf rfl

/-! ### The operations of one block -/

theorem handOver_apart (h : s.apart) (p : PortId) (c : Completion) : (handOver p c s).apart :=
  State.apart_of_outside h (bs := [.links]) (handOver_outside s (by simp) p c) (by simp) (by simp) (by simp) (by simp)

theorem appendNotice_apart (h : s.apart) (p : PortId) (n : Notice) : (appendNotice p n s).apart := h

theorem setRecord_apart (h : s.apart) {f : Nat} (hf : f ≠ 0) (r : FrameRecord) : (s.setRecord f r).apart := by
  obtain ⟨he, hrest⟩ := h
  exact ⟨⟨(State.setRecord_record_ne r hf.symm).trans he.record, State.setRecord_directory_wf he.directory f r, he.freeList, he.offers,
    he.scans⟩, hrest⟩

theorem setOffers_apart (h : s.apart) {os : List Offer} (hos : ∀ o ∈ os, o.frame ≠ 0) :
    (s.setEngine { s.engine with offers := os }).apart := by
  obtain ⟨he, hrest⟩ := h
  exact ⟨⟨he.record, he.directory, he.freeList, hos, he.scans⟩, hrest⟩

theorem filterOffers_apart (h : s.apart) (keep : Offer → Bool) :
    (s.setEngine { s.engine with offers := s.engine.offers.filter keep }).apart :=
  setOffers_apart h fun o ho => h.1.offers o (List.mem_of_mem_filter ho)

theorem setFreeList_apart (h : s.apart) {fs : List Nat} (hfs : 0 ∉ fs) : (s.setEngine { s.engine with freeList := fs }).apart := by
  obtain ⟨he, hrest⟩ := h
  exact ⟨⟨he.record, he.directory, hfs, he.offers, he.scans⟩, hrest⟩

theorem setScan_apart (h : s.apart) (p : PortId) {x : ScanState} (hx : ∀ n w, x = .scanning n w → n ≠ 0) :
    (setScan p x s).apart := by
  obtain ⟨he, hrest⟩ := h
  refine ⟨⟨he.record, he.directory, he.freeList, he.offers, fun q n w hq => ?_⟩, hrest⟩
  by_cases hqp : q = p
  · subst hqp
    exact hx n w ((Quad.get_set_same _ _ _).symm.trans hq)
  · exact he.scans q n w ((Quad.get_set_ne _ _ hqp).symm.trans hq)

/-- Waiting marks are cleared; each scan stays where it stands. -/
theorem clearWaiting_apart (h : s.apart) : (clearWaiting s).apart := by
  obtain ⟨he, hrest⟩ := h
  refine ⟨⟨he.record, he.directory, he.freeList, he.offers, fun p n w hp => ?_⟩, hrest⟩
  rw [clearWaiting_teardown] at hp
  cases hx : s.engine.teardown.get p with
  | scanning m w' =>
    rw [hx] at hp
    cases hp
    exact he.scans p n w' hx
  | idle | handed | finished =>
    rw [hx] at hp
    cases hp

theorem setTable_apart (h : s.apart) {x : RecallUnit} (hx : ∀ r ∈ x.table, r.frame ≠ 0) : (s.setRecalls x).apart :=
  ⟨h.1, h.2.1, hx, h.2.2.2⟩

theorem updateRecall_apart (h : s.apart) (rid : Nat) {f : RecallRecord → RecallRecord} (hf : ∀ r, (f r).frame = r.frame) :
    (updateRecall rid f s).apart := by
  refine setTable_apart h fun r hr => ?_
  obtain ⟨r', hr', rfl⟩ := List.mem_map.1 hr
  split
  · rw [hf]
    exact h.2.2.1 r' hr'
  · exact h.2.2.1 r' hr'

theorem setScrub_apart (h : s.apart) {x : Scrub} (hx : x.Apart) : (s.setScrub x).apart := ⟨h.1, hx, h.2.2⟩

theorem takeScrub_apart (h : s.apart) : (takeScrub s).apart := by
  unfold takeScrub
  split
  · exact h
  · next f rest hqueue =>
    have hall : 0 ∉ f :: rest := hqueue ▸ h.2.1.1
    rw [List.mem_cons, not_or] at hall
    split
    · exact setScrub_apart h ⟨hall.2, fun hf => hall.1 (Option.some.inj hf).symm⟩
    · exact h

theorem joinScrub_apart (h : s.apart) {f : Nat} (hf : f ≠ 0) : (joinScrub f s).apart :=
  takeScrub_apart (setScrub_apart h ⟨by simpa using ⟨h.2.1.1, hf.symm⟩, h.2.1.2⟩)

theorem scrubIdle_apart (h : s.apart) : (scrubIdle s).apart := setScrub_apart h ⟨h.2.1.1, nofun⟩

/-! ### Recall records and notices -/

theorem reportComplete_apart (h : s.apart) (rid : Nat) : (reportComplete rid s).apart := by
  unfold reportComplete
  split
  · exact h
  · exact setTable_apart h h.2.2.1

theorem drainCheck_apart (h : s.apart) (rid : Nat) : (drainCheck rid s).apart := by
  unfold drainCheck
  split
  · exact h
  · split
    · exact h
    · split
      · exact reportComplete_apart h rid
      · split
        · exact updateRecall_apart h rid fun _ => rfl
        · exact reportComplete_apart h rid

theorem drainReport_apart (h : s.apart) (p : PortId) (f : Nat) : (drainReport p f s).apart := by
  unfold drainReport
  split
  · exact h
  · exact drainCheck_apart h _

theorem unmapPerformed_apart (h : s.apart) (rid : Nat) : (unmapPerformed rid s).apart :=
  drainCheck_apart (updateRecall_apart h rid (f := fun r => { r with
    phase := .draining, drained := match r.role with | .holder => some false | .reader => none }) fun _ => rfl) rid

theorem holderMayComplete_apart (h : s.apart) (f : Nat) : (holderMayComplete f s).apart := by
  unfold holderMayComplete
  split
  · exact h
  · split
    · exact h
    · split
      · exact reportComplete_apart h _
      · exact h

theorem startUnmap_apart (h : s.apart) (r : RecallRecord) : (startUnmap r s).apart :=
  updateRecall_apart h r.recallId (f := fun r => { r with phase := .unmapping, deadline := none }) fun _ => rfl

theorem setPending_apart (h : s.apart) (p : PortId) (l : List Nat) : (setPending p l s).apart := setTable_apart h h.2.2.1

theorem fillPending_apart (h : s.apart) (p : PortId) : (fillPending p s).apart := by
  unfold fillPending
  split
  · exact h
  · split
    · dsimp only
      split
      · exact setTable_apart h h.2.2.1
      · exact updateRecall_apart (setTable_apart h h.2.2.1) _ fun _ => rfl
    · exact h

theorem fillPendingTimes_apart (p : PortId) (n : Nat) (s : State) (h : s.apart) : (fillPendingTimes p n s).apart := by
  induction n generalizing s with
  | zero => exact h
  | succ n ih => exact ih _ (fillPending_apart h p)

theorem fillAllPending_apart (h : s.apart) : (fillAllPending s).apart :=
  List.foldlRecOn (motive := fun u : State => u.apart) ports _ h fun _ hu p _ => fillPendingTimes_apart p _ _ hu

theorem removeNoticeAndFill_apart (h : s.apart) (p : PortId) (f : Notice → Bool) : (removeNoticeAndFill p f s).apart := by
  unfold removeNoticeAndFill
  split
  · exact fillPending_apart (by exact h) p
  · exact h

theorem forceRecall_apart (h : s.apart) (r : RecallRecord) : (forceRecall r s).apart := by
  unfold forceRecall
  dsimp only
  split
  · exact startUnmap_apart (by exact setPending_apart h _ _) r
  · exact startUnmap_apart (by exact removeNoticeAndFill_apart h _ _) r

theorem recallsAtTeardown_apart (h : s.apart) (p : PortId) : (recallsAtTeardown p s).apart :=
  List.foldlRecOn (motive := fun u : State => u.apart) _ _ h fun _ hu r _ => startUnmap_apart (setPending_apart hu _ _) r

theorem createRecall_apart (h : s.apart) {f : Nat} (hf : f ≠ 0) (i : MapItem) (reason : RecallReason) (notify : Bool)
    (origin : Option (PortId × Nat)) : (createRecall f i reason notify origin s).apart := by
  have hcreated : ∀ (r : RecallRecord) (n : Nat), r.frame = f →
      (s.setRecalls { s.recalls with table := s.recalls.table ++ [r], counter := n }).apart := fun r n hr =>
    setTable_apart h fun x hx => by
      rcases List.mem_append.1 hx with hx | hx
      · exact h.2.2.1 x hx
      · rw [List.mem_singleton.1 hx, hr]
        exact hf
  unfold createRecall
  dsimp only
  split
  · exact hcreated _ _ rfl
  · split
    · exact appendNotice_apart (hcreated _ _ rfl) _ _
    · exact setPending_apart (hcreated _ _ rfl) _ _

theorem recallItem_apart (h : s.apart) {f : Nat} (hf : f ≠ 0) (i : MapItem) (reason : RecallReason) (notify : Bool)
    (origin : Option (PortId × Nat)) : (recallItem f i reason notify origin s).apart :=
  createRecall_apart (setRecord_apart h hf _) hf ..

theorem noticeSent_apart (h : s.apart) (n : Notice) : (noticeSent n s).apart := by
  cases n with
  | recallNotice rid _ _ => exact updateRecall_apart h rid fun _ => rfl
  | offer gid _ _ _ =>
    refine setOffers_apart h fun o ho => ?_
    obtain ⟨o', ho', rfl⟩ := List.mem_map.1 ho
    split <;> exact h.1.offers o' ho'
  | withdrawn _ _ => exact h

/-! ### Offers and claims -/

theorem resolveOffer_apart (h : s.apart) (o : Offer) (st : Status) : (resolveOffer o st s).apart :=
  handOver_apart (filterOffers_apart h _) _ _

theorem informTarget_apart (h : s.apart) (fill : Bool) (o : Offer) (cause : WithdrawnCause) :
    (informTarget fill o cause s).apart := by
  unfold informTarget
  split
  · split <;> exact h
  · split
    · exact removeNoticeAndFill_apart h _ _
    · exact h

theorem withdrawOffer_apart (h : s.apart) (fill : Bool) (o : Offer) : (withdrawOffer fill o s).apart :=
  informTarget_apart (resolveOffer_apart h o _) ..

theorem withdrawFrameOffers_apart (h : s.apart) (f : Nat) : (withdrawFrameOffers f s).apart :=
  List.foldlRecOn (motive := fun u : State => u.apart) _ _ h fun _ hu o _ => withdrawOffer_apart hu true o

theorem takeUpOffer_apart (h : s.apart) (o : Offer) : (takeUpOffer o s).apart :=
  removeNoticeAndFill_apart (filterOffers_apart h _) _ _

theorem teardownOffer_apart (h : s.apart) (p : PortId) (fill : Bool) (o : Offer) : (teardownOffer p fill s o).apart := by
  unfold teardownOffer
  split
  · exact withdrawOffer_apart h fill o
  · exact resolveOffer_apart h o _

theorem grantClaim_apart (h : s.apart) (p : PortId) (tag hpn n : Nat) : (grantClaim p tag hpn n s).apart := by
  rw [grantClaim_eq]
  obtain ⟨m, hm⟩ := askClaimWrites_only_mapUnit (p := p) (tag := tag) (hpn := hpn) (s.engine.freeList.take n).zipIdx
    (lendFrames p hpn (s.engine.freeList.take n).zipIdx (s.claimBooked p tag n))
  rw [hm]
  have hbooked : (s.claimBooked p tag n).apart := by
    obtain ⟨he, hrest⟩ := h
    exact ⟨⟨he.record, he.directory, fun hmem => he.freeList (List.mem_of_mem_drop hmem), he.offers, he.scans⟩, hrest⟩
  refine List.foldlRecOn (motive := fun u : State => u.apart) _ _ hbooked fun u hu fk hfk => setRecord_apart hu ?_ _
  rintro hzero
  refine h.1.freeList (List.mem_of_mem_take (i := n) ?_)
  rw [← hzero]
  exact List.fst_mem_of_mem_zipIdx hfk

theorem examineClaims_apart (cs : List ParkedClaim) (s : State) (h : s.apart) : (examineClaims cs s).apart := by
  induction cs generalizing s with
  | nil => exact h
  | cons c rest ih =>
    unfold examineClaims
    dsimp only
    split
    · exact h
    · split
      · exact ih _ (handOver_apart (by exact h) _ _)
      · exact ih _ (grantClaim_apart (by exact h) _ _ _ _)

theorem removeClaims_apart (h : s.apart) (gone : ParkedClaim → Bool) : (removeClaims gone s).apart := by
  unfold removeClaims
  dsimp only
  split
  · exact examineClaims_apart _ _ (by exact h)
  · exact h

/-! ### Frames -/

theorem enterRecalling_apart (h : s.apart) {f : Nat} (hf : f ≠ 0) (leave : LeaveReason) (b : Bool)
    (why : MapItem → RecallReason × Bool) : (enterRecalling f leave b why s).apart :=
  withdrawFrameOffers_apart (List.foldlRecOn (motive := fun u : State => u.apart) _ _ (setRecord_apart h hf _)
    fun _ hu i _ => createRecall_apart hu hf i _ _ _) f

theorem quarantineFrame_apart (h : s.apart) {f : Nat} (hf : f ≠ 0) (cause : QuarantineCause) : (quarantineFrame f cause s).apart :=
  setRecord_apart h hf _

theorem markDamaged_apart (h : s.apart) {f : Nat} (hf : f ≠ 0) : (markDamaged f s).apart := by
  have hmarked := setRecord_apart h hf { s.record f with damaged := true }
  unfold markDamaged
  dsimp only
  split
  · exact quarantineFrame_apart (setFreeList_apart hmarked fun hmem => h.1.freeList (List.mem_of_mem_filter hmem)) hf _
  · exact hmarked

theorem countCorrectable_apart (h : s.apart) {f : Nat} (hf : f ≠ 0) : (countCorrectable f s).apart := by
  unfold countCorrectable
  dsimp only
  split
  · exact markDamaged_apart (by exact setRecord_apart h hf _) hf
  · exact setRecord_apart h hf _

theorem exitRecalling_apart (h : s.apart) {f : Nat} (hf : f ≠ 0) : (exitRecalling f s).apart := by
  have hended : ∀ u : State, u.apart → (if (s.record f).damaged then quarantineFrame f .damage u
      else if (s.record f).quarantineOnExit then quarantineFrame f .management u else joinScrub f u).apart := fun u hu => by
    split
    · exact quarantineFrame_apart hu hf _
    · split
      · exact quarantineFrame_apart hu hf _
      · exact joinScrub_apart hu hf
  have hexited := setRecord_apart h hf { s.record f with
    state := .scrubbing, holder := none, items := [], leave := none, quarantineOnExit := false }
  unfold exitRecalling
  dsimp only
  refine hended _ ?_
  split
  · exact hexited
  · split
    · exact handOver_apart (by exact hexited) _ _
    all_goals exact hexited

theorem removeReader_apart (h : s.apart) {f : Nat} (hf : f ≠ 0) (p : PortId) : (removeReader f p s).apart := by
  unfold removeReader
  dsimp only
  split
  · split
    · exact holderMayComplete_apart (setRecord_apart h hf _) f
    · exact setRecord_apart h hf _
  · split
    · exact holderMayComplete_apart (setRecord_apart h hf _) f
    · exact setRecord_apart h hf _

theorem scrubOutcome_apart (h : s.apart) {f : Nat} (hf : f ≠ 0) : (scrubOutcome f s).apart := by
  unfold scrubOutcome
  dsimp only
  split
  · exact quarantineFrame_apart h hf _
  · refine examineClaims_apart _ _ (setFreeList_apart (setRecord_apart h hf _) ?_)
    simpa using ⟨h.1.freeList, hf.symm⟩

theorem takeScrubEnd_apart (h : s.apart) {f : Nat} (hf : f ≠ 0) : (takeScrubEnd f s).apart := by
  unfold takeScrubEnd
  dsimp only
  split
  · exact takeScrub_apart (scrubOutcome_apart (scrubIdle_apart (markDamaged_apart h hf)) hf)
  · exact takeScrub_apart (scrubOutcome_apart (scrubIdle_apart h) hf)

/-! ### Management requests on frames -/

theorem answerSlot_apart (h : s.apart) (st : MgmtStatus) (data : List Byte) : (answerSlot st data s).apart :=
  State.apart_of_outside (s := movePointer 4 (s.setEngine { s.engine with slot := none })) h (bs := [.mgmt])
    (placeResult_outside _ (by simp) _ _) (by simp) (by simp) (by simp) (by simp)

theorem evictFrame_apart (h : s.apart) {f : Nat} (hf : f ≠ 0) (b : Bool) : (evictFrame f b s).apart := by
  unfold evictFrame
  split
  · exact answerSlot_apart h _ _
  · exact enterRecalling_apart (answerSlot_apart h _ _) hf _ _ _

theorem takeEvict_apart (h : s.apart) (f : Nat) : (takeEvict f s).apart := by
  have hf := fun hstate => h.ne_zero_of_state (f := f) hstate
  unfold takeEvict
  split
  · next hs => exact evictFrame_apart h (hf (by rw [hs]; nofun)) _
  · next hs => exact evictFrame_apart h (hf (by rw [hs]; nofun)) _
  all_goals exact answerSlot_apart h _ _

theorem takeQuarantine_apart (h : s.apart) (f : Nat) : (takeQuarantine f s).apart := by
  have hf := fun hstate => h.ne_zero_of_state (f := f) hstate
  unfold takeQuarantine abortScrub
  split
  · next hs =>
    refine quarantineFrame_apart (answerSlot_apart (setFreeList_apart h fun hmem => ?_) _ _) (hf (by rw [hs]; nofun)) _
    exact h.1.freeList (List.mem_of_mem_filter hmem)
  · next hs =>
    have hne := hf (by rw [hs]; nofun)
    split
    · exact takeScrub_apart (quarantineFrame_apart (scrubIdle_apart (answerSlot_apart h _ _)) hne _)
    · refine quarantineFrame_apart (answerSlot_apart (setScrub_apart h ?_) _ _) hne _
      exact ⟨fun hmem => h.2.1.1 (List.mem_of_mem_filter hmem), h.2.1.2⟩
  · next hs => exact evictFrame_apart h (hf (by rw [hs]; nofun)) _
  · next hs => exact evictFrame_apart h (hf (by rw [hs]; nofun)) _
  · next hs => exact answerSlot_apart (setRecord_apart h (hf (by rw [hs]; nofun)) _) _ _
  · exact answerSlot_apart h _ _
  · exact answerSlot_apart h _ _

theorem takeReturn_apart (h : s.apart) (f : Nat) : (takeReturn f s).apart := by
  unfold takeReturn
  dsimp only
  split
  · next hs =>
    have hne : f ≠ 0 := h.ne_zero_of_state (by rw [hs]; nofun)
    exact joinScrub_apart (answerSlot_apart (setRecord_apart h hne _) _ _) hne
  · exact answerSlot_apart h _ _

end

end Sys2Proof.Machine
end

section
/-! Every step keeps frame 0 apart (R2): O56, command by command. -/

namespace Sys2Proof.Machine

section
variable {s t : State}

theorem apart_whenOperating (h : s.apart) (ht : t.apart) : leadsTo State.apart (whenOperating s t) :=
  leadsTo_whenOperating h fun _ => ht

theorem apart_onArrival (h : s.apart) (p : PortId) (ht : t.apart) : leadsTo State.apart (onArrival p s t) :=
  apart_whenOperating h (by split <;> assumption)

theorem apart_onEngine (h : s.apart) (ht : t.apart) : leadsTo State.apart (onEngine s t) :=
  apart_whenOperating h (by split <;> assumption)

/-! ### Teardown -/

theorem checkTeardownEnd_apart (h : s.apart) (p : PortId) : (checkTeardownEnd p s).apart := by
  unfold checkTeardownEnd
  dsimp only
  split
  · exact setScan_apart (s := s.setLink p _) h p nofun
  · exact h

theorem engineTeardownReport_apart (h : s.apart) (p : PortId) : (engineTeardownReport p s).apart := by
  unfold engineTeardownReport
  split
  · exact checkTeardownEnd_apart (by exact h) p
  · exact h

theorem recallTeardownReport_apart (h : s.apart) (p : PortId) : (recallTeardownReport p s).apart := by
  unfold recallTeardownReport
  split
  · exact checkTeardownEnd_apart (by exact h) p
  · exact h

theorem queueTeardownReport_apart (h : s.apart) (p : PortId) : (queueTeardownReport p s).apart := by
  unfold queueTeardownReport
  split
  · exact checkTeardownEnd_apart (by exact h) p
  · exact h

theorem beginTeardown_apart (h : s.apart) (p : PortId) (cause : TeardownCause) : (beginTeardown p cause s).apart := by
  have hhanded : (setScan p .handed s).apart := setScan_apart h p nofun
  refine recallTeardownReport_apart (queueTeardownReport_apart (recallsAtTeardown_apart ?_ p) p) p
  exact hhanded

theorem violation_apart (h : s.apart) (p : PortId) (kind : Violation) : (violation p kind s).apart :=
  beginTeardown_apart (by exact h) p _

/-! ### Messages -/

theorem takeMalformed_apart (h : s.apart) (p : PortId) : (takeMalformed p s).apart := by
  unfold takeMalformed
  split
  · exact violation_apart h p _
  · exact h

theorem takeAttach_apart (h : s.apart) (p : PortId) : (takeAttach p s).apart := by
  unfold takeAttach
  split
  · split <;> exact h
  · exact violation_apart h p _
  all_goals exact h

theorem takeCredit_apart (h : s.apart) (p : PortId) (a b : Nat) (e : Bool) : (takeCredit p a b e s).apart := by
  unfold takeCredit
  dsimp only
  split
  · exact takeMalformed_apart h p
  · split
    · split <;> exact h
    · split
      · exact violation_apart h p _
      · exact h
    all_goals exact h

theorem takeRecallAck_apart (h : s.apart) (p : PortId) (rid : Nat) (e : Bool) : (takeRecallAck p rid e s).apart := by
  unfold takeRecallAck
  split
  · exact takeMalformed_apart h p
  · split
    · split
      · exact startUnmap_apart (removeNoticeAndFill_apart h _ _) _
      · exact h
    · exact h

theorem takeResetPort_apart (h : s.apart) (p : PortId) : (takeResetPort p s).apart := by
  unfold takeResetPort
  split
  · exact beginTeardown_apart h p _
  · exact h

theorem takePoolCommand_apart (h : s.apart) (p : PortId) (tag : Nat) (cmd : PoolCmd) (e : Bool) :
    (takePoolCommand p tag cmd e s).apart := by
  unfold takePoolCommand
  dsimp only
  split
  · split
    · exact violation_apart h p _
    · split
      · exact violation_apart h p _
      · split
        · exact violation_apart h p _
        · exact h
  · exact h

theorem acceptRequest_apart (h : s.apart) (p : PortId) (tag : Nat) (kind : ReqKind) : (acceptRequest p tag kind s).apart :=
  State.apart_of_outside h (bs := [.links, .requests, .caches, .walker, .mapUnit])
    (by
      unfold acceptRequest
      dsimp only
      split <;> simp)
    (by simp) (by simp) (by simp) (by simp)

theorem takeRequest_apart (h : s.apart) (p : PortId) (tag : Nat) (kind : ReqKind) (e : Bool) : (takeRequest p tag kind e s).apart := by
  unfold takeRequest
  dsimp only
  split
  · split
    · exact violation_apart h p _
    · split
      · exact violation_apart h p _
      · split
        · exact violation_apart h p _
        · exact acceptRequest_apart (by exact h) p tag kind
  · exact h

theorem takeMessage_apart (h : s.apart) (p : PortId) (m : HostMsg) : (takeMessage p m s).apart := by
  cases m with
  | attach => exact takeAttach_apart h p
  | credit a b => exact takeCredit_apart h p a b true
  | recallAck rid => exact takeRecallAck_apart h p rid true
  | resetPort => exact takeResetPort_apart h p
  | request tag kind => exact takeRequest_apart h p tag kind true
  | command tag cmd => exact takePoolCommand_apart h p tag cmd true

/-! ### Pool commands -/

theorem refuseCommand_apart (h : s.apart) (p : PortId) (tag : Nat) (st : Status) : (refuseCommand p tag st s).apart :=
  handOver_apart (by exact h) p _

theorem serveCommand_apart (h : s.apart) (p : PortId) {f : State → State} (hf : ∀ u : State, u.apart → (f u).apart) :
    (serveCommand p f s).apart := by
  refine State.apart_of_outside (hf (movePointer (sourceOf p) s) h) (bs := [.links]) ?_ (by simp) (by simp) (by simp) (by simp)
  exact returnCredits_outside _ (by simp) p

theorem examineClaim_apart (h : s.apart) (p : PortId) (tag hpn n : Nat) : (examineClaim p tag hpn n s).apart := by
  unfold examineClaim
  split
  · exact refuseCommand_apart h ..
  · split
    · exact grantClaim_apart (by exact h) ..
    · split
      · exact refuseCommand_apart h ..
      · split
        · exact refuseCommand_apart h ..
        · exact h

theorem examineRelease_apart (h : s.apart) (p : PortId) (tag hpn : Nat) : (examineRelease p tag hpn s).apart := by
  unfold examineRelease
  split
  · exact refuseCommand_apart h ..
  · next hcheck =>
    split
    · exact refuseCommand_apart h ..
    · split
      · exact h
      · exact enterRecalling_apart (by exact h) (h.ne_zero_of_checkItem hcheck) ..

theorem examineDrop_apart (h : s.apart) (p : PortId) (tag hpn : Nat) : (examineDrop p tag hpn s).apart := by
  unfold examineDrop
  split
  · exact refuseCommand_apart h ..
  · next hcheck =>
    split
    · exact refuseCommand_apart h ..
    · split
      · exact h
      · exact recallItem_apart (by exact h) (h.ne_zero_of_checkItem hcheck) ..

theorem makeOffer_apart (h : s.apart) {f : Nat} (hf : f ≠ 0) (p : PortId) (tag hpn : Nat) (t : PortId) (a : Access) :
    (makeOffer p tag hpn f t a s).apart := by
  refine setOffers_apart h fun o ho => ?_
  rcases List.mem_append.1 ho with ho | ho
  · exact h.1.offers o ho
  · rw [List.mem_singleton.1 ho]
    exact hf

theorem examineGrant_apart (h : s.apart) (p : PortId) (tag hpn target : Nat) (a : Access) :
    (examineGrant p tag hpn target a s).apart := by
  unfold examineGrant
  split
  · exact refuseCommand_apart h ..
  · next hcheck =>
    split
    · exact refuseCommand_apart h ..
    · split
      · exact refuseCommand_apart h ..
      · split
        · exact refuseCommand_apart h ..
        · split
          · exact refuseCommand_apart h ..
          · split
            · exact refuseCommand_apart h ..
            · exact makeOffer_apart (by exact h) (h.ne_zero_of_checkItem hcheck) ..

theorem examineAccept_apart (h : s.apart) (p : PortId) (tag gid hpn : Nat) : (examineAccept p tag gid hpn s).apart := by
  unfold examineAccept
  split
  · exact refuseCommand_apart h ..
  · next o ho =>
    split
    · exact refuseCommand_apart h ..
    · split
      · exact refuseCommand_apart h ..
      · exact takeUpOffer_apart (setRecord_apart (by exact h) (h.1.offers o (List.mem_of_find?_eq_some ho)) _) o

theorem examineDecline_apart (h : s.apart) (p : PortId) (tag gid : Nat) : (examineDecline p tag gid s).apart := by
  unfold examineDecline
  split
  · exact refuseCommand_apart h ..
  · exact handOver_apart (handOver_apart (takeUpOffer_apart (by exact h) _) _ _) _ _

theorem examineRevoke_apart (h : s.apart) (p : PortId) (tag hpn target : Nat) : (examineRevoke p tag hpn target s).apart := by
  unfold examineRevoke revokeFrom
  split
  · exact refuseCommand_apart h ..
  · next hcheck =>
    split
    · exact refuseCommand_apart h ..
    · split
      · exact refuseCommand_apart h ..
      · split
        · split
          · exact refuseCommand_apart h ..
          · split
            · exact h
            · exact recallItem_apart (by exact h) (h.ne_zero_of_checkItem hcheck) ..
        · split
          · exact handOver_apart (withdrawOffer_apart (by exact h) _ _) _ _
          · exact refuseCommand_apart h ..

/-! ### The engine's other events -/

theorem takeTeardown_apart (h : s.apart) (p : PortId) : (takeTeardown p s).apart := by
  unfold takeTeardown
  dsimp only
  refine setScan_apart (p := p) (x := .scanning 1 false) ?_ ?_
  · refine fillAllPending_apart (List.foldlRecOn (motive := fun u : State => u.apart) _ _ ?_ fun _ hu o _ => ?_)
    · exact removeClaims_apart (s := s.useFree) h _
    · exact teardownOffer_apart hu p _ o
  · intro n w hn
    cases hn
    exact Nat.one_ne_zero

theorem scanPast_apart (h : s.apart) (p : PortId) (f : Nat) : (scanPast p f s).apart := by
  unfold scanPast
  split
  · refine setScan_apart h p fun n w hn => ?_
    cases hn
    exact Nat.succ_ne_zero f
  · exact engineTeardownReport_apart (setScan_apart (x := .finished) h p nofun) p

theorem scanFrame_apart (h : s.apart) (p : PortId) {f : Nat} (hf : f ≠ 0) (i : MapItem) : (scanFrame p f i s).apart := by
  have hwaits : (setScan p (.scanning f true) s).apart := setScan_apart h p fun n w hn => by
    cases hn
    exact hf
  unfold scanFrame
  cases i.role
  case reader =>
    dsimp only
    split
    · exact hwaits
    · exact scanPast_apart (recallItem_apart h hf ..) p f
  case holder =>
    dsimp only
    split
    · exact hwaits
    · exact scanPast_apart (enterRecalling_apart h hf ..) p f

theorem scanTurn_apart (h : s.apart) (p : PortId) (n : Nat) : (scanTurn p n s).apart := by
  unfold scanTurn
  dsimp only
  split
  · next f i hfound =>
    obtain ⟨g, -, hg⟩ := List.exists_of_findSome?_eq_some hfound
    obtain ⟨j, hj, heq⟩ := Option.map_eq_some_iff.1 hg
    obtain ⟨rfl, rfl⟩ := Prod.mk.inj heq
    exact scanFrame_apart h p (h.ne_zero_of_item (List.mem_of_mem_filter (List.mem_of_find?_eq_some hj))) _
  · exact engineTeardownReport_apart (setScan_apart (x := .finished) h p nofun) p

theorem takeCompletion_apart (h : s.apart) {r : RecallRecord} (hr : r.frame ≠ 0) : (takeCompletion r s).apart := by
  have htaken : (s.setRecalls { s.recalls with
      table := s.recalls.table.filter fun r' => !(r'.recallId == r.recallId),
      reported := s.recalls.reported.filter fun n => !(n == r.recallId) }).apart :=
    setTable_apart h fun x hx => h.2.2.1 x (List.mem_of_mem_filter hx)
  unfold takeCompletion
  dsimp only
  refine engineTeardownReport_apart (recallTeardownReport_apart (clearWaiting_apart ?_) _) _
  split
  · refine handOver_apart ?_ _ _
    split
    · exact exitRecalling_apart htaken hr
    · exact removeReader_apart htaken hr _
  · split
    · exact exitRecalling_apart htaken hr
    · exact removeReader_apart htaken hr _

/-! ### Results, sends and map writes -/

theorem leaveIssued_apart (h : s.apart) (p : PortId) (tag frame : Nat) (got : Gathered) : (leaveIssued p tag frame got s).apart := by
  unfold leaveIssued
  split
  · exact queueTeardownReport_apart (drainReport_apart (by exact h) _ _) p
  · refine drainReport_apart ?_ p frame
    exact State.apart_of_outside (s := setEntryState p tag (.done (finalStatus got) got) s) h (bs := [.links, .requests])
      (settlePort_outside _ (by simp) (by simp) p _) (by simp) (by simp) (by simp) (by simp)

theorem takeLineResult_apart (h : s.apart) (p : PortId) (r : LineResult) : (takeLineResult p r s).apart := by
  unfold takeLineResult
  split
  · exact h
  · split
    · dsimp only
      split
      · exact h
      · exact leaveIssued_apart h ..
    · exact h

theorem sendCompletion_apart (h : s.apart) (p : PortId) (c : Completion) (rest : List Completion) :
    (sendCompletion p c rest s).apart := by
  unfold sendCompletion
  dsimp only
  split
  · exact h
  · refine State.apart_of_outside (s := s) h (bs := [.links, .requests]) ?_ (by simp) (by simp) (by simp) (by simp)
    simp [retire]
  · exact beginTeardown_apart (by exact h) p _

theorem sendNotice_apart (h : s.apart) (p : PortId) (n : Notice) (rest : List Notice) : (sendNotice p n rest s).apart :=
  fillPending_apart (noticeSent_apart (by exact h) n) p

theorem claimWritePerformed_apart (h : s.apart) (p : PortId) (tag : Nat) : (claimWritePerformed p tag s).apart := by
  unfold claimWritePerformed
  split
  · exact h
  · split
    · exact handOver_apart (by exact h) _ _
    · exact h

theorem endRepair_apart (h : s.apart) (p : PortId) (hpn : Nat) (d : RepairDetail) : (endRepair p hpn d s).apart :=
  State.apart_of_outside (s := handFault (.mapRepaired p hpn d) s) h (bs := [.walker, .mapUnit]) (by simp [endRepair]) (by simp)
    (by simp) (by simp) (by simp)

theorem reportPerformed_apart (h : s.apart) (w : MapWrite) : (reportPerformed w s).apart := by
  unfold reportPerformed
  split
  · exact claimWritePerformed_apart h _ _
  · exact handOver_apart (handOver_apart h _ _) _ _
  · exact unmapPerformed_apart h _
  · exact endRepair_apart h ..

theorem performWrite_apart (h : s.apart) (w : QueuedWrite) : (performWrite w s).apart := by
  have hbefore : ∀ u : State, u.apart → (markStale w.write.port w.write.hpn (unbind w.write.port w.write.hpn u)).apart :=
    fun u hu => State.apart_of_outside hu (bs := [.requests, .caches, .walker, .mapUnit]) (by simp) (by simp) (by simp) (by simp)
      (by simp)
  unfold performWrite endSuperseded
  dsimp only
  have hreported := reportPerformed_apart (hbefore (s.setCache w.write.port ((s.cache w.write.port).filter fun c =>
    !(c.hpn == w.write.hpn))) h) w.write
  split
  · exact endRepair_apart hreported ..
  · exact hreported

theorem sendMapAccess_apart (h : s.apart) (r : Round) : (sendMapAccess r s).apart := by
  have hwrite : ∀ w, (sendMapWrite r w s).apart := fun w => performWrite_apart (by exact h) w
  have hread : ∀ x, (sendMapRead r x s).apart := fun x => h
  unfold sendMapAccess
  split
  · split
    · exact hwrite _
    · exact hread _
  · exact hwrite _
  · exact hread _
  · exact h

theorem settleAll_apart (h : s.apart) (s0 : State) : (settleAll s0 s).apart :=
  State.apart_of_outside h (bs := [.links, .requests]) (settleAll_outside s (by simp) (by simp) s0) (by simp) (by simp) (by simp) (by simp)

/-! ### Channels and the Scrub Engine -/

theorem handResult_apart (h : s.apart) (a : Access64) (o : AccessOutcome) : (handResult a o s).apart := by
  unfold handResult
  split <;> exact h

theorem reportCorrectable_apart (h : s.apart) (a : Access64) : (reportCorrectable a s).apart := by
  unfold reportCorrectable
  split
  · exact h
  · next hne =>
    obtain ⟨he, hx, hr, hc, hu⟩ := h
    refine ⟨he, hx, hr, fun e hmem => ?_, hu⟩
    rcases List.mem_append.1 hmem with hmem | hmem
    · exact hc e hmem
    · rw [List.mem_singleton.1 hmem]
      exact hne

theorem reportUncorrectable_apart (h : s.apart) (a : Access64) : (reportUncorrectable a s).apart := by
  unfold reportUncorrectable
  dsimp only
  split
  · exact h
  · next hne =>
    obtain ⟨he, hx, hr, hc, hu⟩ := h
    refine ⟨he, hx, hr, hc, fun e hmem => ?_⟩
    rcases List.mem_append.1 hmem with hmem | hmem
    · exact hu e hmem
    · rw [List.mem_singleton.1 hmem]
      exact hne

theorem readAccess_apart (h : s.apart) (a : Access64) (e : EccCondition) (store : List Byte → Option (List Byte))
    (outcome : List Byte → AccessOutcome) : (readAccess a e store outcome s).apart := by
  have haccess : (readAccess.access a store outcome s).apart := by
    unfold readAccess.access
    dsimp only
    split <;> exact handResult_apart (by exact h) _ _
  unfold readAccess
  split
  · exact handResult_apart (reportUncorrectable_apart h a) _ _
  · exact haccess
  · exact reportCorrectable_apart haccess a

theorem carryOut_apart (h : s.apart) (c : ChannelId) (i : Nat) (a : Access64) {f : State → State}
    (hf : ∀ u : State, u.apart → (f u).apart) : leadsTo State.apart (carryOut c i a f s) :=
  leadsTo_carryOut fun _ => hf _ h

theorem sendScrub_apart (h : s.apart) (c : ChannelId) (r : Round) (f : Nat) : (sendScrub c r f s).apart := by
  unfold sendScrub
  dsimp only
  refine setScrub_apart (by exact h) ?_
  by_cases hlast : s.scrub.phase = .zero ∧ s.scrub.nextLine + 1 = Config.linesPerFrame
  · rw [if_pos hlast]
    exact h.2.1
  · rw [if_neg hlast]
    exact h.2.1

theorem takeScrubResult_apart {x : Scrub} (h : x.Apart) (r : ScrubResult) : (takeScrubResult r x).Apart := by
  unfold takeScrubResult
  dsimp only
  split <;> exact h

/-! ### Resets and management requests -/

theorem Engine.afterReset_apart : Engine.afterReset.Apart :=
  ⟨rfl, rfl, List.not_mem_nil, List.forall_mem_nil _, fun p n w h => by
    rw [show Engine.afterReset.teardown.get p = .idle from Quad.get_all _ p] at h
    cases h⟩

theorem resetBlocks_apart (pop : Population) (startUp : Bool) (s : State) : (resetBlocks pop startUp s).apart :=
  ⟨Engine.afterReset_apart, ⟨Scrub.afterReset_zero_not_mem _, nofun⟩, List.forall_mem_nil _, List.forall_mem_nil _, List.forall_mem_nil _⟩

theorem placeResult_apart (h : s.apart) (st : MgmtStatus) (data : List Byte) : (placeResult st data s).apart :=
  State.apart_of_outside h (bs := [.mgmt]) (placeResult_outside s (by simp) st data) (by simp) (by simp) (by simp) (by simp)

theorem answerPort_apart (h : s.apart) (st : MgmtStatus) : (answerPort st s).apart := placeResult_apart (by exact h) st _

theorem runRequest_apart (h : s.apart) (r : MgmtReq) : (runRequest r s).apart := by
  unfold runRequest
  dsimp only
  split
  case h_14 =>
    unfold readLog
    split <;> exact placeResult_apart (by exact h) _ _
  case h_15 => exact placeResult_apart (by exact resetBlocks_apart s.pop true (discardAccesses s)) _ _
  case h_16 => exact placeResult_apart h _ _
  case h_7 | h_8 | h_9 | h_10 => exact placeResult_apart (by exact h) _ _
  all_goals exact h

theorem takeMgmtRequest_apart (h : s.apart) (id : Nat) (r : MgmtReq) : (takeMgmtRequest id r s).apart := by
  unfold takeMgmtRequest
  split
  · exact h
  · dsimp only
    split
    · exact placeResult_apart (by exact h) _ _
    · exact runRequest_apart (by exact h) r

theorem takePortReset_apart (h : s.apart) (p : PortId) : (takePortReset p s).apart := by
  unfold takePortReset
  split
  · exact beginTeardown_apart (answerPort_apart h _) p _
  · exact answerPort_apart h _

theorem takePortDisable_apart (h : s.apart) (p : PortId) : (takePortDisable p s).apart := by
  unfold takePortDisable
  dsimp only
  split
  · exact beginTeardown_apart (by exact answerPort_apart h _) p _
  all_goals exact answerPort_apart h _

end

/-! ### Every command -/

theorem exec_apart (c : Instr) {s : State} (h : s.apart) : leadsTo State.apart (exec c s) := by
  cases c
  case powerOn pins => exact leadsTo_next (resetBlocks_apart _ _ _)
  case resetNAssert pins =>
    refine leadsTo_next ?_
    split
    · exact resetBlocks_apart _ _ _
    · exact h
  case linkDown p =>
    refine apart_whenOperating h ?_
    dsimp only
    split
    · split
      case h_2 => exact beginTeardown_apart (by exact h) p _
      all_goals exact h
    · exact h
  case attach p => exact apart_onArrival h p (takeAttach_apart h p)
  case credit p a b => exact apart_onArrival h p (takeCredit_apart h p a b _)
  case recallAck p rid => exact apart_onArrival h p (takeRecallAck_apart h p rid _)
  case resetPort p => exact apart_onArrival h p (takeResetPort_apart h p)
  case malformedMessage p bytes =>
    refine apart_onArrival h p ?_
    split
    · exact takeMalformed_apart h p
    · exact takeMessage_apart h p _
  case read | write | cswap | fence | flush | detach => exact apart_onArrival h _ (takeRequest_apart h _ _ _ _)
  case commandArrival p tag cmd => exact apart_onArrival h p (takePoolCommand_apart h p tag cmd _)
  case claim p =>
    refine apart_whenOperating h ?_
    split
    · exact serveCommand_apart h p fun _ hu => examineClaim_apart hu ..
    · exact h
  case release p =>
    refine apart_whenOperating h ?_
    split
    · exact serveCommand_apart h p fun _ hu => examineRelease_apart hu ..
    · exact h
  case drop p =>
    refine apart_whenOperating h ?_
    split
    · exact serveCommand_apart h p fun _ hu => examineDrop_apart hu ..
    · exact h
  case grant p =>
    refine apart_whenOperating h ?_
    split
    · exact serveCommand_apart h p fun _ hu => examineGrant_apart hu ..
    · exact h
  case accept p =>
    refine apart_whenOperating h ?_
    split
    · exact serveCommand_apart h p fun _ hu => examineAccept_apart hu ..
    · exact h
  case decline p =>
    refine apart_whenOperating h ?_
    split
    · exact serveCommand_apart h p fun _ hu => examineDecline_apart hu ..
    · exact h
  case revoke p =>
    refine apart_whenOperating h ?_
    split
    · exact serveCommand_apart h p fun _ hu => examineRevoke_apart hu ..
    · exact h
  case engineTakesTeardown p =>
    refine apart_onEngine h ?_
    split
    · exact takeTeardown_apart h p
    · exact h
  case teardownScan p =>
    refine apart_whenOperating h ?_
    split
    · split
      · exact scanTurn_apart (by exact h) p _
      all_goals exact h
    · exact h
  case claimDeadline p tag =>
    refine apart_onEngine h ?_
    split
    · split
      · exact removeClaims_apart (handOver_apart h _ _) _
      · exact h
    · exact h
  case offerDeadline gid =>
    refine apart_onEngine h ?_
    split
    · split
      · exact informTarget_apart (resolveOffer_apart h _ _) _ _ _
      · exact h
    · exact h
  case recallDeadline rid =>
    refine apart_whenOperating h ?_
    split
    · split
      · split
        · exact forceRecall_apart h _
        · exact h
      · exact h
    · exact h
  case recallCompletionReport rid =>
    refine apart_onEngine h ?_
    split
    · split
      · next r hr => exact takeCompletion_apart h (h.2.2.1 r (List.mem_of_find?_eq_some hr))
      · exact h
    · exact h
  case scrubEndReport =>
    refine apart_onEngine h ?_
    split
    · next f hf =>
      split
      · exact takeScrubEnd_apart h fun hzero => h.2.1.2 (hzero ▸ hf)
      · exact h
    · exact h
  case correctableReport f line =>
    refine apart_onEngine h ?_
    split
    · next hmem =>
      obtain ⟨he, hx, hr, hc, hu⟩ := h
      have htaken : (s.setFlight { s.flight with correctable := s.flight.correctable.erase (f, line) }).apart :=
        ⟨he, hx, hr, fun e hmem => hc e (List.mem_of_mem_erase hmem), hu⟩
      exact countCorrectable_apart htaken (hc (f, line) (by simpa using hmem))
    · exact h
  case uncorrectableReport f line =>
    refine apart_onEngine h ?_
    split
    · next hmem =>
      obtain ⟨he, hx, hr, hc, hu⟩ := h
      have htaken : (s.setFlight { s.flight with uncorrectable := s.flight.uncorrectable.erase (f, line) }).apart :=
        ⟨he, hx, hr, hc, fun e hmem => hu e (List.mem_of_mem_erase hmem)⟩
      dsimp only
      split
      · exact htaken
      · exact markDamaged_apart htaken (hu (f, line) (by simpa using hmem))
    · exact h
  case mapAccessGrant =>
    refine apart_whenOperating h ?_
    split
    · exact settleAll_apart (sendMapAccess_apart h _) s
    all_goals exact h
  case mapClearWrite =>
    refine apart_whenOperating h ?_
    split
    · dsimp only
      split
      · exact h
      · exact takeScrub_apart (by exact h)
    all_goals exact h
  case scrubAccessGrant c =>
    refine apart_whenOperating h ?_
    split
    · exact sendScrub_apart h ..
    all_goals exact h
  case channelRead c i e =>
    simp only [exec, execChannelRead]
    (repeat' split) <;> first
      | exact carryOut_apart h _ _ _ fun u hu => readAccess_apart hu ..
      | exact leadsTo_next h
  case channelFullWrite c i =>
    simp only [exec, execChannelFullWrite]
    (repeat' split) <;> first
      | exact carryOut_apart h _ _ _ fun u hu => handResult_apart (by exact hu) _ _
      | exact leadsTo_next h
  case channelPartialWrite c i e =>
    simp only [exec, execChannelPartialWrite]
    (repeat' split) <;> first
      | exact carryOut_apart h _ _ _ fun u hu => readAccess_apart hu ..
      | exact leadsTo_next h
  case channelCswap c i e =>
    simp only [exec, execChannelCswap]
    (repeat' split) <;> first
      | exact carryOut_apart h _ _ _ fun u hu => readAccess_apart hu ..
      | exact leadsTo_next h
  case mapReadResult p hpn =>
    refine apart_whenOperating h ?_
    split
    · exact h
    · refine settleAll_apart ?_ s
      exact State.apart_of_outside (s := s.setFlight { s.flight with
          mapResults := s.flight.mapResults.filter fun r' => !(r'.port == p && r'.hpn == hpn) }) h
        (bs := [.requests, .caches, .walker, .mapUnit]) (by simp) (by simp) (by simp) (by simp) (by simp)
  case lineResult p tag line =>
    refine apart_whenOperating h ?_
    split
    · exact h
    · exact takeLineResult_apart (by exact h) p _
  case scrubResult i =>
    refine apart_whenOperating h ?_
    split
    · exact setScrub_apart (by exact h) (takeScrubResult_apart h.2.1 _)
    · exact h
  case completionSend p =>
    refine apart_whenOperating h ?_
    dsimp only
    split
    · split
      · exact sendCompletion_apart h ..
      · exact h
    · exact h
  case noticeSend p =>
    refine apart_whenOperating h ?_
    dsimp only
    split
    · split
      · exact sendNotice_apart h ..
      · exact h
    · exact h
  case faultRecordAppend i =>
    refine apart_whenOperating h ?_
    split <;> exact h
  case mgmtRequestTransaction bytes =>
    refine apart_whenOperating h ?_
    split
    · exact h
    · exact h
    · exact takeMgmtRequest_apart (by exact h) _ _
  case setQuota | setWeight | setTimeout | setThreshold | logRead | chipReset =>
    exact apart_whenOperating h (takeMgmtRequest_apart (by exact h) _ _)
  case getPoolStatus | getPortStatus | queryFrame =>
    refine apart_whenOperating h ?_
    split
    · exact answerSlot_apart h _ _
    · exact h
  case evict =>
    refine apart_whenOperating h ?_
    split
    · exact takeEvict_apart h _
    · exact h
  case quarantine =>
    refine apart_whenOperating h ?_
    split
    · exact takeQuarantine_apart h _
    · exact h
  case returnFrame =>
    refine apart_whenOperating h ?_
    split
    · exact takeReturn_apart h _
    · exact h
  case portReset =>
    refine apart_whenOperating h ?_
    split
    · exact takePortReset_apart h _
    · exact h
  case portDisable =>
    refine apart_whenOperating h ?_
    split
    · exact takePortDisable_apart h _
    · exact h
  all_goals
    exact leadsTo_of_same [.engine, .scrub, .recalls, .flight]
      (fun t ht => State.apart_of_same h (ht .engine (by simp)) (ht .scrub (by simp)) (ht .recalls (by simp)) (ht .flight (by simp)))
      (by simp [touches])

/-- Settles O56, by the command that the step carries out. -/
theorem stepKeepsFrameZeroApart : Obligations.StepKeepsFrameZeroApart := by
  unfold Obligations.StepKeepsFrameZeroApart
  intro s t hstep h
  rw [State.frameZeroApart_iff] at h ⊢
  rcases step_cases hstep with rfl | ⟨c, rest, -, hexec⟩
  · exact h
  · exact exec_apart c (s := { s with pending := rest }) h t hexec

end Sys2Proof.Machine
end

section
/-! `framesInOrder` asks of each listed record that the one of frame 0 is RESERVED and one from frame F on SCRUBBING. In a
part without frames, which no population gives (R194) but which the statement does not leave out, frame 0 is both: there a
correctable report of frame 0 lists its record, and no state that the record could have would be in order. -/

namespace Sys2Proof.Machine

/-- A part without frames, before it takes a correctable report of frame 0. -/
def noFrames : State :=
  { State.reset with
    pop := { channels := 0, channelSize := 0 }, scrub := Scrub.afterReset 0,
    flight := { InFlight.none with correctable := [(0, 0)] }, pending := [.correctableReport 0 0] }

theorem noFrames_framesInOrder : noFrames.framesInOrder := by
  unfold State.framesInOrder FrameRecord.inOrder
  decide

/-- The report is counted in the record of frame 0. -/
theorem step_noFrames : ∃ t, step noFrames = .next t ∧ t.frames = 0 ∧
    t.engine.directory = [(0, { FrameRecord.afterReset 0 with count := 1 })] := ⟨_, rfl, by decide, by decide⟩

/-- Refutes O58: without frames, a listed record of frame 0 would have to be both RESERVED and SCRUBBING. -/
theorem not_stepKeepsFramesInOrder : ¬ Obligations.StepKeepsFramesInOrder := by
  unfold Obligations.StepKeepsFramesInOrder
  intro h
  obtain ⟨t, hstep, hframes, hdirectory⟩ := step_noFrames
  obtain ⟨-, -, -, -, hrecords, -⟩ := h _ t hstep noFrames_framesInOrder
  obtain ⟨-, hreserved, hscrubbing⟩ := hrecords (0, { FrameRecord.afterReset 0 with count := 1 }) (by simp [hdirectory])
  have hboth := (hreserved rfl).symm.trans (hscrubbing (by rw [hframes]))
  cases hboth

end Sys2Proof.Machine
end

section
/-! Request Queues through translations and the end of an event (R109, R123): the tags stay, what is DONE stays DONE, and
the DONE entries remain those whose completions wait to be sent. -/

namespace Sys2Proof.Machine

/-! ### What is DONE stays DONE -/

/-- The queues carry the same tags in the same order, and the entries that were DONE still stand. -/
structure DoneKept (q q' : List ReqEntry) : Prop where
  tags : q'.map ReqEntry.tag = q.map ReqEntry.tag
  done : ∀ e ∈ q, e.isDone = true → e ∈ q'

theorem DoneKept.refl (q : List ReqEntry) : DoneKept q q := ⟨rfl, fun _ h _ => h⟩

theorem DoneKept.trans {q q' q'' : List ReqEntry} (h : DoneKept q q') (h' : DoneKept q' q'') : DoneKept q q'' :=
  ⟨h'.tags.trans h.tags, fun e he hd => h'.done e (h.done e he hd) hd⟩

theorem DoneKept.nodup {q q' : List ReqEntry} (h : DoneKept q q') (hq : (q.map ReqEntry.tag).Nodup) :
    (q'.map ReqEntry.tag).Nodup := by rwa [h.tags]

theorem DoneKept.map_of_not_done {q q' : List ReqEntry} (h : DoneKept q q') {f : ReqEntry → ReqEntry}
    (htag : ∀ e, (f e).tag = e.tag) (hf : ∀ e ∈ q', e.isDone = true → f e = e) : DoneKept q (q'.map f) where
  tags := by
    rw [← h.tags, List.map_map]
    exact List.map_congr_left fun e _ => htag e
  done e he hd := by
    have hmem := h.done e he hd
    rw [← hf e hmem hd]
    exact List.mem_map_of_mem hmem

/-- The state of the entries of one tag is replaced, where no DONE entry carries the tag. -/
theorem DoneKept.setState {q q' : List ReqEntry} (h : DoneKept q q') {tag : Nat}
    (hnone : ∀ e ∈ q, e.isDone = true → e.tag ≠ tag) (st : ReqState) :
    DoneKept q (q'.map fun e => if e.tag = tag then { e with state := st } else e) where
  tags := by
    rw [← h.tags, List.map_map]
    refine List.map_congr_left fun e _ => ?_
    simp only [Function.comp_apply]
    split <;> rfl
  done e he hd := by
    refine List.mem_map.2 ⟨e, h.done e he hd, if_neg (hnone e he hd)⟩

theorem ReqEntry.swept_of_done {e : ReqEntry} (h : e.isDone = true) (all writes : Bool) : e.swept all writes = e :=
  ReqEntry.swept_of_not_waiting (ReqEntry.isDone_not_waiting h)

theorem mem_sweepQueue_of_done {q : List ReqEntry} {e : ReqEntry} (he : e ∈ q) (hd : e.isDone = true) (all writes : Bool) :
    e ∈ sweepQueue all writes q := by
  induction q generalizing all writes with
  | nil => cases he
  | cons x q ih =>
    rw [sweepQueue_cons]
    rcases List.mem_cons.1 he with rfl | he
    · rw [ReqEntry.swept_of_done hd]
      exact List.mem_cons_self
    · exact List.mem_cons_of_mem _ (ih he _ _)

theorem DoneKept.sweep (q : List ReqEntry) (all writes : Bool) : DoneKept q (sweepQueue all writes q) :=
  ⟨sweepQueue_tags q, fun _ he hd => mem_sweepQueue_of_done he hd all writes⟩

/-! ### The DONE entries and the completions that wait -/

/-- The tags of the DONE entries, in acceptance order. -/
def doneTags (q : List ReqEntry) : List Nat := (q.filter ReqEntry.isDone).map ReqEntry.tag

theorem mem_doneTags {q : List ReqEntry} {n : Nat} : n ∈ doneTags q ↔ ∃ e ∈ q, e.isDone = true ∧ e.tag = n := by
  simp [doneTags, and_assoc]

theorem doneTags_nodup {q : List ReqEntry} (h : (q.map ReqEntry.tag).Nodup) : (doneTags q).Nodup :=
  h.sublist (List.filter_sublist.map _)

theorem ReqEntry.completion_of_done {e : ReqEntry} (h : e.isDone = true) :
    ∃ c, e.completion = some c ∧ c.tag = e.tag ∧ c.answers ≠ .command := by
  cases hs : e.state with
  | done st got =>
    refine ⟨_, by rw [ReqEntry.completion, hs], rfl, ?_⟩
    cases e.kind <;> simp [completionOf]
  | waiting | walking | bound | issued => simp [ReqEntry.isDone, hs] at h

/-- Completions of entries are completions of memory requests, with the entries' tags. -/
theorem completions_requestTags {q : List ReqEntry} (h : ∀ e ∈ q, e.isDone = true) :
    ((q.filterMap ReqEntry.completion).filter fun c => decide (c.answers ≠ .command)).map Completion.tag =
      q.map ReqEntry.tag := by
  induction q with
  | nil => rfl
  | cons e q ih =>
    obtain ⟨c, hc, htag, hanswers⟩ := ReqEntry.completion_of_done (h e List.mem_cons_self)
    rw [List.filterMap_cons_some hc, List.filter_cons_of_pos (by simpa using hanswers), List.map_cons, List.map_cons, htag,
      ih fun x hx => h x (List.mem_cons_of_mem _ hx)]

theorem newlyDone_done {before q : List ReqEntry} : ∀ e ∈ newlyDone before q, e.isDone = true := fun e he => by
  have := (List.mem_filter.1 he).2
  simp only [Bool.and_eq_true] at this
  exact this.1

/-- With distinct tags the DONE entries are those DONE before and those newly DONE. -/
theorem doneTags_perm {before q : List ReqEntry} (hbefore : (before.map ReqEntry.tag).Nodup) (hq : (q.map ReqEntry.tag).Nodup)
    (hkept : ∀ e ∈ before, e.isDone = true → e ∈ q) :
    (doneTags q).Perm (doneTags before ++ (newlyDone before q).map ReqEntry.tag) := by
  have hnew : ∀ e ∈ newlyDone before q, e ∈ q ∧ e.isDone = true ∧ ∀ b ∈ before, b.isDone = true → b.tag ≠ e.tag := by
    intro e he
    obtain ⟨hmem, hcond⟩ := List.mem_filter.1 he
    simp only [Bool.and_eq_true, Bool.not_eq_true', List.any_eq_false, beq_iff_eq, not_and, Bool.not_eq_true] at hcond
    refine ⟨hmem, hcond.1, fun b hb hd htag => ?_⟩
    rw [hcond.2 b hb htag] at hd
    cases hd
  have hnodup : (doneTags before ++ (newlyDone before q).map ReqEntry.tag).Nodup := by
    refine List.nodup_append.2 ⟨doneTags_nodup hbefore, hq.sublist (List.filter_sublist.map _), fun n hn m hm => ?_⟩
    obtain ⟨b, hb, hd, rfl⟩ := mem_doneTags.1 hn
    obtain ⟨e, he, rfl⟩ := List.mem_map.1 hm
    exact (hnew e he).2.2 b hb hd
  refine (List.perm_ext_iff_of_nodup (doneTags_nodup hq) hnodup).2 fun n => ?_
  rw [mem_doneTags, List.mem_append, mem_doneTags]
  constructor
  · rintro ⟨e, he, hd, rfl⟩
    by_cases hb : ∃ b ∈ before, b.isDone = true ∧ b.tag = e.tag
    · exact .inl hb
    · refine .inr (List.mem_map.2 ⟨e, List.mem_filter.2 ⟨he, ?_⟩, rfl⟩)
      simp only [hd, Bool.true_and, Bool.not_eq_true', List.any_eq_false, Bool.and_eq_true, beq_iff_eq, not_and, Bool.not_eq_true]
      intro b hmem htag
      cases hbd : b.isDone with
      | false => rfl
      | true => exact absurd ⟨b, hmem, hbd, htag⟩ hb
  · rintro (⟨b, hb, hd, rfl⟩ | hn)
    · exact ⟨b, hkept b hb hd, hd, rfl⟩
    · obtain ⟨e, he, rfl⟩ := List.mem_map.1 hn
      exact ⟨e, (hnew e he).1, (hnew e he).2.1, rfl⟩

/-! ### One port's Request Queue in order -/

/-- The Request Queue `q` and the Link Port `l` of one port are in order. -/
def LinkPort.fits (l : LinkPort) (q : List ReqEntry) : Prop :=
  (q.map ReqEntry.tag).Nodup ∧
    (l.state = .attached → (∀ e ∈ q, e.tag ∈ l.tags) ∧
      l.requestCredits + l.requestReturns + q.length = Config.requestQueueSize ∧ (doneTags q).Perm l.requestTags) ∧
    (l.state = .detaching → l.queueEmptyReport = true → q = []) ∧
    (l.state ≠ .attached → l.state ≠ .detaching → q = [])

section
variable {l l' : LinkPort} {q q' : List ReqEntry}

theorem LinkPort.Quiet.fits (h : l.Quiet l') (hl : l.fits q) : l'.fits q := by
  obtain ⟨hnodup, hattached, hdetaching, hother⟩ := hl
  have htags : l'.tags = l.tags := (congrArg LinkPort.tags h.core :)
  have hcredits : l'.requestCredits = l.requestCredits := (congrArg LinkPort.requestCredits h.core :)
  have hreturns : l'.requestReturns = l.requestReturns := (congrArg LinkPort.requestReturns h.core :)
  have hreport : l'.queueEmptyReport = l.queueEmptyReport := (congrArg LinkPort.queueEmptyReport h.core :)
  unfold LinkPort.fits
  rw [h.state, htags, hcredits, hreturns, hreport, h.requestTags]
  exact ⟨hnodup, hattached, hdetaching, hother⟩

theorem LinkPort.fits_nil (h : l.state ≠ .attached) : l.fits [] :=
  ⟨List.nodup_nil, fun ha => absurd ha h, fun _ _ => rfl, fun _ _ => rfl⟩

theorem LinkPort.fits_of_attached (hstate : l.state = .attached) (hnodup : (q.map ReqEntry.tag).Nodup)
    (htags : ∀ e ∈ q, e.tag ∈ l.tags) (hcredits : l.requestCredits + l.requestReturns + q.length = Config.requestQueueSize)
    (hperm : (doneTags q).Perm l.requestTags) : l.fits q :=
  ⟨hnodup, fun _ => ⟨htags, hcredits, hperm⟩, fun hd => (by rw [hstate] at hd; cases hd), fun hn => absurd hstate hn⟩

theorem LinkPort.fits.nil_of_closed (h : l.fits q) (ha : l.state ≠ .attached) (hd : l.state ≠ .detaching) : q = [] := h.2.2.2 ha hd

/-- Outside a session the queue may only lose entries. -/
theorem LinkPort.fits.shrunk (h : l.fits q) (hn : l.state ≠ .attached) (hnodup : (q'.map ReqEntry.tag).Nodup)
    (hnil : q = [] → q' = []) : l.fits q' :=
  ⟨hnodup, fun ha => absurd ha hn, fun hd hr => hnil (h.2.2.1 hd hr), fun ha hd => hnil (h.2.2.2 ha hd)⟩

theorem handed_requestTags (hattached : l.state = .attached) (before q : List ReqEntry) :
    (l.handed (settledCompletions before q)).requestTags =
      l.requestTags ++ (newlyDone before (sweepQueue true true q)).map ReqEntry.tag := by
  rw [LinkPort.handed_of_attached hattached]
  unfold LinkPort.requestTags settledCompletions
  rw [List.filter_append, List.map_append, completions_requestTags newlyDone_done]

/-- The end of an event: from a queue whose entries DONE before are still DONE, with their completions waiting, the sweep and
the hand-over leave the port in order. -/
theorem LinkPort.fits_settled {before : List ReqEntry} (hbefore : (before.map ReqEntry.tag).Nodup) (hq : (q.map ReqEntry.tag).Nodup)
    (hkept : ∀ e ∈ before, e.isDone = true → e ∈ q)
    (hattached : l.state = .attached → (∀ e ∈ q, e.tag ∈ l.tags) ∧
      l.requestCredits + l.requestReturns + q.length = Config.requestQueueSize ∧ (doneTags before).Perm l.requestTags)
    (hdetaching : l.state = .detaching → l.queueEmptyReport = true → q = [])
    (hother : l.state ≠ .attached → l.state ≠ .detaching → q = []) :
    (l.handed (settledCompletions before q)).fits (sweepQueue true true q) := by
  have hsweep := DoneKept.sweep q true true
  by_cases hstate : l.state = .attached
  · obtain ⟨htags, hcredits, hperm⟩ := hattached hstate
    have hfull := doneTags_perm hbefore (hsweep.nodup hq) fun e he hd => hsweep.done e (hkept e he hd) hd
    have hnew := handed_requestTags hstate before q
    rw [LinkPort.handed_of_attached hstate] at hnew ⊢
    refine LinkPort.fits_of_attached hstate (hsweep.nodup hq) (fun e he => ?_) ?_ ?_
    · have hmem : e.tag ∈ q.map ReqEntry.tag := hsweep.tags ▸ List.mem_map_of_mem he
      obtain ⟨b, hb, htag⟩ := List.mem_map.1 hmem
      exact htag ▸ htags b hb
    · rw [sweepQueue_length]
      exact hcredits
    · rw [hnew]
      exact hfull.trans (hperm.append_right _)
  · rw [LinkPort.handed_of_not_attached hstate]
    have hnil : q = [] → sweepQueue true true q = [] := by
      rintro rfl
      rfl
    exact ⟨hsweep.nodup hq, fun ha => absurd ha hstate, fun hd hr => hnil (hdetaching hd hr), fun ha hd => hnil (hother ha hd)⟩

theorem DoneKept.nil {q q' : List ReqEntry} (h : DoneKept q q') (hq : q = []) : q' = [] := by
  have htags := h.tags
  rw [hq] at htags
  exact List.map_eq_nil_iff.1 htags

theorem LinkPort.fits.settled {before : List ReqEntry} (hl : l.fits before) (hkept : DoneKept before q) :
    (l.handed (settledCompletions before q)).fits (sweepQueue true true q) := by
  obtain ⟨hnodup, hattached, hdetaching, hother⟩ := hl
  refine LinkPort.fits_settled hnodup (hkept.nodup hnodup) hkept.done (fun ha => ?_) (fun hd hr => hkept.nil (hdetaching hd hr))
    fun ha hd => hkept.nil (hother ha hd)
  obtain ⟨htags, hcredits, hperm⟩ := hattached ha
  refine ⟨fun e he => ?_, ?_, hperm⟩
  · have hmem : e.tag ∈ before.map ReqEntry.tag := hkept.tags ▸ List.mem_map_of_mem he
    obtain ⟨b, hb, htag⟩ := List.mem_map.1 hmem
    exact htag ▸ htags b hb
  · have hlength := congrArg List.length hkept.tags
    rw [List.length_map, List.length_map] at hlength
    rw [hlength]
    exact hcredits

end

/-! ### Translations keep what is DONE -/

section
variable {p q : PortId} {tag hpn : Nat} {s : State} {before : List ReqEntry}

theorem translate_doneKept (h : DoneKept before (s.queue q)) (hnone : q = p → ∀ e ∈ before, e.isDone = true → e.tag ≠ tag) :
    DoneKept before ((translate p tag s).queue q) := by
  by_cases hq : q = p
  · subst hq
    obtain hsame | ⟨e, pl, st, -, -, -, hmap⟩ := translate_queue (p := q) (tag := tag) (s := s)
    · rwa [hsame]
    · rw [hmap]
      exact h.setState (hnone rfl) st
  · rw [(translate_samePort hq).2.1]
    exact h

theorem retryAll_doneKept (hnodup : ((s.queue q).map ReqEntry.tag).Nodup) : DoneKept (s.queue q) ((retryAll s).queue q) where
  tags := retryList_tags _ s
  done e he hd := by
    obtain ⟨k, hk⟩ := List.getElem?_of_mem he
    exact List.mem_of_getElem? (retryList_getElem?_of_not_waiting _ hnodup hk (ReqEntry.isDone_not_waiting hd))

theorem ReqEntry.walkedBy_not_done {e : ReqEntry} (h : e.isDone = true) : e.walkedBy hpn = false := by
  cases hs : e.state with
  | done => simp [ReqEntry.walkedBy, hs]
  | waiting | walking | bound | issued => simp [ReqEntry.isDone, hs] at h

theorem walkDelivered_doneKept (v : MapValue) : DoneKept (s.queue q) ((s.walkDelivered p hpn v).queue q) := by
  by_cases hq : q = p
  · subst hq
    by_cases hd : (s.link q).state = .detaching
    · rw [walkDelivered_queue_detaching hd]
      exact .refl _
    · rw [walkDelivered_queue hd]
      refine (DoneKept.refl _).map_of_not_done (fun e => ?_) fun e _ hdone => ?_
      · split <;> rfl
      · rw [ReqEntry.walkedBy_not_done hdone]
        rfl
  · rw [walkDelivered_queue_ne hq]
    exact .refl _

theorem deliverWalk_doneKept (hnodup : ((s.queue q).map ReqEntry.tag).Nodup) (v : MapValue) :
    DoneKept (s.queue q) ((deliverWalk p hpn v s).queue q) := by
  rw [deliverWalk_eq]
  have hdelivered : DoneKept (s.queue q) ((s.walkDelivered p hpn v).queue q) := walkDelivered_doneKept v
  exact hdelivered.trans (retryAll_doneKept (hdelivered.nodup hnodup))

theorem takeMapResult_doneKept (hnodup : ((s.queue q).map ReqEntry.tag).Nodup) (v : Option MapValue) :
    DoneKept (s.queue q) ((takeMapResult p hpn v s).queue q) := by
  unfold takeMapResult
  split
  · rw [State.queue, State.queue, walkAgain_requests]
    exact .refl _
  · split
    · rw [State.queue, State.queue, startRepair_requests]
      exact .refl _
    · exact deliverWalk_doneKept hnodup _

theorem boundTags_not_done (hnodup : ((s.queue p).map ReqEntry.tag).Nodup) {e : ReqEntry} (he : e ∈ s.queue p)
    (hd : e.isDone = true) : e.tag ∉ s.boundTags p hpn := fun htag => by
  obtain ⟨b, hb, hbtag⟩ := List.mem_map.1 htag
  obtain ⟨hmem, hbound⟩ := List.mem_filter.1 hb
  obtain rfl := List.inj_on_of_nodup_map hnodup hmem he hbtag
  have hstate := (Bool.and_eq_true_iff.1 hbound).2
  cases hs : b.state with
  | done => simp [hs, ReqEntry.isBound] at hstate
  | waiting | walking | bound | issued => simp [ReqEntry.isDone, hs] at hd

theorem unbind_doneKept (hnodup : ((s.queue p).map ReqEntry.tag).Nodup) : DoneKept (s.queue q) ((unbind p hpn s).queue q) := by
  by_cases hq : q = p
  · subst hq
    rw [unbind_eq]
    have hfree : ∀ e ∈ s.queue q, e.isDone = true → ∀ tag ∈ s.boundTags q hpn, e.tag ≠ tag := fun e he hd tag htag heq =>
      boundTags_not_done hnodup he hd (heq ▸ htag)
    refine List.foldlRecOn (motive := fun u : State => DoneKept (s.queue q) (u.queue q)) _ _ ?_
      fun u hu tag htag => translate_doneKept hu fun _ e he hd => hfree e he hd tag htag
    rw [returnToWaiting_queue]
    refine (DoneKept.refl _).map_of_not_done (fun e => ?_) fun e he hd => if_neg fun htag => hfree e he hd _ htag rfl
    split <;> rfl
  · rw [(unbind_samePort hq).2.1]
    exact .refl _

end

end Sys2Proof.Machine
end

section
/-! Every step keeps the Request Queues in order (R108, R123, R128, R165, R167): what the Link Ports do that leaves the
queues, and the arrival, the end and the teardown of requests. -/

namespace Sys2Proof.Machine

/-! ### Link Ports change, the Request Queues stay -/

/-- Every Request Queue that fits `l` fits `l'`. -/
def LinkPort.FitsAs (l l' : LinkPort) : Prop := ∀ q, l.fits q → l'.fits q

/-- Every Link Port of `s` fits the Request Queues that the one of `k` does. -/
def State.fitsFrom (k : Quad LinkPort) (s : State) : Prop := ∀ p, (k.get p).FitsAs (s.link p)

section
variable {l l' l'' : LinkPort}

theorem LinkPort.FitsAs.trans (h : l.FitsAs l') (h' : l'.FitsAs l'') : l.FitsAs l'' := fun q hq => h' q (h q hq)

theorem LinkPort.Quiet.fitsAs (h : l.Quiet l') : l.FitsAs l' := fun _ hq => h.fits hq

theorem LinkPort.FitsAs.of_same (hstate : l'.state = l.state) (htags : l'.tags = l.tags)
    (hcredits : l'.requestCredits + l'.requestReturns = l.requestCredits + l.requestReturns)
    (hreport : l'.queueEmptyReport = l.queueEmptyReport) (hrequestTags : l'.requestTags = l.requestTags) : l.FitsAs l' :=
  fun q hq => by
    unfold LinkPort.fits
    rw [hstate, htags, hcredits, hreport, hrequestTags]
    exact hq

/-- A port without a session, or one that ends it, from one whose Request Queue is empty. -/
theorem LinkPort.FitsAs.of_empty (h : ∀ q, l.fits q → q = []) (h' : l'.state ≠ .attached) : l.FitsAs l' := fun q hq => by
  rw [h q hq]
  exact LinkPort.fits_nil h'

theorem LinkPort.FitsAs.of_closed (ha : l.state ≠ .attached) (hd : l.state ≠ .detaching) (h' : l'.state ≠ .attached) :
    l.FitsAs l' := .of_empty (fun _ hq => hq.nil_of_closed ha hd) h'

end

theorem LinkPort.fits_detached (l : LinkPort) (cause : TeardownCause) {q : List ReqEntry} (h : (q.map ReqEntry.tag).Nodup) :
    (l.detached cause).fits q :=
  ⟨h, fun ha => by simp [LinkPort.detached] at ha, fun _ hr => by simp [LinkPort.detached] at hr, fun _ hd => absurd rfl hd⟩

section
variable {k : Quad LinkPort} {s t : State}

theorem State.quietFrom.fitsFrom (h : s.quietFrom k) : s.fitsFrom k := fun p => (h p).fitsAs

theorem State.fitsFrom_self : s.fitsFrom s.links := fun _ _ hq => hq

theorem State.fitsFrom.of_links (h : s.fitsFrom k) (hl : t.links = s.links) : t.fitsFrom k := fun p => by
  rw [State.link, hl]
  exact h p

theorem State.fitsFrom.quiet (h : s.fitsFrom k) (hq : t.quietFrom s.links) : t.fitsFrom k := fun p => (h p).trans (hq p).fitsAs

theorem State.fitsFrom.setLink (h : s.fitsFrom k) {p : PortId} {l : LinkPort} (hl : (s.link p).FitsAs l) :
    (s.setLink p l).fitsFrom k := fun q => by
  by_cases hq : q = p
  · subst hq
    rw [State.setLink_link_same]
    exact (h q).trans hl
  · rw [State.setLink_link_ne _ _ hq]
    exact h q

theorem State.requestsInOrder.fitsFrom (h : s.requestsInOrder) (ht : t.fitsFrom s.links) (hrequests : t.requests = s.requests) :
    t.requestsInOrder := fun p => by
  have hqueue : t.queue p = s.queue p := by rw [State.queue, hrequests]; rfl
  have hfits := ht p _ (h p)
  rw [← hqueue] at hfits
  exact hfits

theorem State.requestsInOrder.setLink (h : s.requestsInOrder) {p : PortId} {l : LinkPort} (hl : (s.link p).FitsAs l) :
    (s.setLink p l).requestsInOrder := h.fitsFrom (State.fitsFrom_self.setLink hl) rfl

/-! ### Teardown reports -/

theorem checkTeardownEnd_fitsFrom (h : s.fitsFrom k) (p : PortId) : (checkTeardownEnd p s).fitsFrom k := by
  unfold checkTeardownEnd
  dsimp only
  split
  · next hend =>
    obtain ⟨hstate, hreport, -, -⟩ := hend
    refine (h.setLink (p := p) (.of_empty (fun q hq => hq.2.2.1 hstate hreport) ?_)).of_links rfl
    dsimp only
    (repeat' split) <;> simp
  · exact h

theorem engineTeardownReport_fitsFrom (h : s.fitsFrom k) (p : PortId) : (engineTeardownReport p s).fitsFrom k := by
  unfold engineTeardownReport
  split
  · have hset : (s.setLink p { s.link p with engineReport := true }).fitsFrom k := h.setLink (.of_same rfl rfl rfl rfl rfl)
    exact checkTeardownEnd_fitsFrom hset p
  · exact h

theorem recallTeardownReport_fitsFrom (h : s.fitsFrom k) (p : PortId) : (recallTeardownReport p s).fitsFrom k := by
  unfold recallTeardownReport
  split
  · have hset : (s.setLink p { s.link p with recallReport := true }).fitsFrom k := h.setLink (.of_same rfl rfl rfl rfl rfl)
    exact checkTeardownEnd_fitsFrom hset p
  · exact h

theorem scanPast_fitsFrom (h : s.fitsFrom k) (p : PortId) (f : Nat) : (scanPast p f s).fitsFrom k := by
  unfold scanPast
  split
  · exact h
  · exact engineTeardownReport_fitsFrom (by exact h) p

theorem scanFrame_fitsFrom (h : s.fitsFrom k) (p : PortId) (f : Nat) (i : MapItem) : (scanFrame p f i s).fitsFrom k := by
  unfold scanFrame
  cases i.role
  case reader =>
    dsimp only
    split
    · exact h
    · exact scanPast_fitsFrom (h.quiet (recallItem_quiet s.quietFrom_self _ _ _ _ _)) p f
  case holder =>
    dsimp only
    split
    · exact h
    · exact scanPast_fitsFrom (h.quiet (enterRecalling_quiet s.quietFrom_self _ _ _ _)) p f

theorem scanTurn_fitsFrom (h : s.fitsFrom k) (p : PortId) (n : Nat) : (scanTurn p n s).fitsFrom k := by
  unfold scanTurn
  dsimp only
  split
  · exact scanFrame_fitsFrom h p _ _
  · exact engineTeardownReport_fitsFrom (by exact h) p

theorem takeCompletion_fitsFrom (h : s.fitsFrom k) (r : RecallRecord) : (takeCompletion r s).fitsFrom k := by
  unfold takeCompletion
  dsimp only
  refine engineTeardownReport_fitsFrom (recallTeardownReport_fitsFrom (h.quiet ?_) _) _
  have hrole : ∀ u : State, u.quietFrom s.links → (match r.role with
      | .holder => exitRecalling r.frame u
      | .reader => removeReader r.frame r.port u).quietFrom s.links := fun u hu => by
    split <;> simp [hu]
  rw [clearWaiting_quiet]
  split
  · exact handOver_command_quiet (hrole _ (by exact s.quietFrom_self)) _ _ _
  · exact hrole _ (by exact s.quietFrom_self)

/-! ### Served pool commands -/

theorem returnCredits_fitsFrom (h : s.fitsFrom k) (p : PortId) : (returnCredits p s).fitsFrom k := by
  unfold returnCredits
  dsimp only
  split
  · exact h.setLink (.of_same rfl rfl rfl rfl rfl)
  · exact h

theorem takeCommand_fitsFrom (p : PortId) (s : State) : (takeCommand p s).fitsFrom s.links := by
  have htaken : (s.setLink p { s.link p with
      commands := (s.link p).commands.tail, commandReturns := (s.link p).commandReturns + 1 }).fitsFrom s.links :=
    State.fitsFrom_self.setLink (.of_same rfl rfl rfl rfl rfl)
  exact htaken.of_links rfl

theorem serveCommand_fitsFrom {p : PortId} {f : State → State} (hf : ∀ u, servedQuietly p u (f u)) :
    (serveCommand p f s).fitsFrom s.links := by
  refine returnCredits_fitsFrom (s := f (movePointer (sourceOf p) s)) ?_ p
  rcases hf (movePointer (sourceOf p) s) with hdeferred | htaken
  · exact (State.fitsFrom_self (s := movePointer (sourceOf p) s)).quiet hdeferred
  · exact (takeCommand_fitsFrom p (movePointer (sourceOf p) s)).quiet htaken

theorem sendNotice_fitsFrom {p : PortId} (n : Notice) (rest : List Notice) : (sendNotice p n rest s).fitsFrom s.links := by
  have hsent : (s.setLink p { s.link p with
      notices := rest, noticeCredits := (s.link p).noticeCredits - 1, sent := (s.link p).sent ++ [.notice n] }).fitsFrom s.links :=
    State.fitsFrom_self.setLink (.of_same rfl rfl rfl rfl rfl)
  refine hsent.quiet (fillPending_quiet ?_ p)
  cases n <;> exact State.quietFrom_self _

end

/-! ### The Request Queue of one port changes -/

section
variable {s t : State} {p : PortId}

/-- One port's queue and link change, and fit each other after it. -/
theorem State.requestsInOrder_of_others (h : ∀ q, q ≠ p → (s.link q).fits (s.queue q))
    (hsame : ∀ q, q ≠ p → t.link q = s.link q ∧ t.queue q = s.queue q) (hp : (t.link p).fits (t.queue p)) :
    t.requestsInOrder := fun q => by
  by_cases hq : q = p
  · subst hq
    exact hp
  · obtain ⟨hlink, hqueue⟩ := hsame q hq
    have hother := h q hq
    rw [← hlink, ← hqueue] at hother
    exact hother

theorem samePort.link_queue {q : PortId} (h : samePort q s t) : t.link q = s.link q ∧ t.queue q = s.queue q := ⟨h.1, h.2.1⟩

theorem queueTeardownReport_requestsInOrder (h : s.requestsInOrder) (p : PortId) : (queueTeardownReport p s).requestsInOrder := by
  unfold queueTeardownReport
  split
  · next hend =>
    have hempty : s.queue p = [] := List.isEmpty_iff.1 (by simpa using hend.2)
    have hset : (s.setLink p { s.link p with queueEmptyReport := true }).requestsInOrder := by
      refine State.requestsInOrder_of_others (fun q _ => h q) (fun q hq => ⟨State.setLink_link_ne _ _ hq, rfl⟩) ?_
      rw [State.setLink_link_same, State.setLink_queue, hempty]
      exact LinkPort.fits_nil (by dsimp only; rw [hend.1]; nofun)
    refine hset.fitsFrom (checkTeardownEnd_fitsFrom State.fitsFrom_self p) ?_
    exact Block.same_of_outside (b := .requests) (bs := [.links, .engine])
      (checkTeardownEnd_outside _ (by simp) (by simp) p) (by simp)
  · exact h

theorem recallTeardownReport_requestsInOrder (h : s.requestsInOrder) (p : PortId) :
    (recallTeardownReport p s).requestsInOrder :=
  h.fitsFrom (recallTeardownReport_fitsFrom State.fitsFrom_self p) (Block.same_of_outside (b := .requests) (bs := [.links, .engine])
      (recallTeardownReport_outside _ (by simp) (by simp) p) (by simp))

/-- Teardown empties what its port held, so the port's own credits and tags need not be in order before it. -/
theorem beginTeardown_requestsInOrder (h : ∀ q, q ≠ p → (s.link q).fits (s.queue q))
    (hnodup : ((s.queue p).map ReqEntry.tag).Nodup) (cause : TeardownCause) : (beginTeardown p cause s).requestsInOrder := by
  refine recallTeardownReport_requestsInOrder (queueTeardownReport_requestsInOrder ?_ p) p
  have hrecalls : ∀ u : State, (recallsAtTeardown p u).links = u.links ∧ (recallsAtTeardown p u).requests = u.requests := fun u =>
    ⟨Block.same_of_outside (b := .links) (bs := [.recalls, .mapUnit]) (recallsAtTeardown_outside _ (by simp) (by simp) p) (by simp),
      Block.same_of_outside (b := .requests) (bs := [.recalls, .mapUnit]) (recallsAtTeardown_outside _ (by simp) (by simp) p) (by simp)⟩
  refine State.requestsInOrder.fitsFrom ?_ (State.fitsFrom_self.of_links (hrecalls _).1) (hrecalls _).2
  refine State.requestsInOrder_of_others h (fun q hq => ⟨State.setLink_link_ne s _ hq, State.setQueue_queue_ne s _ hq⟩) ?_
  have hfits := (s.link p).fits_detached cause (hnodup.sublist (List.filter_sublist.map _) :
    (((s.queue p).filter ReqEntry.isIssued).map ReqEntry.tag).Nodup)
  rw [← State.setLink_link_same s p ((s.link p).detached cause),
    ← State.setQueue_queue_same s p ((s.queue p).filter ReqEntry.isIssued)] at hfits
  exact hfits

theorem violation_requestsInOrder (h : s.requestsInOrder) (p : PortId) (kind : Violation) : (violation p kind s).requestsInOrder :=
  beginTeardown_requestsInOrder (s := handFault (.protocol p (s.link p).session kind) s) (fun q _ => by exact h q) (h p).1 .protocol

end

end Sys2Proof.Machine
end

section
/-! Every step keeps the Request Queues in order: arrivals, lines, completions and the commands one by one. -/

namespace Sys2Proof.Machine

section
variable {l : LinkPort} {q : List ReqEntry} {n : Nat}

/-- Entries change their state, and the same stay DONE. -/
theorem LinkPort.fits.map (h : l.fits q) {f : ReqEntry → ReqEntry} (htag : ∀ e, (f e).tag = e.tag)
    (hdone : ∀ e ∈ q, (f e).isDone = e.isDone) : l.fits (q.map f) := by
  have htags : (q.map f).map ReqEntry.tag = q.map ReqEntry.tag := by
    rw [List.map_map]
    exact List.map_congr_left fun e _ => htag e
  have hdoneTags : doneTags (q.map f) = doneTags q := by
    have hsame : q.filter (ReqEntry.isDone ∘ f) = q.filter ReqEntry.isDone := List.filter_congr hdone
    rw [doneTags, List.filter_map, List.map_map, hsame]
    exact List.map_congr_left fun e _ => htag e
  obtain ⟨hnodup, hattached, hdetaching, hother⟩ := h
  refine ⟨by rwa [htags], fun ha => ?_, fun hd hr => by rw [hdetaching hd hr]; rfl, fun ha hd => by rw [hother ha hd]; rfl⟩
  obtain ⟨hmem, hcredits, hperm⟩ := hattached ha
  refine ⟨fun e he => ?_, by rwa [List.length_map], by rwa [hdoneTags]⟩
  obtain ⟨b, hb, rfl⟩ := List.mem_map.1 he
  rw [htag]
  exact hmem b hb

theorem tags_retired (q : List ReqEntry) (n : Nat) :
    (q.filter fun e => !(e.tag == n)).map ReqEntry.tag = (q.map ReqEntry.tag).filter (· != n) := by
  rw [List.filter_map]
  rfl

theorem length_retired (hnodup : (q.map ReqEntry.tag).Nodup) (hn : n ∈ q.map ReqEntry.tag) :
    (q.filter fun e => !(e.tag == n)).length + 1 = q.length := by
  have hlength := congrArg List.length (tags_retired q n)
  rw [← hnodup.erase_eq_filter, List.length_map, List.length_erase_of_mem hn, List.length_map] at hlength
  have hpos : 0 < q.length := by
    rw [← List.length_map (f := ReqEntry.tag)]
    exact List.length_pos_of_mem hn
  omega

theorem doneTags_retired (hnodup : (q.map ReqEntry.tag).Nodup) {rest : List Nat} (h : (doneTags q).Perm (n :: rest)) :
    (doneTags (q.filter fun e => !(e.tag == n))).Perm rest := by
  have hdone : doneTags (q.filter fun e => !(e.tag == n)) = (doneTags q).erase n := by
    rw [(doneTags_nodup hnodup).erase_eq_filter, doneTags, doneTags, List.filter_map, List.filter_filter, List.filter_filter]
    refine congrArg _ (List.filter_congr fun e _ => ?_)
    exact Bool.and_comm _ _
  rw [hdone]
  simpa using h.erase n

/-- A memory request's completion leaves the outbound order: its entry is retired and its credit is to be returned. -/
theorem LinkPort.fits.retired {l' : LinkPort} (h : l.fits q) (hattached : l.state = .attached) {rest : List Nat}
    (hhead : l.requestTags = n :: rest) (hstate : l'.state = .attached) (htags : l'.tags = l.tags.filter fun t => !(t == n))
    (hcredits : l'.requestCredits = l.requestCredits) (hreturns : l'.requestReturns = l.requestReturns + 1)
    (hrest : l'.requestTags = rest) : l'.fits (q.filter fun e => !(e.tag == n)) := by
  obtain ⟨hnodup, hfits, -, -⟩ := h
  obtain ⟨hmem, hsum, hperm⟩ := hfits hattached
  rw [hhead] at hperm
  have hn : n ∈ q.map ReqEntry.tag := by
    obtain ⟨e, he, -, htag⟩ := mem_doneTags.1 (hperm.mem_iff.2 List.mem_cons_self)
    exact htag ▸ List.mem_map_of_mem he
  refine LinkPort.fits_of_attached hstate (hnodup.sublist (List.filter_sublist.map _)) (fun e he => ?_) ?_ ?_
  · obtain ⟨hq, hne⟩ := List.mem_filter.1 he
    rw [htags]
    exact List.mem_filter.2 ⟨hmem e hq, hne⟩
  · have hlength := length_retired hnodup hn
    omega
  · rw [hrest]
    exact doneTags_retired hnodup hperm

end

section
variable {s t : State} {p : PortId} {tag : Nat} {kind : ReqKind}

theorem State.requestsInOrder.fits (h : s.requestsInOrder) (p : PortId) : (s.link p).fits (s.queue p) := h p

/-! ### The end of an event -/

theorem settleAll_requestsInOrder {u : State} (h : s.requestsInOrder) (hlinks : u.quietFrom s.links)
    (hkept : ∀ q, DoneKept (s.queue q) (u.queue q)) : (settleAll s u).requestsInOrder := fun q => by
  obtain ⟨hqueue, hlink⟩ := settleAll_queue_link s u q
  have hfits := ((hlinks q).fits (h q)).settled (hkept q)
  rw [← hqueue, ← hlink] at hfits
  exact hfits

theorem settlePort_requestsInOrder {before : List ReqEntry} {u : State} (h : ∀ q, q ≠ p → (s.link q).fits (s.queue q))
    (hsame : ∀ q, q ≠ p → samePort q s u)
    (hfits : ((u.link p).handed (settledCompletions before (u.queue p))).fits (sweepQueue true true (u.queue p))) :
    (settlePort p before u).requestsInOrder := by
  refine State.requestsInOrder_of_others h (fun q hq => ((hsame q hq).trans (settlePort_samePort hq)).link_queue) ?_
  rw [← settlePort_queue, ← settlePort_link] at hfits
  exact hfits

/-! ### Arrivals -/

/-- How the new entry comes to stand: beyond the window it is DONE, else it is translated. -/
def State.newcomer (s : State) (p : PortId) (tag : Nat) (kind : ReqKind) : State :=
  if outOfBounds kind then setEntryState p tag (.done .bounds Gathered.nothing) (s.arrived p tag kind)
  else translate p tag (s.arrived p tag kind)

theorem acceptRequest_eq : acceptRequest p tag kind (s.requestTaken p tag) = settlePort p (s.queue p) (s.newcomer p tag kind) := rfl

theorem newcomer_samePort {q : PortId} (hq : q ≠ p) : samePort q s (s.newcomer p tag kind) := by
  unfold State.newcomer
  split
  · exact (arrived_samePort hq).trans (setEntryState_samePort hq _)
  · exact (arrived_samePort hq).trans (translate_samePort hq)

theorem newcomer_link : (s.newcomer p tag kind).link p = (s.requestTaken p tag).link p := by
  unfold State.newcomer
  split
  · rfl
  · have hlinks : (translate p tag (s.arrived p tag kind)).links = (s.arrived p tag kind).links :=
      Block.same_of_outside (b := .links) (bs := [.requests, .caches, .walker, .mapUnit])
        (translate_outside _ (by simp) (by simp) (by simp) (by simp) p tag) (by simp)
    rw [State.link, hlinks]
    rfl

theorem newcomer_doneKept (hnew : ∀ b ∈ s.queue p, b.tag ≠ tag) :
    DoneKept (s.queue p ++ [newEntry tag kind]) ((s.newcomer p tag kind).queue p) := by
  have hnone : ∀ e ∈ s.queue p ++ [newEntry tag kind], e.isDone = true → e.tag ≠ tag := fun e he hd => by
    rcases List.mem_append.1 he with hold | hlast
    · exact hnew e hold
    · rw [List.mem_singleton.1 hlast] at hd
      cases hd
  have hstart : DoneKept (s.queue p ++ [newEntry tag kind]) ((s.arrived p tag kind).queue p) := by
    rw [State.arrived_queue]
    exact .refl _
  unfold State.newcomer
  split
  · rw [setEntryState_queue_same]
    exact hstart.setState hnone _
  · exact translate_doneKept hstart fun _ => hnone

theorem acceptRequest_requestsInOrder (h : s.requestsInOrder) (hattached : (s.link p).state = .attached)
    (hcredits : (s.link p).requestCredits ≠ 0) (htag : tag ∉ (s.link p).tags) :
    (acceptRequest p tag kind (s.requestTaken p tag)).requestsInOrder := by
  obtain ⟨hnodup, hfits, -, -⟩ := h p
  obtain ⟨hmem, hsum, hperm⟩ := hfits hattached
  have hnew : ∀ b ∈ s.queue p, b.tag ≠ tag := fun b hb heq => htag (heq ▸ hmem b hb)
  have hkept := newcomer_doneKept (kind := kind) hnew
  have htags : ((s.newcomer p tag kind).queue p).map ReqEntry.tag = (s.queue p).map ReqEntry.tag ++ [tag] := by
    rw [hkept.tags, List.map_append]
    rfl
  have hlink : (s.newcomer p tag kind).link p = _ := newcomer_link.trans State.requestTaken_link_self
  rw [acceptRequest_eq]
  refine settlePort_requestsInOrder (fun q _ => h q) (fun q hq => newcomer_samePort hq) (LinkPort.fits_settled hnodup ?_
    (fun e he hd => hkept.done e (List.mem_append_left _ he) hd) (fun _ => ⟨fun e he => ?_, ?_, ?_⟩) (fun hd => ?_) fun hn => ?_)
  · rw [htags]
    refine List.nodup_append.2 ⟨hnodup, List.nodup_singleton _, fun n hn m hm heq => ?_⟩
    obtain ⟨b, hb, hbtag⟩ := List.mem_map.1 hn
    exact hnew b hb (hbtag.trans (heq.trans (List.mem_singleton.1 hm)))
  · have he' : e.tag ∈ (s.queue p).map ReqEntry.tag ++ [tag] := htags ▸ List.mem_map_of_mem he
    rw [hlink]
    refine List.mem_append.2 ((List.mem_append.1 he').imp_left fun hold => ?_)
    obtain ⟨b, hb, hbtag⟩ := List.mem_map.1 hold
    exact hbtag ▸ hmem b hb
  · have hlength := congrArg List.length htags
    rw [List.length_map, List.length_append, List.length_map, List.length_singleton] at hlength
    rw [hlink, hlength]
    dsimp only
    omega
  · rw [hlink]
    exact hperm
  · rw [hlink] at hd
    exact absurd (hattached.symm.trans hd) nofun
  · rw [hlink] at hn
    exact absurd hattached hn

theorem takeRequest_requestsInOrder (h : s.requestsInOrder) (p : PortId) (tag : Nat) (kind : ReqKind) (e : Bool) :
    (takeRequest p tag kind e s).requestsInOrder := by
  unfold takeRequest
  dsimp only
  split
  · next hattached =>
    split
    · exact violation_requestsInOrder h p _
    · split
      · exact violation_requestsInOrder h p _
      · next hcredits =>
        split
        · exact violation_requestsInOrder h p _
        · next htag => exact acceptRequest_requestsInOrder h hattached hcredits (by simpa using htag)
  · exact h

/-! ### The other messages -/

theorem takeMalformed_requestsInOrder (h : s.requestsInOrder) (p : PortId) : (takeMalformed p s).requestsInOrder := by
  unfold takeMalformed
  split
  · exact violation_requestsInOrder h p _
  · exact h

theorem sent_fitsAs (l : LinkPort) (m : OutMsg) : l.FitsAs { l with sent := l.sent ++ [m] } := .of_same rfl rfl rfl rfl rfl

/-- A session opens on an empty Request Queue with all its credits. -/
theorem openSession_requestsInOrder (h : s.requestsInOrder) (hidle : (s.link p).state = .idle) :
    (openSession p s).requestsInOrder := by
  have hempty : s.queue p = [] := (h.fits p).nil_of_closed (by rw [hidle]; nofun) (by rw [hidle]; nofun)
  have hopen : (s.setLink p { s.link p with
      state := .attached, session := ((s.link p).session + 1) % 256, requestCredits := Config.requestQueueSize,
      requestReturns := 0, commandCredits := Config.commandQueueSize, commandReturns := 0, tags := [], commands := [],
      outbound := [], notices := [] }).requestsInOrder := by
    refine State.requestsInOrder_of_others (fun q _ => h q) (fun q hq => ⟨State.setLink_link_ne _ _ hq, rfl⟩) ?_
    rw [State.setLink_link_same, State.setLink_queue, hempty]
    exact LinkPort.fits_of_attached rfl List.nodup_nil (fun _ he => absurd he List.not_mem_nil) rfl .rfl
  exact hopen.setLink (sent_fitsAs _ _)

theorem takeAttach_requestsInOrder (h : s.requestsInOrder) (p : PortId) : (takeAttach p s).requestsInOrder := by
  unfold takeAttach
  split
  · next hidle =>
    split
    · exact openSession_requestsInOrder h hidle
    · exact h.setLink (sent_fitsAs _ _)
  · exact violation_requestsInOrder h p _
  · exact h.setLink (sent_fitsAs _ _)
  · exact h.setLink (sent_fitsAs _ _)
  · exact h

theorem takeCredit_requestsInOrder (h : s.requestsInOrder) (p : PortId) (a b : Nat) (e : Bool) :
    (takeCredit p a b e s).requestsInOrder := by
  have hadded : (s.setLink p { s.link p with
      completionCredits := (s.link p).completionCredits + a, noticeCredits := (s.link p).noticeCredits + b }).requestsInOrder :=
    h.setLink (.of_same rfl rfl rfl rfl rfl)
  unfold takeCredit
  dsimp only
  split
  · exact takeMalformed_requestsInOrder h p
  · split
    · split
      · exact h
      · exact hadded
    · split
      · exact violation_requestsInOrder h p _
      · exact hadded
    all_goals exact h

theorem takeRecallAck_requestsInOrder (h : s.requestsInOrder) (p : PortId) (rid : Nat) (e : Bool) :
    (takeRecallAck p rid e s).requestsInOrder := by
  unfold takeRecallAck
  split
  · exact takeMalformed_requestsInOrder h p
  · split
    · split
      · refine h.fitsFrom (State.quietFrom.fitsFrom (by simp [s.quietFrom_self])) ?_
        exact Block.same_of_outside (b := .requests) (bs := [.links, .recalls, .mapUnit]) (by simp) (by simp)
      · exact h
    · exact h

theorem takeResetPort_requestsInOrder (h : s.requestsInOrder) (p : PortId) : (takeResetPort p s).requestsInOrder := by
  unfold takeResetPort
  split
  · exact beginTeardown_requestsInOrder (fun q _ => h q) (h p).1 _
  · exact h

theorem takePoolCommand_requestsInOrder (h : s.requestsInOrder) (p : PortId) (tag : Nat) (cmd : PoolCmd) (e : Bool) :
    (takePoolCommand p tag cmd e s).requestsInOrder := by
  unfold takePoolCommand
  dsimp only
  split
  · next hattached =>
    split
    · exact violation_requestsInOrder h p _
    · split
      · exact violation_requestsInOrder h p _
      · split
        · exact violation_requestsInOrder h p _
        · refine h.setLink fun q hq => ?_
          obtain ⟨hnodup, hfits, -, -⟩ := hq
          obtain ⟨hmem, hsum, hperm⟩ := hfits hattached
          exact LinkPort.fits_of_attached hattached hnodup (fun e he => List.mem_append_left _ (hmem e he)) hsum hperm
  · exact h

theorem takeMessage_requestsInOrder (h : s.requestsInOrder) (p : PortId) (m : HostMsg) : (takeMessage p m s).requestsInOrder := by
  cases m with
  | attach => exact takeAttach_requestsInOrder h p
  | credit a b => exact takeCredit_requestsInOrder h p a b true
  | recallAck rid => exact takeRecallAck_requestsInOrder h p rid true
  | resetPort => exact takeResetPort_requestsInOrder h p
  | request tag kind => exact takeRequest_requestsInOrder h p tag kind true
  | command tag cmd => exact takePoolCommand_requestsInOrder h p tag cmd true

/-! ### Lines -/

/-- The states of the entries of one tag are replaced, where they are not DONE before or after. -/
theorem setEntryState_requestsInOrder (h : s.requestsInOrder) {st : ReqState} (hopen : ∀ e ∈ s.queue p, e.tag = tag → e.isDone = false)
    (hst : ∀ kind, ({ tag := tag, kind := kind, state := st } : ReqEntry).isDone = false) :
    (setEntryState p tag st s).requestsInOrder := by
  refine State.requestsInOrder_of_others (fun q _ => h q) (fun q hq => (setEntryState_samePort hq st).link_queue) ?_
  rw [setEntryState_queue_same]
  refine (h.fits p).map (fun e => ?_) fun e he => ?_
  · split <;> rfl
  · split
    · next htag =>
      rw [hopen e he htag]
      exact hst e.kind
    · rfl

theorem ReqEntry.open_of_nextAccess {e : ReqEntry} {x : Nat × Nat} (h : e.nextAccess = some x) :
    e.isDone = false ∧ ({ e with state := grantedState e } : ReqEntry).isDone = false := by
  cases hplace : placeOf e.kind with
  | none => simp [ReqEntry.nextAccess, hplace] at h
  | some pl =>
    cases hs : e.state with
    | bound | issued => simp [ReqEntry.isDone, grantedState, hs]
    | waiting | walking | done => simp [ReqEntry.nextAccess, hs, hplace] at h

theorem chosenEntry_mem {c : ChannelId} {e : ReqEntry} (h : chosenEntry s c p = some e) : e ∈ s.queue p := by
  refine (eligibleFrom_sublist (s := s) (c := c) [] (s.queue p)).subset ?_
  change e ∈ eligible s c p
  unfold chosenEntry at h
  split at h
  · next hfind =>
    cases h
    exact List.mem_of_find?_eq_some hfind
  · exact List.mem_of_mem_head? h

theorem sendLine_requestsInOrder (h : s.requestsInOrder) (c : ChannelId) (p : PortId) (round : Round) :
    (sendLine c p round s).requestsInOrder := by
  unfold sendLine
  split
  · exact h
  · next e hchosen =>
    split
    · next hnext _ =>
      obtain ⟨hbefore, hafter⟩ := ReqEntry.open_of_nextAccess hnext
      refine setEntryState_requestsInOrder (by exact h) (fun b hb htag => ?_) fun _ => hafter
      rw [List.inj_on_of_nodup_map (h p).1 hb (chosenEntry_mem hchosen) htag]
      exact hbefore
    · exact h

theorem drainReport_requestsInOrder (h : s.requestsInOrder) (p : PortId) (f : Nat) : (drainReport p f s).requestsInOrder :=
  h.fitsFrom (State.quietFrom.fitsFrom (by simp [s.quietFrom_self])) (Block.same_of_outside (b := .requests) (bs := [.recalls])
    (drainReport_outside _ (by simp) p f) (by simp))

theorem leaveIssued_requestsInOrder (h : s.requestsInOrder) {f : Nat} (got : Gathered)
    (hopen : ∀ e ∈ s.queue p, e.tag = tag → e.isDone = false) : (leaveIssued p tag f got s).requestsInOrder := by
  unfold leaveIssued
  split
  · next hdetaching =>
    refine queueTeardownReport_requestsInOrder (drainReport_requestsInOrder ?_ p f) p
    refine State.requestsInOrder_of_others (fun q _ => h q) (fun q hq => ⟨rfl, State.setQueue_queue_ne _ _ hq⟩) ?_
    rw [State.setQueue_queue_same]
    refine (h.fits p).shrunk (by rw [hdetaching]; nofun) ((h p).1.sublist (List.filter_sublist.map _)) fun hnil => ?_
    rw [hnil]
    rfl
  · refine drainReport_requestsInOrder (settlePort_requestsInOrder (fun q _ => h q) (fun q hq => setEntryState_samePort hq _) ?_) p f
    rw [setEntryState_queue_same]
    refine (h.fits p).settled ((DoneKept.refl _).setState (fun e he hd htag => ?_) _)
    rw [hopen e he htag] at hd
    cases hd

theorem takeLineResult_requestsInOrder (h : s.requestsInOrder) (p : PortId) (r : LineResult) :
    (takeLineResult p r s).requestsInOrder := by
  unfold takeLineResult
  split
  · exact h
  · next e he =>
    split
    · next hstate _ =>
      have hopen : ∀ b ∈ s.queue p, b.tag = r.tag → b.isDone = false := fun b hb htag => by
        rw [State.entry_unique (h p).1 he hb htag]
        simp [ReqEntry.isDone, hstate]
      dsimp only
      split
      · exact setEntryState_requestsInOrder h hopen fun _ => rfl
      · exact leaveIssued_requestsInOrder h _ hopen
    · exact h

/-! ### Sends -/

/-- `s` with the head completion sent (R169). -/
def State.completionGone (s : State) (p : PortId) (c : Completion) (rest : List Completion) : State :=
  s.setLink p { s.link p with
    outbound := rest, completionCredits := (s.link p).completionCredits - 1,
    tags := (s.link p).tags.filter fun t => !(t == c.tag), sent := (s.link p).sent ++ [.completion c] }

theorem retire_port (n : Nat) (u : State) : (retire p n u).queue p = (u.queue p).filter (fun e => !(e.tag == n)) ∧
    (retire p n u).link p = { u.link p with requestReturns := (u.link p).requestReturns + 1 } := by
  simp [retire, State.setQueue_link]

theorem completionGone_others {c : Completion} {rest : List Completion} {q : PortId} (hq : q ≠ p) :
    (s.completionGone p c rest).link q = s.link q := State.setLink_link_ne _ _ hq

theorem completionRetired_requestsInOrder (h : s.requestsInOrder) (hattached : (s.link p).state = .attached) {c : Completion}
    {rest : List Completion} (hout : (s.link p).outbound = c :: rest) (hc : c.answers ≠ .command) :
    (retire p c.tag (s.completionGone p c rest)).requestsInOrder := by
  refine State.requestsInOrder_of_others (p := p) (fun q _ => h q) (fun q hq => ?_) ?_
  · simp [retire, State.setQueue_link, hq, completionGone_others hq]
    rfl
  · obtain ⟨hqueue, hlink⟩ := retire_port (p := p) c.tag (s.completionGone p c rest)
    have hgone : (s.completionGone p c rest).link p = _ := State.setLink_link_same ..
    have hhead : (s.link p).requestTags = c.tag :: ({ s.link p with outbound := rest } : LinkPort).requestTags := by
      rw [LinkPort.requestTags, hout, List.filter_cons_of_pos (by simpa using hc), List.map_cons]
      rfl
    rw [hqueue, hlink, hgone]
    exact (h.fits p).retired hattached hhead hattached rfl rfl rfl rfl

theorem completionGone_requestsInOrder (h : s.requestsInOrder) (hattached : (s.link p).state = .attached) {c : Completion}
    {rest : List Completion} (hout : (s.link p).outbound = c :: rest) (hc : c.answers = .command)
    (hfree : ∀ e ∈ s.queue p, e.tag ≠ c.tag) : (s.completionGone p c rest).requestsInOrder := by
  obtain ⟨hnodup, hfits, -, -⟩ := h p
  obtain ⟨hmem, hsum, hperm⟩ := hfits hattached
  refine State.requestsInOrder_of_others (p := p) (fun q _ => h q) (fun q hq => ⟨completionGone_others hq, rfl⟩) ?_
  have hgone : (s.completionGone p c rest).link p = _ := State.setLink_link_same ..
  have htags : ({ s.link p with outbound := rest } : LinkPort).requestTags = (s.link p).requestTags := by
    rw [LinkPort.requestTags, LinkPort.requestTags, hout, List.filter_cons_of_neg (by simpa using hc)]
  rw [hgone]
  refine LinkPort.fits_of_attached hattached hnodup (fun e he => ?_) hsum ?_
  · exact List.mem_filter.2 ⟨hmem e he, by simpa using hfree e he⟩
  · rw [← htags] at hperm
    exact hperm

theorem sendCompletion_requestsInOrder (h : s.requestsInOrder) (hattached : (s.link p).state = .attached) {c : Completion}
    {rest : List Completion} (hout : (s.link p).outbound = c :: rest)
    (hfree : c.answers = .command → ∀ e ∈ s.queue p, e.tag ≠ c.tag) : (sendCompletion p c rest s).requestsInOrder := by
  unfold sendCompletion
  dsimp only
  split
  · next hc => exact completionGone_requestsInOrder h hattached hout hc (hfree hc)
  · next hc =>
    have hretired := completionRetired_requestsInOrder h hattached hout (by rw [hc]; nofun)
    exact hretired.fitsFrom (returnCredits_fitsFrom State.fitsFrom_self p)
      (Block.same_of_outside (b := .requests) (bs := [.links]) (returnCredits_outside _ (by simp) p) (by simp))
  · next hc =>
    have hretired := completionRetired_requestsInOrder h hattached hout (by rw [hc]; nofun)
    exact beginTeardown_requestsInOrder (fun q _ => hretired q) (hretired p).1 _

end

end Sys2Proof.Machine
end

section
/-! O57, command by command. -/

namespace Sys2Proof.Machine

section
variable {s t : State} {p : PortId}

/-! ### Port requests and resets -/

theorem State.requestsInOrder.of_blocks (h : s.requestsInOrder) {bs : List Block} (ht : t.outside bs = s.outside bs)
    (hl : .links ∉ bs) (hr : .requests ∉ bs) : t.requestsInOrder :=
  h.fitsFrom (State.fitsFrom_self.of_links (Block.same_of_outside (b := .links) ht hl))
    (Block.same_of_outside (b := .requests) ht hr)

theorem answerPort_requestsInOrder (h : s.requestsInOrder) (st : MgmtStatus) : (answerPort st s).requestsInOrder :=
  h.of_blocks (bs := [.mgmt]) (answerPort_outside s (by simp) st) (by simp) (by simp)

theorem takePortReset_requestsInOrder (h : s.requestsInOrder) (p : PortId) : (takePortReset p s).requestsInOrder := by
  have hanswered := answerPort_requestsInOrder h .ok
  unfold takePortReset
  split
  · exact beginTeardown_requestsInOrder (fun q _ => hanswered q) (hanswered p).1 _
  · exact answerPort_requestsInOrder h _

theorem takePortDisable_requestsInOrder (h : s.requestsInOrder) (p : PortId) : (takePortDisable p s).requestsInOrder := by
  have hanswered := answerPort_requestsInOrder h .ok
  have hlink : (answerPort .ok s).link p = s.link p := by rw [State.link, answerPort_links]; rfl
  have hdisable : ((answerPort .ok s).setLink p { s.link p with disablePending := true }).requestsInOrder :=
    hanswered.setLink (by rw [hlink]; exact .of_same rfl rfl rfl rfl rfl)
  have hclosed : ∀ x, x ≠ .attached → x ≠ .detaching → (s.link p).state = x → ((answerPort .ok s).setLink p { s.link p with
      state := .disabled, completionCredits := 0, noticeCredits := 0 }).requestsInOrder := fun x ha hd hx =>
    hanswered.setLink (.of_closed (by rwa [hlink, hx]) (by rwa [hlink, hx]) nofun)
  unfold takePortDisable
  dsimp only
  split
  · exact beginTeardown_requestsInOrder (fun q _ => hdisable q) (hdisable p).1 _
  · exact hdisable
  · next hx => exact hclosed .idle nofun nofun hx
  · next hx => exact hclosed .offline nofun nofun hx
  · exact hanswered

theorem takePortEnable_requestsInOrder (h : s.requestsInOrder) (p : PortId) : (takePortEnable p s).requestsInOrder := by
  have hanswered := answerPort_requestsInOrder h .ok
  have hlink : (answerPort .ok s).link p = s.link p := by rw [State.link, answerPort_links]; rfl
  unfold takePortEnable
  dsimp only
  split
  · next hx =>
    refine hanswered.setLink (.of_closed (by rw [hlink, hx]; nofun) (by rw [hlink, hx]; nofun) ?_)
    dsimp only
    split <;> nofun
  · exact hanswered.setLink (by rw [hlink]; exact .of_same rfl rfl rfl rfl rfl)
  all_goals exact answerPort_requestsInOrder h .wrongState

theorem resetBlocks_requestsInOrder (pop : Population) (startUp : Bool) (s : State) :
    (resetBlocks pop startUp s).requestsInOrder := fun p => by
  have hfits : (LinkPort.afterReset (s.link p).sent).fits [] := LinkPort.fits_nil nofun
  rw [← resetBlocks_link pop startUp s p, ← resetBlocks_queue pop startUp s p] at hfits
  exact hfits

theorem chipReset_requestsInOrder (s : State) : (chipReset s).requestsInOrder :=
  (resetBlocks_requestsInOrder s.pop true (discardAccesses s)).of_blocks (bs := [.mgmt]) (placeResult_outside _ (by simp) _ _)
    (by simp) (by simp)

theorem takeMgmtRequest_requestsInOrder (h : s.requestsInOrder) (id : Nat) (r : MgmtReq) :
    (takeMgmtRequest id r s).requestsInOrder := by
  unfold takeMgmtRequest
  split
  · exact h
  · dsimp only
    split
    · exact State.requestsInOrder.of_blocks (s := s) h (bs := [.mgmt]) (placeResult_outside _ (by simp) _ _) (by simp) (by simp)
    · by_cases hr : r = .chipReset
      · subst hr
        exact chipReset_requestsInOrder _
      · exact State.requestsInOrder.of_blocks (s := s) h (bs := [.mgmt, .engine]) (runRequest_outside _ (by simp) (by simp) hr)
          (by simp) (by simp)

/-! ### Link events -/

theorem execLinkDown_requestsInOrder (h : s.requestsInOrder) (p : PortId) :
    leadsTo State.requestsInOrder (execLinkDown p s) := by
  refine leadsTo_whenOperating h fun _ => ?_
  have hdown : (s.setLink p { s.link p with link := .down }).requestsInOrder := h.setLink (.of_same rfl rfl rfl rfl rfl)
  dsimp only
  split
  · split
    · next hidle => exact h.setLink (.of_closed (by rw [hidle]; nofun) (by rw [hidle]; nofun) nofun)
    · exact beginTeardown_requestsInOrder (fun q _ => by exact hdown q) (by exact (hdown p).1) _
    all_goals exact hdown
  · exact h

/-! ### The end of the Map Unit's and the Walker's events -/

theorem sendMapAccess_doneKept (h : s.requestsInOrder) (round : Round) (q : PortId) :
    DoneKept (s.queue q) ((sendMapAccess round s).queue q) := by
  have hwrite : ∀ w, DoneKept (s.queue q) ((sendMapWrite round w s).queue q) := fun w => by
    have hqueue : (sendMapWrite round w s).queue q = (s.writeTaken round w).queue q := by
      have htold : (s.writeTold round w).requests = (s.writeTaken round w).requests :=
        Block.same_of_outside (b := .requests) (bs := [.links, .engine, .recalls, .flight, .walker, .mapUnit])
          (by unfold State.writeTold; simp) (by simp)
      rw [sendMapWrite_eq]
      exact congrArg (fun r : Quad (List ReqEntry) => r.get q) htold
    rw [hqueue, writeTaken_queue]
    exact unbind_doneKept (s := s.writeSent round w) (h w.write.port).1
  unfold sendMapAccess
  split
  · split
    · exact hwrite _
    · exact .refl _
  · exact hwrite _
  · exact .refl _
  · exact .refl _

end

/-! ### Every command -/

/-- A command that leaves the Request Queues keeps them in order if its Link Ports still fit them. -/
theorem leadsTo_of_fits {s : State} (h : s.requestsInOrder) {c : Instr} (hc : .requests ∉ Block.caches :: touches c)
    (hl : leadsTo (fun t => t.fitsFrom s.links) (exec c s)) : leadsTo State.requestsInOrder (exec c s) := fun t ht =>
  h.fitsFrom (hl t ht) (Block.same_of_outside (b := .requests) (exec_outside c s t ht) hc)

/-- No completion of a pool command that waits carries the tag of a queued request. -/
def State.commandTagsFree (s : State) : Prop :=
  ∀ p, ∀ c ∈ (s.link p).outbound, c.answers = .command → ∀ e ∈ s.queue p, e.tag ≠ c.tag

section
variable {s : State}

theorem fits_whenOperating {t : State} (h : t.fitsFrom s.links) : leadsTo (fun t => t.fitsFrom s.links) (whenOperating s t) :=
  leadsTo_whenOperating State.fitsFrom_self fun _ => h

theorem requests_onArrival (h : s.requestsInOrder) (p : PortId) {t : State} (ht : t.requestsInOrder) :
    leadsTo State.requestsInOrder (onArrival p s t) := leadsTo_whenOperating h fun _ => by
  split
  · exact ht
  · exact h

theorem fits_onEngine {t : State} (h : t.fitsFrom s.links) : leadsTo (fun t => t.fitsFrom s.links) (onEngine s t) :=
  fits_whenOperating (by
    split
    · exact h
    · exact State.fitsFrom_self)

theorem exec_requestsInOrder (c : Instr) (h : s.requestsInOrder) (hfree : s.commandTagsFree) :
    leadsTo State.requestsInOrder (exec c s) := by
  have hself : s.fitsFrom s.links := State.fitsFrom_self
  cases c
  case powerOn pins => exact leadsTo_next (resetBlocks_requestsInOrder _ _ _)
  case resetNAssert pins =>
    refine leadsTo_next ?_
    split
    · exact resetBlocks_requestsInOrder _ _ _
    · exact h
  case supplyFail =>
    refine leadsTo_of_fits h (by simp [touches]) (leadsTo_next fun p => ?_)
    match p with
    | 0 | 1 | 2 | 3 => exact .of_same rfl rfl rfl rfl rfl
  case farEndDetected p =>
    refine leadsTo_of_fits h (by simp [touches]) (fits_whenOperating ?_)
    split
    · exact hself.setLink (.of_same rfl rfl rfl rfl rfl)
    · exact hself
  case trainingCompletes p =>
    refine leadsTo_of_fits h (by simp [touches]) (fits_whenOperating ?_)
    dsimp only
    split
    · refine hself.setLink ?_
      by_cases hoff : (s.link p).state = .offline
      · exact .of_closed (by rw [hoff]; nofun) (by rw [hoff]; nofun) (by simp [hoff])
      · exact .of_same (if_neg hoff) rfl rfl rfl rfl
    · exact hself
  case trainingFails p =>
    refine leadsTo_of_fits h (by simp [touches]) (fits_whenOperating ?_)
    split
    · exact hself.setLink (.of_same rfl rfl rfl rfl rfl)
    · exact hself
  case linkDown p => exact execLinkDown_requestsInOrder h p
  case attach p => exact requests_onArrival h p (takeAttach_requestsInOrder h p)
  case credit p a b => exact requests_onArrival h p (takeCredit_requestsInOrder h p a b _)
  case recallAck p rid => exact requests_onArrival h p (takeRecallAck_requestsInOrder h p rid _)
  case resetPort p => exact requests_onArrival h p (takeResetPort_requestsInOrder h p)
  case malformedMessage p bytes =>
    refine requests_onArrival h p ?_
    split
    · exact takeMalformed_requestsInOrder h p
    · exact takeMessage_requestsInOrder h p _
  case read | write | cswap | fence | flush | detach => exact requests_onArrival h _ (takeRequest_requestsInOrder h _ _ _ _)
  case commandArrival p tag cmd => exact requests_onArrival h p (takePoolCommand_requestsInOrder h p tag cmd _)
  case portAccessGrant c p =>
    refine leadsTo_whenOperating h fun _ => ?_
    split
    · exact sendLine_requestsInOrder h _ _ _
    · exact h
  case lineResult p tag line =>
    refine leadsTo_whenOperating h fun _ => ?_
    split
    · exact h
    · exact takeLineResult_requestsInOrder (by exact h) p _
  case claim p =>
    refine leadsTo_of_fits h (by simp [touches]) (fits_whenOperating ?_)
    split
    · exact serveCommand_fitsFrom fun _ => examineClaim_servedQuietly _ _
    · exact hself
  case release p =>
    refine leadsTo_of_fits h (by simp [touches]) (fits_whenOperating ?_)
    split
    · exact serveCommand_fitsFrom fun _ => examineRelease_servedQuietly _
    · exact hself
  case drop p =>
    refine leadsTo_of_fits h (by simp [touches]) (fits_whenOperating ?_)
    split
    · exact serveCommand_fitsFrom fun _ => examineDrop_servedQuietly _
    · exact hself
  case grant p =>
    refine leadsTo_of_fits h (by simp [touches]) (fits_whenOperating ?_)
    split
    · exact serveCommand_fitsFrom fun _ => examineGrant_servedQuietly _ _ _
    · exact hself
  case accept p =>
    refine leadsTo_of_fits h (by simp [touches]) (fits_whenOperating ?_)
    split
    · exact serveCommand_fitsFrom fun _ => examineAccept_servedQuietly _ _
    · exact hself
  case decline p =>
    refine leadsTo_of_fits h (by simp [touches]) (fits_whenOperating ?_)
    split
    · exact serveCommand_fitsFrom fun _ => examineDecline_servedQuietly _
    · exact hself
  case revoke p =>
    refine leadsTo_of_fits h (by simp [touches]) (fits_whenOperating ?_)
    split
    · exact serveCommand_fitsFrom fun _ => examineRevoke_servedQuietly _ _
    · exact hself
  case teardownScan p =>
    refine leadsTo_of_fits h (by simp [touches]) (fits_whenOperating ?_)
    split
    · split
      · exact scanTurn_fitsFrom (by exact hself) p _
      all_goals exact hself
    · exact hself
  case engineTakesTeardown p =>
    refine leadsTo_of_fits h (by simp [touches]) (fits_onEngine (hself.quiet ?_))
    split <;> simp [s.quietFrom_self]
  case claimDeadline p tag =>
    refine leadsTo_of_fits h (by simp [touches]) (fits_onEngine (hself.quiet ?_))
    (repeat' split) <;> simp [s.quietFrom_self]
  case offerDeadline gid =>
    refine leadsTo_of_fits h (by simp [touches]) (fits_onEngine (hself.quiet ?_))
    (repeat' split) <;> simp [s.quietFrom_self]
  case recallDeadline rid =>
    refine leadsTo_of_fits h (by simp [touches]) (fits_whenOperating (hself.quiet ?_))
    (repeat' split) <;> simp [s.quietFrom_self]
  case recallCompletionReport rid =>
    refine leadsTo_of_fits h (by simp [touches]) (fits_onEngine ?_)
    split
    · split
      · exact takeCompletion_fitsFrom hself _
      · exact hself
    · exact hself
  case scrubEndReport =>
    refine leadsTo_of_fits h (by simp [touches]) (fits_onEngine (hself.quiet ?_))
    (repeat' split) <;> simp [s.quietFrom_self]
  case mapAccessGrant =>
    refine leadsTo_whenOperating h fun _ => ?_
    split
    · exact settleAll_requestsInOrder h (sendMapAccess_quiet s.quietFrom_self _) (sendMapAccess_doneKept h _)
    all_goals exact h
  case mapReadResult p hpn =>
    refine leadsTo_whenOperating h fun _ => ?_
    split
    · exact h
    · refine settleAll_requestsInOrder h ((State.quietFrom_of_links ?_).2 s.quietFrom_self) fun q => ?_
      · exact takeMapResult_links ..
      · exact takeMapResult_doneKept (s := s.mapResultTaken p hpn) (h q).1 _
  case completionSend p =>
    refine leadsTo_whenOperating h fun _ => ?_
    dsimp only
    split
    · next hsend =>
      split
      · next c rest hout =>
        exact sendCompletion_requestsInOrder h hsend.1 hout fun hc => hfree p c (hout ▸ List.mem_cons_self) hc
      · exact h
    · exact h
  case noticeSend p =>
    refine leadsTo_of_fits h (by simp [touches]) (fits_whenOperating ?_)
    dsimp only
    split
    · split
      · exact sendNotice_fitsFrom _ _
      · exact hself
    · exact hself
  case evict =>
    refine leadsTo_of_fits h (by simp [touches]) (fits_whenOperating (hself.quiet ?_))
    split <;> simp [s.quietFrom_self]
  case quarantine =>
    refine leadsTo_of_fits h (by simp [touches]) (fits_whenOperating (hself.quiet ?_))
    split <;> simp [s.quietFrom_self]
  case portReset =>
    refine leadsTo_whenOperating h fun _ => ?_
    split
    · exact takePortReset_requestsInOrder h _
    · exact h
  case portDisable =>
    refine leadsTo_whenOperating h fun _ => ?_
    split
    · exact takePortDisable_requestsInOrder h _
    · exact h
  case portEnable =>
    refine leadsTo_whenOperating h fun _ => ?_
    split
    · exact takePortEnable_requestsInOrder h _
    · exact h
  case mgmtRequestTransaction bytes =>
    refine leadsTo_whenOperating h fun _ => ?_
    split
    · exact h
    · exact h
    · exact takeMgmtRequest_requestsInOrder (by exact h) _ _
  case chipReset id => exact leadsTo_whenOperating h fun _ => takeMgmtRequest_requestsInOrder (by exact h) _ _
  all_goals
    exact leadsTo_of_same [.links, .requests] (fun t ht => h.fitsFrom (State.fitsFrom_self.of_links (ht .links (by simp)))
      (ht .requests (by simp))) (by simp [touches])

end

/-- Settles O57, by the command that the step carries out. -/
theorem stepKeepsRequestsInOrder : Obligations.StepKeepsRequestsInOrder := by
  unfold Obligations.StepKeepsRequestsInOrder
  intro s t hstep h hfree
  rcases step_cases hstep with rfl | ⟨c, rest, -, hexec⟩
  · exact h
  · exact exec_requestsInOrder c (s := { s with pending := rest }) h hfree t hexec

end Sys2Proof.Machine
end

section
/-! Capacities (R28, R31, R33, R36, R40, R58, R71, R87, R108, R132, R150, R170, R189): what every operation of the blocks
keeps of them. An operation that adds to a table is kept within it by the check before it. -/

namespace Sys2Proof.Machine

/-- The capacities of every table and queue but the Command Queues: at most `n` recall records, and map writes wait only
while at most `k` places of the Map Write Queue are free. Reads and repairs together are no more than the walks. -/
structure Tight (n k : Nat) (table : List RecallRecord) (claims : List ParkedClaim) (offers : List Offer)
    (mapQueue : List QueuedWrite) (mapWaiting : List MapWrite) (reads : List MapRead) (repairs : List Repair) (walks : List Walk)
    (links : Quad LinkPort) (requests : Quad (List ReqEntry)) (caches : Quad (List CacheEntry)) (channels : Quad Channel)
    (outstanding : Nat) (log : List FaultRecord) : Prop where
  table : table.length ≤ n
  claims : claims.length ≤ Config.claimQueueSize
  offers : offers.length ≤ Config.offerTableSize
  writes : mapQueue.length ≤ Config.mapWriteQueueSize
  waiting : mapWaiting = [] ∨ Config.mapWriteQueueSize ≤ mapQueue.length + k
  load : reads.length + repairs.length ≤ walks.length
  walks : walks.length ≤ Config.walkQueueSize
  notices : ∀ p, (links.get p).notices.length ≤ Config.noticeQueueSize
  queues : ∀ p, (requests.get p).length ≤ Config.requestQueueSize
  caches : ∀ p, (caches.get p).length ≤ Config.cacheSize
  channels : ∀ c, (channels.get c).queue.length ≤ Config.channelQueueSize
  outstanding : outstanding ≤ Config.scrubOutstanding
  log : log.length ≤ Config.faultLogSize

/-- The blocks of `s` are within their capacities. -/
def State.tight (n k : Nat) (s : State) : Prop :=
  Tight n k s.recalls.table s.engine.claims s.engine.offers s.mapUnit.queue s.mapUnit.waiting s.mapUnit.reads s.mapUnit.repairs
    s.walker.walks s.links s.requests s.caches s.channels s.scrub.outstanding s.mgmt.log

theorem Quad.forall_set {α : Type} {P : α → Prop} {q : Quad α} (h : ∀ p, P (q.get p)) (p : Fin 4) {x : α} (hx : P x) :
    ∀ j, P ((q.set p x).get j) := fun j => by
  by_cases hj : j = p
  · subst hj
    rwa [Quad.get_set_same]
  · rw [Quad.get_set_ne _ _ hj]
    exact h j

section
variable {n k : Nat} {s : State}

/-! ### One block is replaced -/

theorem State.setLink_tight (h : s.tight n k) {p : PortId} {x : LinkPort} (hx : x.notices.length ≤ Config.noticeQueueSize) :
    (s.setLink p x).tight n k :=
  have t : Tight .. := h
  { t with notices := Quad.forall_set (P := fun l : LinkPort => l.notices.length ≤ Config.noticeQueueSize) t.notices p hx }

theorem State.setQueue_tight (h : s.tight n k) {p : PortId} {x : List ReqEntry} (hx : x.length ≤ Config.requestQueueSize) :
    (s.setQueue p x).tight n k :=
  have t : Tight .. := h
  { t with queues := Quad.forall_set (P := fun l : List ReqEntry => l.length ≤ Config.requestQueueSize) t.queues p hx }

theorem State.setCache_tight (h : s.tight n k) {p : PortId} {x : List CacheEntry} (hx : x.length ≤ Config.cacheSize) :
    (s.setCache p x).tight n k :=
  have t : Tight .. := h
  { t with caches := Quad.forall_set (P := fun l : List CacheEntry => l.length ≤ Config.cacheSize) t.caches p hx }

theorem State.setChannel_tight (h : s.tight n k) {c : ChannelId} {x : Channel} (hx : x.queue.length ≤ Config.channelQueueSize) :
    (s.setChannel c x).tight n k :=
  have t : Tight .. := h
  { t with channels := Quad.forall_set (P := fun l : Channel => l.queue.length ≤ Config.channelQueueSize) t.channels c hx }

theorem State.setEngine_tight (h : s.tight n k) {x : Engine} (hclaims : x.claims.length ≤ Config.claimQueueSize)
    (hoffers : x.offers.length ≤ Config.offerTableSize) : (s.setEngine x).tight n k :=
  have t : Tight .. := h
  { t with claims := hclaims, offers := hoffers }

theorem State.setRecalls_tight {n' : Nat} (h : s.tight n k) {x : RecallUnit} (hx : x.table.length ≤ n') : (s.setRecalls x).tight n' k :=
  have t : Tight .. := h
  { t with table := hx }

theorem State.setMapUnit_tight {k' : Nat} (h : s.tight n k) {x : MapUnit} (hqueue : x.queue.length ≤ Config.mapWriteQueueSize)
    (hwaiting : x.waiting = [] ∨ Config.mapWriteQueueSize ≤ x.queue.length + k')
    (hload : x.reads.length + x.repairs.length ≤ s.walker.walks.length) : (s.setMapUnit x).tight n k' :=
  have t : Tight .. := h
  { t with writes := hqueue, waiting := hwaiting, load := hload }

theorem State.setWalker_tight (h : s.tight n k) {x : Walker}
    (hload : s.mapUnit.reads.length + s.mapUnit.repairs.length ≤ x.walks.length) (hx : x.walks.length ≤ Config.walkQueueSize) :
    (s.setWalker x).tight n k :=
  have t : Tight .. := h
  { t with load := hload, walks := hx }

theorem State.setScrub_tight (h : s.tight n k) {x : Scrub} (hx : x.outstanding ≤ Config.scrubOutstanding) :
    (s.setScrub x).tight n k :=
  have t : Tight .. := h
  { t with outstanding := hx }

theorem State.setMgmt_tight (h : s.tight n k) {x : Mgmt} (hx : x.log.length ≤ Config.faultLogSize) : (s.setMgmt x).tight n k :=
  have t : Tight .. := h
  { t with log := hx }

theorem State.tight.mono {n' : Nat} (h : s.tight n k) (hn : n ≤ n') : s.tight n' k :=
  have t : Tight .. := h
  { t with table := Nat.le_trans t.table hn }

/-- The table holds no more than it does. -/
theorem State.tight.exact {n' : Nat} (h : s.tight n k) (hn : s.recalls.table.length ≤ n') : s.tight n' k :=
  have t : Tight .. := h
  { t with table := hn }

/-! ### Operations that add to no table -/

variable (s)

@[simp] theorem State.setFlight_tight (x : InFlight) : (s.setFlight x).tight n k ↔ s.tight n k := .rfl
@[simp] theorem State.setDram_tight (x : Dram) : (s.setDram x).tight n k ↔ s.tight n k := .rfl
@[simp] theorem State.setDevice_tight (x : DeviceState) : (s.setDevice x).tight n k ↔ s.tight n k := .rfl
@[simp] theorem State.useFree_tight : s.useFree.tight n k ↔ s.tight n k := .rfl
@[simp] theorem State.setRecord_tight (f : Nat) (r : FrameRecord) : (s.setRecord f r).tight n k ↔ s.tight n k := .rfl
@[simp] theorem handFault_tight (i : FaultInfo) : (handFault i s).tight n k ↔ s.tight n k := .rfl
@[simp] theorem movePointer_tight (i : Fin 5) : (movePointer i s).tight n k ↔ s.tight n k := .rfl
@[simp] theorem deferCommand_tight (p : PortId) : (deferCommand p s).tight n k ↔ s.tight n k := .rfl
@[simp] theorem clearWaiting_tight : (clearWaiting s).tight n k ↔ s.tight n k := .rfl
@[simp] theorem setScan_tight (p : PortId) (x : ScanState) : (setScan p x s).tight n k ↔ s.tight n k := .rfl
@[simp] theorem placeInSlot_tight (r : MgmtReq) : (placeInSlot r s).tight n k ↔ s.tight n k := .rfl
@[simp] theorem setPending_tight (p : PortId) (l : List Nat) : (setPending p l s).tight n k ↔ s.tight n k := .rfl
@[simp] theorem leavePending_tight (r : RecallRecord) : (leavePending r s).tight n k ↔ s.tight n k := .rfl
@[simp] theorem scrubIdle_tight : (scrubIdle s).tight n k ↔ s.tight n k := .rfl
@[simp] theorem quarantineFrame_tight (f : Nat) (c : QuarantineCause) : (quarantineFrame f c s).tight n k ↔ s.tight n k := .rfl
@[simp] theorem leaveRetry_tight (p : PortId) (tag : Nat) : (leaveRetry p tag s).tight n k ↔ s.tight n k := .rfl
@[simp] theorem requestMiso_tight (i : Nat) : (requestMiso i s).tight n k ↔ s.tight n k := .rfl
@[simp] theorem takeResultTransaction_tight (i : Nat) : (takeResultTransaction i s).tight n k ↔ s.tight n k := .rfl
@[simp] theorem handPortRequest_tight (r : PortRequest) : (handPortRequest r s).tight n k ↔ s.tight n k := .rfl

variable {s}

theorem joinRetry_tight (h : s.tight n k) (p : PortId) (tag : Nat) : (joinRetry p tag s).tight n k := by
  obtain ⟨l, hl⟩ := joinRetry_only_retry p tag s
  rw [hl]
  exact h

@[simp] theorem placeResult_tight (h : s.tight n k) (st : MgmtStatus) (data : List Byte) : (placeResult st data s).tight n k := by
  unfold placeResult
  split <;> exact h

@[simp] theorem answerSlot_tight (h : s.tight n k) (st : MgmtStatus) (data : List Byte) : (answerSlot st data s).tight n k :=
  placeResult_tight (by exact h) st data

@[simp] theorem takeScrub_tight (h : s.tight n k) : (takeScrub s).tight n k := by
  unfold takeScrub
  split
  · exact h
  · split <;> exact h

@[simp] theorem joinScrub_tight (h : s.tight n k) (f : Nat) : (joinScrub f s).tight n k := takeScrub_tight (by exact h)

/-! ### Link Ports -/

@[simp] theorem handOver_tight (h : s.tight n k) (p : PortId) (c : Completion) : (handOver p c s).tight n k := by
  unfold handOver
  split
  · exact State.setLink_tight h (Tight.notices h p)
  · exact h

@[simp] theorem returnCredits_tight (h : s.tight n k) (p : PortId) : (returnCredits p s).tight n k := by
  unfold returnCredits
  dsimp only
  split
  · exact State.setLink_tight h (Tight.notices h p)
  · exact h

@[simp] theorem takeCommand_tight (h : s.tight n k) (p : PortId) : (takeCommand p s).tight n k :=
  State.setLink_tight (s := s) (p := p) (x := { s.link p with
    commands := (s.link p).commands.tail, commandReturns := (s.link p).commandReturns + 1 }) h (Tight.notices h p)

@[simp] theorem refuseCommand_tight (h : s.tight n k) (p : PortId) (tag : Nat) (st : Status) : (refuseCommand p tag st s).tight n k :=
  handOver_tight (takeCommand_tight h p) _ _

theorem appendNotice_tight (h : s.tight n k) {p : PortId} (hroom : (s.link p).notices.length < Config.noticeQueueSize) (x : Notice) :
    (appendNotice p x s).tight n k := State.setLink_tight h (by simpa using hroom)

theorem State.noticeRoom_length {p : PortId} (h : s.noticeRoom p = true) : (s.link p).notices.length < Config.noticeQueueSize := by
  simp only [State.noticeRoom, Bool.and_eq_true, decide_eq_true_eq] at h
  exact h.2

@[simp] theorem removeNotice_tight (h : s.tight n k) (p : PortId) (f : Notice → Bool) : (removeNotice p f s).tight n k :=
  State.setLink_tight h (Nat.le_trans (List.length_filter_le _ _) (Tight.notices h p))

/-! ### Recall records -/

@[simp] theorem updateRecall_tight (h : s.tight n k) (rid : Nat) (f : RecallRecord → RecallRecord) :
    (updateRecall rid f s).tight n k := State.setRecalls_tight h (by simpa using Tight.table h)

@[simp] theorem fillPending_tight (h : s.tight n k) (p : PortId) : (fillPending p s).tight n k := by
  unfold fillPending
  split
  · exact h
  · split
    · next hroom =>
      dsimp only
      split
      · exact h
      · exact updateRecall_tight (appendNotice_tight (by exact h) (State.noticeRoom_length hroom) _) _ _
    · exact h

theorem fillPendingTimes_tight (p : PortId) (i : Nat) (s : State) (h : s.tight n k) : (fillPendingTimes p i s).tight n k := by
  induction i generalizing s with
  | zero => exact h
  | succ i ih => exact ih _ (fillPending_tight h p)

@[simp] theorem fillAllPending_tight (h : s.tight n k) : (fillAllPending s).tight n k :=
  List.foldlRecOn (motive := fun u : State => u.tight n k) ports _ h fun _ hu p _ => fillPendingTimes_tight p _ _ hu

@[simp] theorem removeNoticeAndFill_tight (h : s.tight n k) (p : PortId) (f : Notice → Bool) :
    (removeNoticeAndFill p f s).tight n k := by
  unfold removeNoticeAndFill
  split
  · exact fillPending_tight (removeNotice_tight h p f) p
  · exact h

@[simp] theorem reportComplete_tight (h : s.tight n k) (rid : Nat) : (reportComplete rid s).tight n k := by
  unfold reportComplete
  split <;> exact h

@[simp] theorem drainCheck_tight (h : s.tight n k) (rid : Nat) : (drainCheck rid s).tight n k := by
  unfold drainCheck
  (repeat' split) <;> simp [h]

@[simp] theorem drainReport_tight (h : s.tight n k) (p : PortId) (f : Nat) : (drainReport p f s).tight n k := by
  unfold drainReport
  split <;> simp [h]

@[simp] theorem unmapPerformed_tight (h : s.tight n k) (rid : Nat) : (unmapPerformed rid s).tight n k := by
  simp [unmapPerformed, h]

@[simp] theorem holderMayComplete_tight (h : s.tight n k) (f : Nat) : (holderMayComplete f s).tight n k := by
  unfold holderMayComplete
  (repeat' split) <;> simp [h]

@[simp] theorem removeReader_tight (h : s.tight n k) (f : Nat) (p : PortId) : (removeReader f p s).tight n k := by
  unfold removeReader
  dsimp only
  (repeat' split) <;> simp [h]

end

/-! ### Map writes (R28) -/

section
variable {m : MapUnit}

theorem supersedeRepair_length_le (p : PortId) (hpn i : Nat) (m : MapUnit) :
    (supersedeRepair p hpn i m).queue.length ≤ m.queue.length ∧ (supersedeRepair p hpn i m).waiting.length ≤ m.waiting.length := by
  unfold supersedeRepair
  split
  · exact ⟨List.length_filter_le _ _, List.length_filter_le _ _⟩
  · exact ⟨Nat.le_refl _, Nat.le_refl _⟩

theorem arriveWrite_length_le (w : MapWrite) (m : MapUnit) :
    (arriveWrite w m).queue.length ≤ m.queue.length + 1 ∧ (arriveWrite w m).waiting.length ≤ m.waiting.length := by
  unfold arriveWrite
  dsimp only
  split
  · simp
  · have hle := supersedeRepair_length_le w.port w.hpn m.arrivals
      { m with queue := m.queue ++ [{ write := w, arrival := m.arrivals }], arrivals := m.arrivals + 1 }
    simpa using hle

theorem drainWaiting_queue_le (i : Nat) (m : MapUnit) (h : m.queue.length ≤ Config.mapWriteQueueSize) :
    (drainWaiting i m).queue.length ≤ Config.mapWriteQueueSize := by
  induction i generalizing m with
  | zero => exact h
  | succ i ih =>
    unfold drainWaiting
    split
    · exact h
    · next w ws _ =>
      split
      · next hroom => exact ih _ (Nat.le_trans (arriveWrite_length_le w { m with waiting := ws }).1 hroom)
      · exact h

theorem drainWaiting_waits (i : Nat) (m : MapUnit) (h : m.waiting.length ≤ i) :
    (drainWaiting i m).waiting = [] ∨ Config.mapWriteQueueSize ≤ (drainWaiting i m).queue.length := by
  induction i generalizing m with
  | zero => exact .inl (List.length_eq_zero_iff.1 (Nat.le_zero.1 h))
  | succ i ih =>
    unfold drainWaiting
    split
    · next hnil => exact .inl hnil
    · next w ws hws =>
      rw [hws, List.length_cons] at h
      split
      · exact ih _ (Nat.le_trans (arriveWrite_length_le w { m with waiting := ws }).2 (Nat.le_of_succ_le_succ h))
      · next hfull => exact .inr (Nat.le_of_not_lt hfull)

theorem drained_repairs_length (m : MapUnit) : m.drained.repairs.length = m.repairs.length :=
  m.drained_arrived.repairs.length_eq.symm

end

section
variable {n k : Nat} {s : State}

/-- The waiting writes that find a place arrive, and then writes wait only while the queue is full. -/
theorem drained_tight (h : s.tight n k) {x : MapUnit} (hqueue : x.queue.length ≤ Config.mapWriteQueueSize)
    (hload : x.reads.length + x.repairs.length ≤ s.walker.walks.length) (k' : Nat) : (s.setMapUnit x.drained).tight n k' := by
  refine State.setMapUnit_tight h (drainWaiting_queue_le _ x hqueue) ?_ ?_
  · exact (drainWaiting_waits _ x (Nat.le_refl _)).imp_right fun hfull => Nat.le_trans hfull (Nat.le_add_right _ _)
  · rw [x.drained_arrived.reads, drained_repairs_length]
    exact hload

@[simp] theorem askWrite_tight (h : s.tight n k) (w : MapWrite) : (askWrite w s).tight n k :=
  drained_tight (x := { s.mapUnit with waiting := s.mapUnit.waiting ++ [w] }) h (Tight.writes h) (Tight.load h) k

@[simp] theorem startUnmap_tight (h : s.tight n k) (r : RecallRecord) : (startUnmap r s).tight n k := by simp [startUnmap, h]

/-- A record more. -/
theorem createRecall_tight (h : s.tight n k) (f : Nat) (i : MapItem) (reason : RecallReason) (notify : Bool)
    (origin : Option (PortId × Nat)) : (createRecall f i reason notify origin s).tight (n + 1) k := by
  have hmore : ∀ x : RecallUnit, x.table.length = s.recalls.table.length + 1 → (s.setRecalls x).tight (n + 1) k := fun x hx =>
    State.setRecalls_tight h (by have := Tight.table h; omega)
  unfold createRecall
  dsimp only
  split
  · exact askWrite_tight (hmore _ (by simp)) _
  · split
    · next hroom => exact appendNotice_tight (hmore _ (by simp)) (State.noticeRoom_length (by exact hroom)) _
    · exact (setPending_tight ..).2 (hmore _ (by simp))

theorem recallItem_tight (h : s.tight n k) (f : Nat) (i : MapItem) (reason : RecallReason) (notify : Bool)
    (origin : Option (PortId × Nat)) : (recallItem f i reason notify origin s).tight (n + 1) k :=
  createRecall_tight (by exact h) _ _ _ _ _

theorem createRecalls_tight (f : Nat) (why : MapItem → RecallReason × Bool) (is : List MapItem) (n : Nat) (s : State) (h : s.tight n k) :
    (is.foldl (fun s i => createRecall f i (why i).1 (why i).2 none s) s).tight (n + is.length) k := by
  induction is generalizing n s with
  | nil => exact h
  | cons i is ih =>
    have hall := ih (n + 1) _ (createRecall_tight h f i (why i).1 (why i).2 none)
    rw [List.length_cons, Nat.add_comm is.length 1, ← Nat.add_assoc]
    exact hall

@[simp] theorem recallsAtTeardown_tight (h : s.tight n k) (p : PortId) : (recallsAtTeardown p s).tight n k :=
  List.foldlRecOn (motive := fun u : State => u.tight n k) _ _ h fun _ hu r _ => startUnmap_tight ((leavePending_tight ..).2 hu) r

@[simp] theorem forceRecall_tight (h : s.tight n k) (r : RecallRecord) : (forceRecall r s).tight n k := by
  unfold forceRecall
  dsimp only
  split <;> simp [h]

/-! ### Offers, claims and frames -/

/-- Offers leave the table. -/
theorem offersLeft_tight (h : s.tight n k) (keep : Offer → Bool) :
    (s.setEngine { s.engine with offers := s.engine.offers.filter keep }).tight n k :=
  State.setEngine_tight h (Tight.claims h) (Nat.le_trans (List.length_filter_le _ _) (Tight.offers h))

@[simp] theorem resolveOffer_tight (h : s.tight n k) (o : Offer) (st : Status) : (resolveOffer o st s).tight n k :=
  handOver_tight (offersLeft_tight h fun o' => !(o'.grantId == o.grantId)) _ _

@[simp] theorem informTarget_tight (h : s.tight n k) (fill : Bool) (o : Offer) (cause : WithdrawnCause) :
    (informTarget fill o cause s).tight n k := by
  unfold informTarget
  split
  · split
    · next hroom => exact appendNotice_tight h (State.noticeRoom_length hroom) _
    · exact h
  · split <;> simp [h]

@[simp] theorem withdrawOffer_tight (h : s.tight n k) (fill : Bool) (o : Offer) : (withdrawOffer fill o s).tight n k :=
  informTarget_tight (resolveOffer_tight h o _) _ _ _

@[simp] theorem withdrawFrameOffers_tight (h : s.tight n k) (f : Nat) : (withdrawFrameOffers f s).tight n k :=
  List.foldlRecOn (motive := fun u : State => u.tight n k) _ _ h fun _ hu o _ => withdrawOffer_tight hu true o

@[simp] theorem teardownOffer_tight (h : s.tight n k) (p : PortId) (fill : Bool) (o : Offer) :
    (teardownOffer p fill s o).tight n k := by
  unfold teardownOffer
  split <;> simp [h]

@[simp] theorem takeUpOffer_tight (h : s.tight n k) (o : Offer) : (takeUpOffer o s).tight n k :=
  removeNoticeAndFill_tight (offersLeft_tight h fun o' => !(o'.grantId == o.grantId)) _ _

theorem enterRecalling_tight (h : s.tight n k) (f : Nat) (leave : LeaveReason) (b : Bool)
    (why : MapItem → RecallReason × Bool) : (enterRecalling f leave b why s).tight (n + (s.record f).activeItems.length) k :=
  withdrawFrameOffers_tight (createRecalls_tight f why (s.record f).activeItems n _ (by exact h)) f

@[simp] theorem grantClaim_tight (h : s.tight n k) (p : PortId) (tag hpn i : Nat) : (grantClaim p tag hpn i s).tight n k := by
  unfold grantClaim
  dsimp only
  refine List.foldlRecOn (motive := fun u : State => u.tight n k) _ _ ?_ fun _ hu _ _ => askWrite_tight hu _
  exact List.foldlRecOn (motive := fun u : State => u.tight n k) _ _ (by exact h) fun _ hu _ _ => by exact hu

theorem examineClaims_tight (cs : List ParkedClaim) (s : State) (h : s.tight n k) (hcs : cs.length ≤ Config.claimQueueSize) :
    (examineClaims cs s).tight n k := by
  have hset : ∀ l : List ParkedClaim, l.length ≤ Config.claimQueueSize → (s.setEngine { s.engine with claims := l }).tight n k :=
    fun l hl => State.setEngine_tight h hl (Tight.offers h)
  induction cs generalizing s with
  | nil => exact hset [] (Nat.zero_le _)
  | cons c rest ih =>
    have hrest : rest.length ≤ Config.claimQueueSize := Nat.le_trans (Nat.le_succ _) hcs
    have hnext : ∀ u : State, u.tight n k → (examineClaims rest u).tight n k := fun u hu =>
      ih u hu hrest fun l hl => State.setEngine_tight hu hl (Tight.offers hu)
    unfold examineClaims
    dsimp only
    split
    · exact hset _ hcs
    · split
      · exact hnext _ (handOver_tight (hset _ hrest) _ _)
      · exact hnext _ (grantClaim_tight (hset _ hrest) _ _ _ _)

@[simp] theorem examineHead_tight (h : s.tight n k) : (examineHead s).tight n k := examineClaims_tight _ s h (Tight.claims h)

@[simp] theorem removeClaims_tight (h : s.tight n k) (gone : ParkedClaim → Bool) : (removeClaims gone s).tight n k := by
  have hset : (s.setEngine { s.engine with claims := s.engine.claims.filter fun c => !gone c }).tight n k :=
    State.setEngine_tight h (Nat.le_trans (List.length_filter_le _ _) (Tight.claims h)) (Tight.offers h)
  unfold removeClaims
  dsimp only
  split
  · exact examineHead_tight hset
  · exact hset

@[simp] theorem markDamaged_tight (h : s.tight n k) (f : Nat) : (markDamaged f s).tight n k := by
  unfold markDamaged
  dsimp only
  split <;> exact h

@[simp] theorem countCorrectable_tight (h : s.tight n k) (f : Nat) : (countCorrectable f s).tight n k := by
  unfold countCorrectable
  dsimp only
  split
  · exact markDamaged_tight (by exact h) f
  · exact h

@[simp] theorem exitRecalling_tight (h : s.tight n k) (f : Nat) : (exitRecalling f s).tight n k := by
  have hlowered : ∀ (p : PortId) (r : FrameRecord), ((s.setRecord f r).setEngine { (s.setRecord f r).engine with
      held := (s.setRecord f r).engine.held.set p ((s.setRecord f r).engine.held.get p - 1) }).tight n k := fun _ _ => h
  unfold exitRecalling
  dsimp only
  (repeat' split) <;> simp [h, hlowered]

@[simp] theorem scrubOutcome_tight (h : s.tight n k) (f : Nat) : (scrubOutcome f s).tight n k := by
  unfold scrubOutcome
  dsimp only
  split
  · exact h
  · exact examineHead_tight (by exact h)

@[simp] theorem takeScrubEnd_tight (h : s.tight n k) (f : Nat) : (takeScrubEnd f s).tight n k := by
  unfold takeScrubEnd
  dsimp only
  refine takeScrub_tight (scrubOutcome_tight ((scrubIdle_tight _).2 ?_) f)
  split
  · exact markDamaged_tight h f
  · exact h

@[simp] theorem takeTeardown_tight (h : s.tight n k) (p : PortId) : (takeTeardown p s).tight n k := by
  unfold takeTeardown
  dsimp only
  refine (setScan_tight _ p (.scanning 1 false)).2 (fillAllPending_tight
    (List.foldlRecOn (motive := fun u : State => u.tight n k) _ _ ?_ fun _ hu o _ => teardownOffer_tight hu p _ o))
  exact removeClaims_tight ((State.useFree_tight s).2 h) _

@[simp] theorem takeReturn_tight (h : s.tight n k) (f : Nat) : (takeReturn f s).tight n k := by
  unfold takeReturn
  dsimp only
  split <;> simp [h]

/-! ### Teardown -/

@[simp] theorem checkTeardownEnd_tight (h : s.tight n k) (p : PortId) : (checkTeardownEnd p s).tight n k := by
  unfold checkTeardownEnd
  dsimp only
  split
  · exact State.setEngine_tight (State.setLink_tight h (by exact Tight.notices h p)) (Tight.claims h) (Tight.offers h)
  · exact h

@[simp] theorem engineTeardownReport_tight (h : s.tight n k) (p : PortId) : (engineTeardownReport p s).tight n k := by
  unfold engineTeardownReport
  split
  · exact checkTeardownEnd_tight (State.setLink_tight h (by exact Tight.notices h p)) p
  · exact h

@[simp] theorem recallTeardownReport_tight (h : s.tight n k) (p : PortId) : (recallTeardownReport p s).tight n k := by
  unfold recallTeardownReport
  split
  · exact checkTeardownEnd_tight (State.setLink_tight h (by exact Tight.notices h p)) p
  · exact h

@[simp] theorem queueTeardownReport_tight (h : s.tight n k) (p : PortId) : (queueTeardownReport p s).tight n k := by
  unfold queueTeardownReport
  split
  · exact checkTeardownEnd_tight (State.setLink_tight h (by exact Tight.notices h p)) p
  · exact h

@[simp] theorem discardRequests_tight (h : s.tight n k) (p : PortId) : (discardRequests p s).tight n k :=
  State.setQueue_tight (s := s) h (Nat.le_trans (List.length_filter_le _ _) (Tight.queues h p))

@[simp] theorem beginTeardown_tight (h : s.tight n k) (p : PortId) (cause : TeardownCause) : (beginTeardown p cause s).tight n k := by
  refine recallTeardownReport_tight (queueTeardownReport_tight (recallsAtTeardown_tight (discardRequests_tight ?_ p) p) p) p
  exact State.setLink_tight (s := s) (x := (s.link p).detached cause) h (Nat.zero_le _)

@[simp] theorem violation_tight (h : s.tight n k) (p : PortId) (kind : Violation) : (violation p kind s).tight n k :=
  beginTeardown_tight (by exact h) p _

@[simp] theorem takeCompletion_tight (h : s.tight n k) (r : RecallRecord) : (takeCompletion r s).tight n k := by
  have hleft : (s.setRecalls { s.recalls with
      table := s.recalls.table.filter fun r' => !(r'.recallId == r.recallId),
      reported := s.recalls.reported.filter fun i => !(i == r.recallId) }).tight n k :=
    State.setRecalls_tight h (Nat.le_trans (List.length_filter_le _ _) (Tight.table h))
  unfold takeCompletion
  dsimp only
  refine engineTeardownReport_tight (recallTeardownReport_tight ((clearWaiting_tight _).2 ?_) _) _
  cases r.role
  case holder =>
    have hexit := exitRecalling_tight hleft r.frame
    split
    · exact handOver_tight hexit _ _
    · exact hexit
  case reader =>
    have hremoved := removeReader_tight hleft r.frame r.port
    split
    · exact handOver_tight hremoved _ _
    · exact hremoved

end

end Sys2Proof.Machine
end

section
/-! Capacities: translation, map accesses, messages, commands, sends and resets. -/

namespace Sys2Proof.Machine

section
variable {n k : Nat} {s : State} {p : PortId} {hpn : Nat}

/-! ### Translation (R36, R40) -/

@[simp] theorem setEntryState_tight (h : s.tight n k) (p : PortId) (tag : Nat) (st : ReqState) : (setEntryState p tag st s).tight n k :=
  State.setQueue_tight h (by rw [List.length_map]; exact Tight.queues h p)

/-- A walk and its read more, where the Walk Queue has room. -/
theorem createWalk_tight (h : s.tight n k) (hroom : s.walker.walks.length < Config.walkQueueSize) (p : PortId) (hpn : Nat) :
    (createWalk p hpn s).tight n k := by
  have t : Tight .. := h
  have hload := t.load
  have hreads : (createWalk p hpn s).mapUnit.reads.length = s.mapUnit.reads.length + 1 := List.length_append
  have hwalks : (createWalk p hpn s).walker.walks.length = s.walker.walks.length + 1 := List.length_append
  refine { t with load := ?_, walks := ?_ }
  · change _ + s.mapUnit.repairs.length ≤ _
    omega
  · omega

theorem translate_tight (h : s.tight n k) (p : PortId) (tag : Nat) : (translate p tag s).tight n k := by
  obtain ⟨ht, -⟩ | ⟨e, pl, -, -, ⟨c, hc, ht⟩ | ⟨-, -, ht⟩ | ⟨-, -, hroom, ht⟩ | ⟨-, -, -, ht⟩⟩ := translate_cases p tag s
  · rwa [ht]
  · rw [ht]
    have hlength := (Translated.moveToFront hc).cacheLength p
    rw [State.setCache_cache_same] at hlength
    exact setEntryState_tight ((leaveRetry_tight ..).2 (State.setCache_tight h (Nat.le_trans hlength (Tight.caches h p)))) _ _ _
  · rw [ht]
    exact setEntryState_tight (by exact h) _ _ _
  · rw [ht]
    exact setEntryState_tight ((leaveRetry_tight ..).2 (createWalk_tight h hroom _ _)) _ _ _
  · rw [ht]
    exact joinRetry_tight h p tag

theorem retryOne_tight (h : s.tight n k) (r : PortId × Nat) : (retryOne s r).tight n k := by
  unfold retryOne
  split
  · split
    · exact translate_tight h _ _
    · exact h
  · exact h

theorem retryAll_tight (h : s.tight n k) : (retryAll s).tight n k :=
  List.foldlRecOn (motive := fun u : State => u.tight n k) _ _ h fun _ hu r _ => retryOne_tight hu r

theorem unbind_tight (h : s.tight n k) (p : PortId) (hpn : Nat) : (unbind p hpn s).tight n k := by
  rw [unbind_eq]
  refine List.foldlRecOn (motive := fun u : State => u.tight n k) _ _ ?_ fun _ hu tag _ => translate_tight hu p tag
  exact List.foldlRecOn (motive := fun u : State => u.tight n k) _ _ h fun _ hu tag _ => setEntryState_tight hu p tag _

theorem handed_notices (l : LinkPort) (cs : List Completion) : (l.handed cs).notices = l.notices := by
  unfold LinkPort.handed
  split <;> rfl

theorem settlePort_tight (h : s.tight n k) (p : PortId) (before : List ReqEntry) : (settlePort p before s).tight n k := by
  rw [settlePort_eq]
  refine State.setLink_tight (State.setQueue_tight h ?_) ?_
  · rw [sweepQueue_length]
    exact Tight.queues h p
  · rw [handed_notices]
    exact Tight.notices h p

theorem settleAll_tight (h : s.tight n k) (s0 : State) : (settleAll s0 s).tight n k :=
  List.foldlRecOn (motive := fun u : State => u.tight n k) ports _ h fun _ hu p _ => settlePort_tight hu p _

/-! ### Walks that read again (R38) and repairs (R33, R34, R35) -/

theorem setStale_tight (h : s.tight n k) (p : PortId) (hpn : Nat) (b : Bool) : (setStale p hpn b s).tight n k :=
  State.setWalker_tight h (by rw [List.length_map]; exact Tight.load h) (by rw [List.length_map]; exact Tight.walks h)

theorem markStale_tight (h : s.tight n k) (p : PortId) (hpn : Nat) : (markStale p hpn s).tight n k := by
  unfold markStale
  split
  · exact setStale_tight h _ _ _
  · exact h

/-- A walk reads again: one that has neither a read nor a repair leaves room for it. -/
theorem walkAgain_tight (h : s.tight n k)
    (hroom : s.mapUnit.reads.length + s.mapUnit.repairs.length < s.walker.walks.length) (p : PortId) (hpn : Nat) :
    (walkAgain p hpn s).tight n k := by
  unfold walkAgain
  split
  · have hstale := setStale_tight h p hpn false
    refine State.setMapUnit_tight hstale (Tight.writes hstale) (Tight.waiting hstale) ?_
    have hwalks : (setStale p hpn false s).walker.walks.length = s.walker.walks.length := List.length_map _
    rw [hwalks, List.length_append, List.length_singleton]
    change s.mapUnit.reads.length + 1 + s.mapUnit.repairs.length ≤ _
    omega
  · exact h

theorem startHeadRepair_tight (h : s.tight n k) : (startHeadRepair s).tight n k := by
  unfold startHeadRepair
  split
  · exact h
  · next r rest hrepairs =>
    have hload := Tight.load h
    rw [hrepairs] at hload
    split
    · exact State.setMapUnit_tight h (Tight.writes h) (Tight.waiting h) hload
    all_goals exact h

theorem startRepair_tight (h : s.tight n k)
    (hroom : s.mapUnit.reads.length + s.mapUnit.repairs.length < s.walker.walks.length) (p : PortId) (hpn : Nat) :
    (startRepair p hpn s).tight n k := by
  refine startHeadRepair_tight (State.setMapUnit_tight h (Tight.writes h) (Tight.waiting h) ?_)
  rw [List.length_append, List.length_singleton]
  exact hroom

/-- A repair of the page is in the list. -/
def MapUnit.hasRepair (m : MapUnit) (p : PortId) (hpn : Nat) : Prop := ∃ r ∈ m.repairs, r.port = p ∧ r.hpn = hpn

theorem endRepair_tight (h : s.tight n k) (hr : s.mapUnit.hasRepair p hpn) (detail : RepairDetail) :
    (endRepair p hpn detail s).tight n k := by
  obtain ⟨r, hmem, hport, hpage⟩ := hr
  have hless : (s.mapUnit.repairs.filter fun r => !(r.port == p && r.hpn == hpn)).length < s.mapUnit.repairs.length :=
    List.length_filter_lt_length_iff_exists.2 ⟨r, hmem, by simp [hport, hpage]⟩
  have hload := Tight.load h
  have hroom : s.mapUnit.reads.length + (s.mapUnit.repairs.filter fun r => !(r.port == p && r.hpn == hpn)).length <
      s.walker.walks.length := by omega
  refine startHeadRepair_tight (walkAgain_tight ?_ hroom p hpn)
  exact State.setMapUnit_tight (s := s) h (Tight.writes h) (Tight.waiting h) (Nat.le_of_lt hroom)

theorem endSuperseded_tight (h : s.tight n k) (w : QueuedWrite) : (endSuperseded w s).tight n k := by
  unfold endSuperseded
  split
  · next hany =>
    obtain ⟨r, hmem, hr⟩ := List.any_eq_true.1 hany
    simp only [Bool.and_eq_true, beq_iff_eq] at hr
    exact endRepair_tight h ⟨r, hmem, hr.1.1, hr.1.2⟩ _
  · exact h

/-! ### Map accesses (R28, R29, R30) -/

theorem enqueue_tight (h : s.tight n k) {c : ChannelId} (hroom : (s.channel c).queue.length < Config.channelQueueSize) (r : Round)
    (a : Access64) : (enqueue c r a s).tight n k := State.setChannel_tight h (by simpa using hroom)

theorem claimWritePerformed_tight (h : s.tight n k) (p : PortId) (tag : Nat) : (claimWritePerformed p tag s).tight n k := by
  unfold claimWritePerformed
  split
  · exact h
  · split
    · exact handOver_tight (by exact h) _ _
    · exact h

theorem reportPerformed_tight (h : s.tight n k) {w : MapWrite} (hr : w.producer = .repair → s.mapUnit.hasRepair w.port w.hpn) :
    (reportPerformed w s).tight n k := by
  unfold reportPerformed
  split
  · exact claimWritePerformed_tight h _ _
  · exact handOver_tight (handOver_tight h _ _) _ _
  · exact unmapPerformed_tight h _
  · next hw => exact endRepair_tight h (hr hw) _

theorem writeTaken_tight (h : s.tight n 0) {round : Round} {w : QueuedWrite}
    (hroom : (s.channel 0).queue.length < Config.channelQueueSize) : (s.writeTaken round w).tight n 1 := by
  refine markStale_tight (unbind_tight (State.setCache_tight ?_ ?_) _ _) _ _
  · refine State.setMapUnit_tight (enqueue_tight h hroom _ _) ?_ ?_ (Tight.load h)
    · exact Nat.le_trans (List.length_tail ▸ Nat.sub_le _ _) (Tight.writes h)
    · refine (Tight.waiting h).imp_right fun hfull => ?_
      change Config.mapWriteQueueSize ≤ s.mapUnit.queue.tail.length + 1
      rw [List.length_tail]
      omega
  · exact Nat.le_trans (List.length_filter_le _ _) (Tight.caches h _)

/-- A performed write: the place that it frees goes to a waiting one. -/
theorem sendMapWrite_tight (h : s.tight n 0) {round : Round} {w : QueuedWrite}
    (hroom : (s.channel 0).queue.length < Config.channelQueueSize)
    (hr : w.write.producer = .repair → s.mapUnit.hasRepair w.write.port w.write.hpn) : (sendMapWrite round w s).tight n 0 := by
  have hrepairs : (s.writeTaken round w).mapUnit.repairs = s.mapUnit.repairs := by
    obtain ⟨rs, i, hm, -⟩ := writeTaken_reads (s := s) (round := round) (w := w)
    rw [hm]
  have htold : (s.writeTold round w).tight n 1 := by
    refine endSuperseded_tight (reportPerformed_tight (writeTaken_tight h hroom) fun hw => ?_) w
    unfold MapUnit.hasRepair
    rw [hrepairs]
    exact hr hw
  rw [sendMapWrite_eq]
  exact drained_tight htold (Tight.writes htold) (Tight.load htold) 0

theorem sendMapRead_tight (h : s.tight n k) (round : Round) (r : MapRead)
    (hroom : (s.channel 0).queue.length < Config.channelQueueSize) : (sendMapRead round r s).tight n k := by
  refine State.setMapUnit_tight (enqueue_tight h hroom _ _) (Tight.writes h) (Tight.waiting h) ?_
  rw [List.length_map]
  exact Tight.load h

/-! ### Map read results (R31, R37, R38) -/

/-- Of distinct walks at most one is of the page. -/
theorem walks_left_length {walks : List Walk} (hnodup : (walks.map fun w => (w.port, w.hpn)).Nodup) (p : PortId) (hpn : Nat) :
    walks.length ≤ (walks.filter fun w => !w.isOf p hpn).length + 1 := by
  have hkeys : (walks.filter fun w => !w.isOf p hpn).map (fun w => (w.port, w.hpn)) =
      (walks.map fun w => (w.port, w.hpn)).erase (p, hpn) := by
    rw [hnodup.erase_eq_filter, List.filter_map]
    refine congrArg _ (List.filter_congr fun w _ => ?_)
    rfl
  have hlength := congrArg List.length hkeys
  have hle := List.le_length_erase (l := walks.map fun w => (w.port, w.hpn)) (a := (p, hpn))
  rw [List.length_map] at hlength hle
  omega

theorem walkDelivered_tight (h : s.tight n k)
    (hroom : s.mapUnit.reads.length + s.mapUnit.repairs.length < s.walker.walks.length)
    (hnodup : (s.walker.walks.map fun w => (w.port, w.hpn)).Nodup) (v : MapValue) : (s.walkDelivered p hpn v).tight n k := by
  have hleft : (s.setWalker { s.walker with walks := s.walker.walks.filter fun w => !w.isOf p hpn }).tight n k := by
    refine State.setWalker_tight h ?_ (Nat.le_trans (List.length_filter_le _ _) (Tight.walks h))
    have := walks_left_length hnodup p hpn
    dsimp only
    omega
  unfold State.walkDelivered
  dsimp only
  split
  · exact hleft
  · split
    · exact State.setQueue_tight hleft (by rw [List.length_map]; exact Tight.queues h p)
    · refine State.setQueue_tight (State.setCache_tight hleft ?_) (by rw [List.length_map]; exact Tight.queues h p)
      exact (install_spec _ _).2.1

theorem takeMapResult_tight (h : s.tight n k)
    (hroom : s.mapUnit.reads.length + s.mapUnit.repairs.length < s.walker.walks.length)
    (hnodup : (s.walker.walks.map fun w => (w.port, w.hpn)).Nodup) (v : Option MapValue) : (takeMapResult p hpn v s).tight n k := by
  unfold takeMapResult
  split
  · exact walkAgain_tight h hroom _ _
  · split
    · exact startRepair_tight h hroom _ _
    · rw [deliverWalk_eq]
      exact retryAll_tight (walkDelivered_tight h hroom hnodup _)

theorem finishSearch_tight (h : s.tight n k) {r : Repair} {rest : List Repair} (hrepairs : s.mapUnit.repairs = r :: rest)
    (v : MapValue) : (finishSearch r rest v s).tight n k := by
  have hload := Tight.load h
  rw [hrepairs] at hload
  have hset : (s.setMapUnit { s.mapUnit with repairs := { r with phase := .writing v } :: rest }).tight n k :=
    State.setMapUnit_tight h (Tight.writes h) (Tight.waiting h) hload
  exact askWrite_tight hset _

/-! ### Messages -/

theorem takeMalformed_tight (h : s.tight n k) (p : PortId) : (takeMalformed p s).tight n k := by
  unfold takeMalformed
  split
  · exact violation_tight h p _
  · exact h

theorem send_tight (h : s.tight n k) (p : PortId) (m : OutMsg) : (send p m s).tight n k :=
  State.setLink_tight h (Tight.notices h p)

theorem openSession_tight (h : s.tight n k) (p : PortId) : (openSession p s).tight n k :=
  send_tight (State.setLink_tight h (Nat.zero_le _)) p _

theorem takeAttach_tight (h : s.tight n k) (p : PortId) : (takeAttach p s).tight n k := by
  unfold takeAttach
  split
  · split
    · exact openSession_tight h p
    · exact send_tight h p _
  · exact violation_tight h p _
  · exact send_tight h p _
  · exact send_tight h p _
  · exact h

theorem takeCredit_tight (h : s.tight n k) (p : PortId) (a b : Nat) (e : Bool) : (takeCredit p a b e s).tight n k := by
  have hadded : (s.setLink p { s.link p with
      completionCredits := (s.link p).completionCredits + a, noticeCredits := (s.link p).noticeCredits + b }).tight n k :=
    State.setLink_tight h (Tight.notices h p)
  unfold takeCredit
  dsimp only
  split
  · exact takeMalformed_tight h p
  · split
    · split
      · exact h
      · exact hadded
    · split
      · exact violation_tight h p _
      · exact hadded
    all_goals exact h

theorem takeRecallAck_tight (h : s.tight n k) (p : PortId) (rid : Nat) (e : Bool) : (takeRecallAck p rid e s).tight n k := by
  unfold takeRecallAck
  split
  · exact takeMalformed_tight h p
  · split
    · split
      · exact startUnmap_tight (removeNoticeAndFill_tight h _ _) _
      · exact h
    · exact h

theorem takeResetPort_tight (h : s.tight n k) (p : PortId) : (takeResetPort p s).tight n k := by
  unfold takeResetPort
  split
  · exact beginTeardown_tight h p _
  · exact h

theorem takePoolCommand_tight (h : s.tight n k) (p : PortId) (tag : Nat) (cmd : PoolCmd) (e : Bool) :
    (takePoolCommand p tag cmd e s).tight n k := by
  unfold takePoolCommand
  dsimp only
  split
  · split
    · exact violation_tight h p _
    · split
      · exact violation_tight h p _
      · split
        · exact violation_tight h p _
        · exact State.setLink_tight h (Tight.notices h p)
  · exact h

theorem acceptRequest_tight (h : s.tight n k) (hroom : (s.queue p).length < Config.requestQueueSize) (tag : Nat) (kind : ReqKind) :
    (acceptRequest p tag kind s).tight n k := by
  have hjoined : (s.queued p (newEntry tag kind)).tight n k := State.setQueue_tight h (by simpa using hroom)
  refine settlePort_tight ?_ p _
  split
  · exact setEntryState_tight hjoined _ _ _
  · exact translate_tight hjoined _ _

/-- A request credit held leaves a place in the Request Queue (R108, R167). -/
theorem State.requestsInOrder.room (h : s.requestsInOrder) (hattached : (s.link p).state = .attached)
    (hcredits : (s.link p).requestCredits ≠ 0) : (s.queue p).length < Config.requestQueueSize := by
  obtain ⟨-, hfits, -, -⟩ := h p
  obtain ⟨-, hsum, -⟩ := hfits hattached
  omega

theorem takeRequest_tight (h : s.tight n k) (hrequests : s.requestsInOrder) (p : PortId) (tag : Nat) (kind : ReqKind) (e : Bool) :
    (takeRequest p tag kind e s).tight n k := by
  unfold takeRequest
  dsimp only
  split
  · next hattached =>
    split
    · exact violation_tight h p _
    · split
      · exact violation_tight h p _
      · next hcredits =>
        split
        · exact violation_tight h p _
        · have htaken : (s.requestTaken p tag).tight n k := State.setLink_tight h (Tight.notices h p)
          exact acceptRequest_tight (s := s.requestTaken p tag) htaken (hrequests.room hattached hcredits) tag kind
  · exact h

theorem takeMessage_tight (h : s.tight n k) (hrequests : s.requestsInOrder) (p : PortId) (m : HostMsg) :
    (takeMessage p m s).tight n k := by
  cases m with
  | attach => exact takeAttach_tight h p
  | credit a b => exact takeCredit_tight h p a b true
  | recallAck rid => exact takeRecallAck_tight h p rid true
  | resetPort => exact takeResetPort_tight h p
  | request tag kind => exact takeRequest_tight h hrequests p tag kind true
  | command tag cmd => exact takePoolCommand_tight h p tag cmd true

end

end Sys2Proof.Machine
end

section
/-! Capacities: pool commands, teardown scans, sends, grants, channels, management and resets. -/

namespace Sys2Proof.Machine

section
variable {n k : Nat} {s : State} {p : PortId} {tag : Nat}

/-! ### Recall records within the table (R87) -/

/-- Every record has at most one ACTIVE item besides its readers'. -/
def State.oneHolder (s : State) : Prop := ∀ f, (s.record f).activeItems.length ≤ 1 + (s.record f).activeReaders.length

/-- Of items with distinct ports of which the HOLDER ones share one port, at most one is a HOLDER's. -/
theorem active_length_le (is : List MapItem) (holder : Option PortId) (hports : (is.map MapItem.port).Nodup)
    (hholder : ∀ i ∈ is, i.role = .holder → holder = some i.port) :
    (is.filter fun i => i.phase == .active).length ≤ 1 + (is.filter fun i => i.phase == .active && i.role == .reader).length := by
  have hsplit : (is.filter fun i => i.phase == .active).length ≤
      (is.filter fun i => i.role == .holder).length + (is.filter fun i => i.phase == .active && i.role == .reader).length := by
    clear hports hholder
    induction is with
    | nil => exact Nat.le_refl _
    | cons i is ih =>
      rcases hphase : i.phase with _ | _ <;> rcases hrole : i.role with _ | _ <;> simp [hphase, hrole] <;> omega
  have hone : (is.filter fun i => i.role == .holder).length ≤ 1 := by
    have hnodup : ((is.filter fun i => i.role == .holder).map MapItem.port).Nodup := hports.sublist (List.filter_sublist.map _)
    have hsame : ∀ i ∈ is.filter fun i => i.role == .holder, holder = some i.port := fun i hi => by
      obtain ⟨hmem, hrole⟩ := List.mem_filter.1 hi
      exact hholder i hmem (by simpa using hrole)
    generalize (is.filter fun i => i.role == .holder) = l at hnodup hsame ⊢
    match l with
    | [] => exact Nat.zero_le _
    | [_] => exact Nat.le_refl _
    | a :: b :: rest =>
      have hab : a.port = b.port := Option.some.inj ((hsame a (by simp)).symm.trans (hsame b (by simp)))
      simp [hab] at hnodup
  omega

theorem State.framesInOrder.oneHolder (h : s.framesInOrder) : s.oneHolder := fun f => by
  obtain ⟨-, -, -, -, hrecords, -⟩ := h
  by_cases hdefault : s.record f = FrameRecord.afterReset f
  · rw [hdefault]
    exact Nat.zero_le _
  · obtain ⟨⟨-, -, hports, hitems⟩, -⟩ := hrecords _ (mem_of_sparseGet_ne hdefault)
    exact active_length_le _ _ hports fun i hi => (hitems i hi).1

/-- As many records as are free may be created. -/
theorem State.tight.room (h : s.tight Config.recallTableSize k) {i : Nat} (hfree : ¬s.freeRecords < i) :
    s.tight (Config.recallTableSize - i) k ∧ Config.recallTableSize - i + i = Config.recallTableSize := by
  have htable := Tight.table h
  unfold State.freeRecords at hfree
  refine ⟨h.exact (by omega), by omega⟩

theorem recallItem_room (h : s.tight Config.recallTableSize k) (hfree : ¬s.freeRecords < 1) (f : Nat) (i : MapItem)
    (reason : RecallReason) (notify : Bool) (origin : Option (PortId × Nat)) :
    (recallItem f i reason notify origin s).tight Config.recallTableSize k := by
  obtain ⟨hroom, hsum⟩ := h.room hfree
  exact hsum ▸ recallItem_tight hroom f i reason notify origin

theorem enterRecalling_room (h : s.tight Config.recallTableSize k) {i : Nat} (hfree : ¬s.freeRecords < i) {f : Nat}
    (hi : (s.record f).activeItems.length ≤ i) (leave : LeaveReason) (b : Bool) (why : MapItem → RecallReason × Bool) :
    (enterRecalling f leave b why s).tight Config.recallTableSize k := by
  obtain ⟨hroom, hsum⟩ := h.room hfree
  exact (enterRecalling_tight hroom f leave b why).mono (by omega)

/-! ### Pool commands -/

theorem parkClaim_tight (h : s.tight n k) (hroom : s.engine.claims.length < Config.claimQueueSize) (p : PortId) (tag hpn i : Nat) :
    (parkClaim p tag hpn i s).tight n k := State.setEngine_tight h (by simpa using hroom) (Tight.offers h)

theorem examineClaim_tight (h : s.tight n k) (p : PortId) (tag hpn i : Nat) : (examineClaim p tag hpn i s).tight n k := by
  have htaken := takeCommand_tight h p
  unfold examineClaim
  split
  · exact refuseCommand_tight h _ _ _
  · split
    · exact grantClaim_tight htaken _ _ _ _
    · split
      · exact refuseCommand_tight h _ _ _
      · split
        · exact refuseCommand_tight h _ _ _
        · next hfull => exact parkClaim_tight htaken (by exact Nat.lt_of_not_le hfull) _ _ _ _

theorem examineRelease_tight (h : s.tight Config.recallTableSize k) (hone : s.oneHolder) (p : PortId) (tag hpn : Nat) :
    (examineRelease p tag hpn s).tight Config.recallTableSize k := by
  unfold examineRelease
  split
  · exact refuseCommand_tight h _ _ _
  · split
    · exact refuseCommand_tight h _ _ _
    · split
      · exact h
      · next f i _ _ hfree => exact enterRecalling_room (takeCommand_tight h p) (by exact hfree) (by exact hone f) _ _ _

theorem examineDrop_tight (h : s.tight Config.recallTableSize k) (p : PortId) (tag hpn : Nat) :
    (examineDrop p tag hpn s).tight Config.recallTableSize k := by
  unfold examineDrop
  split
  · exact refuseCommand_tight h _ _ _
  · split
    · exact refuseCommand_tight h _ _ _
    · split
      · exact h
      · next hfree => exact recallItem_room (takeCommand_tight h p) (by exact hfree) _ _ _ _ _

theorem makeOffer_tight (h : s.tight n k) (hoffers : s.engine.offers.length < Config.offerTableSize) {t : PortId}
    (hroom : (s.link t).notices.length < Config.noticeQueueSize) (p : PortId) (tag hpn f : Nat) (a : Access) :
    (makeOffer p tag hpn f t a s).tight n k := by
  unfold makeOffer
  dsimp only
  refine appendNotice_tight (State.setEngine_tight h ?_ ?_) (by exact hroom) _
  · exact Tight.claims h
  · simpa using hoffers

theorem examineGrant_tight (h : s.tight n k) (p : PortId) (tag hpn target : Nat) (a : Access) :
    (examineGrant p tag hpn target a s).tight n k := by
  unfold examineGrant
  split
  · exact refuseCommand_tight h _ _ _
  · split
    · exact refuseCommand_tight h _ _ _
    · split
      · exact refuseCommand_tight h _ _ _
      · next t _ =>
        split
        · exact refuseCommand_tight h _ _ _
        · split
          · exact refuseCommand_tight h _ _ _
          · split
            · exact refuseCommand_tight h _ _ _
            · next hfull =>
              obtain ⟨hoffers, hnotices⟩ := not_or.1 hfull
              refine makeOffer_tight (takeCommand_tight h p) (Nat.lt_of_not_le hoffers) ?_ _ _ _ _ _
              have hsame : ((takeCommand p s).link t).notices = (s.link t).notices := State.commandTaken_notices s p t
              rw [hsame]
              exact Nat.lt_of_not_le hnotices

theorem examineAccept_tight (h : s.tight n k) (p : PortId) (tag gid hpn : Nat) : (examineAccept p tag gid hpn s).tight n k := by
  unfold examineAccept
  split
  · exact refuseCommand_tight h _ _ _
  · split
    · exact refuseCommand_tight h _ _ _
    · split
      · exact refuseCommand_tight h _ _ _
      · exact askWrite_tight (takeUpOffer_tight (by exact takeCommand_tight h p) _) _

theorem examineDecline_tight (h : s.tight n k) (p : PortId) (tag gid : Nat) : (examineDecline p tag gid s).tight n k := by
  unfold examineDecline
  split
  · exact refuseCommand_tight h _ _ _
  · exact handOver_tight (handOver_tight (takeUpOffer_tight (takeCommand_tight h p) _) _ _) _ _

theorem examineRevoke_tight (h : s.tight Config.recallTableSize k) (p : PortId) (tag hpn target : Nat) :
    (examineRevoke p tag hpn target s).tight Config.recallTableSize k := by
  unfold examineRevoke revokeFrom
  split
  · exact refuseCommand_tight h _ _ _
  · split
    · exact refuseCommand_tight h _ _ _
    · split
      · exact refuseCommand_tight h _ _ _
      · split
        · split
          · exact refuseCommand_tight h _ _ _
          · split
            · exact h
            · next hfree => exact recallItem_room (takeCommand_tight h p) (by exact hfree) _ _ _ _ _
        · split
          · exact handOver_tight (withdrawOffer_tight (takeCommand_tight h p) _ _) _ _
          · exact refuseCommand_tight h _ _ _

theorem serveCommand_tight {f : State → State} (hf : (f (movePointer (sourceOf p) s)).tight n k) : (serveCommand p f s).tight n k :=
  returnCredits_tight hf p

/-! ### Teardown scans, evictions and quarantine -/

theorem scanPast_tight (h : s.tight n k) (p : PortId) (f : Nat) : (scanPast p f s).tight n k := by
  unfold scanPast
  split
  · exact h
  · exact engineTeardownReport_tight (by exact h) p

theorem scanFrame_tight (h : s.tight Config.recallTableSize k) (hone : s.oneHolder) (p : PortId) (f : Nat) (i : MapItem) :
    (scanFrame p f i s).tight Config.recallTableSize k := by
  unfold scanFrame
  cases i.role
  case reader =>
    dsimp only
    split
    · exact h
    · next hfree => exact scanPast_tight (recallItem_room h hfree _ _ _ _ _) p f
  case holder =>
    dsimp only
    split
    · exact h
    · next hfree => exact scanPast_tight (enterRecalling_room h hfree (hone f) _ _ _) p f

theorem scanTurn_tight (h : s.tight Config.recallTableSize k) (hone : s.oneHolder) (p : PortId) (i : Nat) :
    (scanTurn p i s).tight Config.recallTableSize k := by
  unfold scanTurn
  dsimp only
  split
  · exact scanFrame_tight h hone p _ _
  · exact engineTeardownReport_tight (by exact h) p

theorem evictFrame_tight (h : s.tight Config.recallTableSize k) (f : Nat) (b : Bool) :
    (evictFrame f b s).tight Config.recallTableSize k := by
  unfold evictFrame
  split
  · exact answerSlot_tight h _ _
  · next hfree =>
    have hengine : ∀ u : State, u.recalls = s.recalls → ¬u.freeRecords < (s.record f).activeItems.length := fun u hu => by
      unfold State.freeRecords
      rw [hu]
      exact hfree
    have hrecalls : (answerSlot .ok [] s).recalls = s.recalls :=
      Block.same_of_outside (b := .recalls) (bs := [.engine, .mgmt]) (answerSlot_outside s (by simp) (by simp) _ _) (by simp)
    have hrecord : (answerSlot .ok [] s).record f = s.record f := by
      unfold answerSlot placeResult
      split <;> rfl
    exact enterRecalling_room (answerSlot_tight h _ _) (hengine _ hrecalls) (by rw [hrecord]) _ _ _

theorem takeEvict_tight (h : s.tight Config.recallTableSize k) (f : Nat) : (takeEvict f s).tight Config.recallTableSize k := by
  unfold takeEvict
  split
  · exact evictFrame_tight h f _
  · exact evictFrame_tight h f _
  all_goals exact answerSlot_tight h _ _

theorem takeQuarantine_tight (h : s.tight Config.recallTableSize k) (f : Nat) : (takeQuarantine f s).tight Config.recallTableSize k := by
  unfold takeQuarantine abortScrub
  split
  · exact answerSlot_tight (by exact h) _ _
  · split
    · exact takeScrub_tight (answerSlot_tight h _ _)
    · exact answerSlot_tight (by exact h) _ _
  · exact evictFrame_tight h f _
  · exact evictFrame_tight h f _
  all_goals exact answerSlot_tight (by exact h) _ _

/-! ### Sends (R169, R171) -/

theorem retire_tight (h : s.tight n k) (p : PortId) (tag : Nat) : (retire p tag s).tight n k :=
  State.setLink_tight (State.setQueue_tight h (Nat.le_trans (List.length_filter_le _ _) (Tight.queues h p))) (Tight.notices h p)

theorem sendCompletion_tight (h : s.tight n k) (p : PortId) (c : Completion) (rest : List Completion) :
    (sendCompletion p c rest s).tight n k := by
  have hgone : (s.completionGone p c rest).tight n k := State.setLink_tight h (Tight.notices h p)
  unfold sendCompletion
  dsimp only
  split
  · exact hgone
  · exact returnCredits_tight (retire_tight hgone _ _) p
  · exact beginTeardown_tight (retire_tight hgone _ _) p _

theorem sendNotice_tight (h : s.tight n k) {x : Notice} {rest : List Notice} (hnotices : (s.link p).notices = x :: rest) :
    (sendNotice p x rest s).tight n k := by
  have hle := Tight.notices h p
  change (s.link p).notices.length ≤ _ at hle
  rw [hnotices] at hle
  have hsent : (s.setLink p { s.link p with
      notices := rest, noticeCredits := (s.link p).noticeCredits - 1, sent := (s.link p).sent ++ [.notice x] }).tight n k :=
    State.setLink_tight h (Nat.le_trans (Nat.le_succ _) hle)
  refine fillPending_tight ?_ p
  cases x with
  | recallNotice rid _ _ => exact updateRecall_tight hsent _ _
  | offer gid _ _ _ =>
    refine State.setEngine_tight hsent (Tight.claims hsent) ?_
    rw [List.length_map]
    exact Tight.offers hsent
  | withdrawn => exact hsent

/-! ### Grants, scrubbing and channels -/

theorem State.granted_room {c : ChannelId} {g : Grantee} {r : Round} (h : s.granted c g = some r) :
    (s.channel c).queue.length < Config.channelQueueSize := by
  by_contra hfull
  have harbiter := State.arbiter_of_granted h
  rw [State.arbiter_of_no_place (.inr (.inr (Nat.le_of_not_lt hfull)))] at harbiter
  cases harbiter

theorem Round.pick_scrub {r r' : Round} {has : PortId → Bool} {scrubHas : Bool} (h : r.pick has scrubHas = some (.scrub, r')) :
    scrubHas = true := by
  unfold Round.pick at h
  split at h
  · cases h
  · split at h
    · next hs => exact (Bool.and_eq_true_iff.1 hs).1
    · cases h

theorem State.granted_scrub {c : ChannelId} {r : Round} (h : s.granted c .scrub = some r) : s.scrubHasAccess c = true := by
  have harbiter := State.arbiter_of_granted h
  unfold State.arbiter at harbiter
  dsimp only at harbiter
  split at harbiter
  · cases harbiter
  · split at harbiter
    · cases harbiter
    · split at harbiter
      · split at harbiter
        · next hpick =>
          cases harbiter
          exact Round.pick_scrub hpick
        · exact Round.pick_scrub harbiter
      · split at harbiter
        · next hs => exact hs
        · cases harbiter

theorem State.outstanding_room {c : ChannelId} (h : s.scrubHasAccess c = true) : s.scrub.outstanding < Config.scrubOutstanding := by
  unfold State.scrubHasAccess at h
  split at h
  · cases h
  · simp only [Bool.and_eq_true, decide_eq_true_eq] at h
    exact h.2

theorem sendScrub_tight (h : s.tight n k) {c : ChannelId} {round : Round} (hgranted : s.granted c .scrub = some round) (f : Nat) :
    (sendScrub c round f s).tight n k := by
  have hroom := State.outstanding_room (State.granted_scrub hgranted)
  unfold sendScrub
  dsimp only
  refine State.setScrub_tight (enqueue_tight h (State.granted_room hgranted) _ _) ?_
  split <;> exact hroom

theorem takeScrubResult_outstanding (r : ScrubResult) (x : Scrub) : (takeScrubResult r x).outstanding = x.outstanding - 1 := by
  unfold takeScrubResult
  dsimp only
  split <;> rfl

theorem sendLine_tight (h : s.tight n k) {c : ChannelId} {round : Round} (hgranted : s.granted c (.port p) = some round) :
    (sendLine c p round s).tight n k := by
  unfold sendLine
  split
  · exact h
  · split
    · exact setEntryState_tight (enqueue_tight h (State.granted_room hgranted) _ _) _ _ _
    · exact h

theorem endMapClear_tight (h : s.tight n k) : (endMapClear s).tight n k := takeScrub_tight (by exact h)

theorem completeAccess_tight (h : s.tight n k) (c : ChannelId) (i : Nat) : (completeAccess c i s).tight n k :=
  State.setChannel_tight h (Nat.le_trans (List.length_eraseIdx_le _ _) (Tight.channels h c))

theorem handResult_tight (h : s.tight n k) (a : Access64) (o : AccessOutcome) : (handResult a o s).tight n k := by
  unfold handResult
  split <;> exact h

theorem reportCorrectable_tight (h : s.tight n k) (a : Access64) : (reportCorrectable a s).tight n k := by
  unfold reportCorrectable
  split <;> exact h

theorem reportUncorrectable_tight (h : s.tight n k) (a : Access64) : (reportUncorrectable a s).tight n k := by
  unfold reportUncorrectable
  dsimp only
  split <;> exact h

theorem readAccess_tight (h : s.tight n k) (a : Access64) (e : EccCondition) (store : List Byte → Option (List Byte))
    (outcome : List Byte → AccessOutcome) : (readAccess a e store outcome s).tight n k := by
  have haccess : (readAccess.access a store outcome s).tight n k := by
    unfold readAccess.access
    dsimp only
    split <;> exact handResult_tight (by exact h) _ _
  unfold readAccess
  split
  · exact handResult_tight (reportUncorrectable_tight h _) _ _
  · exact haccess
  · exact reportCorrectable_tight haccess _

/-! ### Line results -/

theorem leaveIssued_tight (h : s.tight n k) (p : PortId) (tag f : Nat) (got : Gathered) : (leaveIssued p tag f got s).tight n k := by
  unfold leaveIssued
  split
  · exact queueTeardownReport_tight (drainReport_tight
      (State.setQueue_tight h (Nat.le_trans (List.length_filter_le _ _) (Tight.queues h p))) _ _) _
  · exact drainReport_tight (settlePort_tight (setEntryState_tight h _ _ _) _ _) _ _

theorem takeLineResult_tight (h : s.tight n k) (p : PortId) (r : LineResult) : (takeLineResult p r s).tight n k := by
  unfold takeLineResult
  split
  · exact h
  · split
    · dsimp only
      split
      · exact setEntryState_tight h _ _ _
      · exact leaveIssued_tight h _ _ _ _
    · exact h

/-! ### Management (R180, R189) and resets -/

theorem appendFault_length (i : FaultInfo) (m : Mgmt) (h : m.log.length ≤ Config.faultLogSize) :
    (appendFault i m).log.length ≤ Config.faultLogSize := by
  unfold appendFault
  dsimp only
  have hsize : 0 < Config.faultLogSize := by decide
  split
  · simpa using ‹_›
  · simp only [List.length_append, List.length_tail, List.length_singleton]
    omega

theorem answerPort_tight (h : s.tight n k) (st : MgmtStatus) : (answerPort st s).tight n k := placeResult_tight (by exact h) _ _

theorem writeSetting_tight (h : s.tight n k) (x : Settings) : (writeSetting x s).tight n k := placeResult_tight (by exact h) _ _

theorem readLog_tight (h : s.tight n k) : (readLog s).tight n k := by
  unfold readLog
  split
  · exact placeResult_tight h _ _
  · next r rest hlog =>
    have hle := Tight.log h
    rw [hlog] at hle
    exact placeResult_tight (State.setMgmt_tight h (Nat.le_trans (Nat.le_succ _) hle)) _ _

theorem resetBlocks_tight (pop : Population) (startUp : Bool) (s : State) (hlog : s.mgmt.log.length ≤ Config.faultLogSize) :
    (resetBlocks pop startUp s).tight n 0 where
  table := Nat.zero_le _
  claims := Nat.zero_le _
  offers := Nat.zero_le _
  writes := Nat.zero_le _
  waiting := .inl rfl
  load := Nat.le_refl _
  walks := Nat.zero_le _
  notices p := by
    change ((resetBlocks pop startUp s).link p).notices.length ≤ _
    rw [resetBlocks_link]
    exact Nat.zero_le _
  queues p := by
    change ((resetBlocks pop startUp s).queue p).length ≤ _
    rw [resetBlocks_queue]
    exact Nat.zero_le _
  caches p := by
    change ((resetBlocks pop startUp s).cache p).length ≤ _
    rw [resetBlocks_cache]
    exact Nat.zero_le _
  channels c := by
    change ((resetBlocks pop startUp s).channel c).queue.length ≤ _
    rw [resetBlocks_channel]
    exact Nat.zero_le _
  outstanding := Nat.zero_le _
  log := hlog

theorem chipReset_tight (s : State) (hlog : s.mgmt.log.length ≤ Config.faultLogSize) : (chipReset s).tight n 0 := by
  have hmgmt : (discardAccesses s).mgmt = s.mgmt :=
    Block.same_of_outside (b := .mgmt) (discardAccesses_outside s (bs := [.dram, .freeCount]) (by simp) (by simp)) (by simp)
  have hreset := resetBlocks_tight (n := n) s.pop true (discardAccesses s) (by rw [hmgmt]; exact hlog)
  unfold chipReset
  dsimp only
  refine placeResult_tight (State.setMgmt_tight hreset ?_) _ _
  exact appendFault_length .chipReset _ (Tight.log hreset)

theorem runRequest_tight (h : s.tight n 0) (r : MgmtReq) : (runRequest r s).tight n 0 := by
  cases r with
  | getPoolStatus | getPortStatus | queryFrame | evict | quarantine | returnFrame => exact h
  | setQuota | setWeight | setTimeout | setThreshold => exact writeSetting_tight h _
  | portDisable | portEnable | portReset => exact h
  | logRead => exact readLog_tight h
  | chipReset => exact chipReset_tight s (Tight.log h)
  | malformed => exact placeResult_tight h _ _

theorem takeMgmtRequest_tight (h : s.tight n 0) (id : Nat) (r : MgmtReq) : (takeMgmtRequest id r s).tight n 0 := by
  unfold takeMgmtRequest
  split
  · exact h
  · dsimp only
    split
    · exact placeResult_tight (by exact h) _ _
    · exact runRequest_tight (by exact h) r

theorem takePortReset_tight (h : s.tight n k) (p : PortId) : (takePortReset p s).tight n k := by
  unfold takePortReset
  split
  · exact beginTeardown_tight (answerPort_tight h _) _ _
  · exact answerPort_tight h _

theorem answeredSetLink_tight (h : s.tight n k) (st : MgmtStatus) (p : PortId) {l : LinkPort} (hl : l.notices = (s.link p).notices) :
    ((answerPort st s).setLink p l).tight n k := State.setLink_tight (answerPort_tight h st) (hl ▸ Tight.notices h p)

theorem takePortDisable_tight (h : s.tight n k) (p : PortId) : (takePortDisable p s).tight n k := by
  have hdisable : ((answerPort .ok s).setLink p { s.link p with disablePending := true }).tight n k :=
    answeredSetLink_tight h .ok p rfl
  unfold takePortDisable
  dsimp only
  split
  · exact beginTeardown_tight hdisable _ _
  · exact hdisable
  · exact answeredSetLink_tight h .ok p rfl
  · exact answeredSetLink_tight h .ok p rfl
  · exact answerPort_tight h .ok

theorem takePortEnable_tight (h : s.tight n k) (p : PortId) : (takePortEnable p s).tight n k := by
  unfold takePortEnable
  dsimp only
  split
  · exact answeredSetLink_tight h .ok p rfl
  · exact answeredSetLink_tight h .ok p rfl
  all_goals exact answerPort_tight h _

end

end Sys2Proof.Machine
end

section
/-! O54, command by command. -/

namespace Sys2Proof.Machine

/-! ### What the premises give -/

section
variable {s : State}

/-- A pending write of a repair has its repair in the list. -/
theorem State.walksInOrder.hasRepair (h : s.walksInOrder) {w : MapWrite} (hw : w ∈ s.pendingWrites) (hp : w.producer = .repair) :
    s.mapUnit.hasRepair w.port w.hpn := by
  obtain ⟨-, -, -, hwrites, -⟩ := h
  have hmem := hwrites.subset (List.mem_map_of_mem (f := fun w : MapWrite => (w.port, w.hpn, w.value))
    (List.mem_filter.2 ⟨hw, by simpa using hp⟩))
  obtain ⟨r, hr, heq⟩ := List.mem_filterMap.1 hmem
  split at heq
  · obtain ⟨hport, hrest⟩ := Prod.mk.inj (Option.some.inj heq)
    exact ⟨r, hr, hport, (Prod.mk.inj hrest).1⟩
  · cases heq

/-- Where a map read's result has arrived, its walk has neither read nor repair besides. -/
theorem State.walksInOrder.room (h : s.walksInOrder) {p : PortId} {hpn : Nat} {r : MapResult}
    (hr : s.flight.mapResults.find? (fun r => r.port == p && r.hpn == hpn) = some r) :
    (s.mapUnit.reads.filter fun r => !(r.port == p && r.hpn == hpn)).length + s.mapUnit.repairs.length <
      s.walker.walks.length := by
  obtain ⟨-, hperm, hissued, -⟩ := h
  have hof : r.port = p ∧ r.hpn = hpn := by simpa using List.find?_some hr
  have hmem : (p, hpn) ∈ s.mapReadsInQueue ++ s.flight.mapResults.map fun r => (r.port, r.hpn) :=
    List.mem_append_right _ (List.mem_map.2 ⟨r, List.mem_of_find?_eq_some hr, by rw [hof.1, hof.2]⟩)
  obtain ⟨x, hx, hkey⟩ := List.mem_map.1 (hissued.mem_iff.2 hmem)
  obtain ⟨hport, hpage⟩ := Prod.mk.inj hkey
  have hless : (s.mapUnit.reads.filter fun r => !(r.port == p && r.hpn == hpn)).length < s.mapUnit.reads.length :=
    List.length_filter_lt_length_iff_exists.2 ⟨x, List.mem_of_mem_filter hx, by simp [hport, hpage]⟩
  have hlength := hperm.length_eq
  rw [List.length_append, List.length_map, List.length_map, List.length_map] at hlength
  omega

theorem State.withinCapacity.tight (h : s.withinCapacity) (hwalks : s.walksInOrder) : s.tight Config.recallTableSize 0 := by
  obtain ⟨htable, hports, -, -, hclaims, hoffers, hwrites, hwaiting, hwalk, hcaches, hnotices, hchannels, houtstanding, hlog⟩ := h
  obtain ⟨-, hperm, -⟩ := hwalks
  have hlength := hperm.length_eq
  rw [List.length_append, List.length_map, List.length_map, List.length_map] at hlength
  exact ⟨htable, hclaims, hoffers, hwrites, hwaiting, Nat.le_of_eq hlength, hwalk, hnotices, fun p => (hports p).1, hcaches, hchannels,
    houtstanding, hlog⟩

theorem State.tight.withinCapacity (h : s.tight Config.recallTableSize 0) (hsessions : s.sessionsInOrder) : s.withinCapacity := by
  obtain ⟨htable, hclaims, hoffers, hwrites, hwaiting, hload, hwalk, hnotices, hqueues, hcaches, hchannels, houtstanding, hlog⟩ := h
  refine ⟨htable, fun p => ⟨hqueues p, ?_⟩, by omega, by omega, hclaims, hoffers, hwrites, hwaiting, hwalk, hcaches, hnotices, hchannels,
    houtstanding, hlog⟩
  obtain ⟨hattached, hother⟩ := (hsessions p).1
  by_cases hp : (s.link p).state = .attached
  · have hsum := (hattached hp).1
    omega
  · rw [(hother hp).1]
    exact Nat.zero_le _

end

/-! ### Every command -/

section
variable {n k : Nat} {s t : State}

theorem tight_onArrival (h : s.tight n k) (p : PortId) (ht : t.tight n k) : leadsTo (State.tight n k) (onArrival p s t) :=
  leadsTo_whenOperating h fun _ => by
    split
    · exact ht
    · exact h

theorem tight_onEngine (h : s.tight n k) (ht : t.tight n k) : leadsTo (State.tight n k) (onEngine s t) :=
  leadsTo_whenOperating h fun _ => by
    split
    · exact ht
    · exact h

theorem tight_carried (h : s.tight n k) {c : ChannelId} {i : Nat} {a : Access64} {f : State → State}
    (hf : ∀ u, State.tight n k u → (f u).tight n k) : leadsTo (State.tight n k) (carryOut c i a f s) :=
  leadsTo_carryOut fun _ => hf _ (completeAccess_tight h c i)

theorem takeMapRead_tight (h : s.tight n k) (hwalks : s.walksInOrder) {p : PortId} {hpn : Nat} {r : MapResult}
    (hr : s.flight.mapResults.find? (fun r => r.port == p && r.hpn == hpn) = some r) :
    (takeMapResult p hpn r.value (s.mapResultTaken p hpn)).tight n k := by
  have hroom := hwalks.room hr
  have htaken : (s.mapResultTaken p hpn).tight n k :=
    State.setMapUnit_tight (s := s.setFlight _) h (Tight.writes h) (Tight.waiting h) (Nat.le_of_lt hroom)
  exact takeMapResult_tight htaken hroom hwalks.1 _

theorem sendMapAccess_tight (h : s.tight n 0) (hwalks : s.walksInOrder) {round : Round} (hgranted : s.granted 0 .map = some round) :
    (sendMapAccess round s).tight n 0 := by
  have hroom := State.granted_room hgranted
  have hwrite : ∀ w, s.mapUnit.queue.head? = some w → (sendMapWrite round w s).tight n 0 := fun w hw =>
    sendMapWrite_tight h hroom (hwalks.hasRepair (List.mem_append_left _ (List.mem_map_of_mem (List.mem_of_mem_head? hw))))
  unfold sendMapAccess
  split
  · next hw _ =>
    split
    · exact hwrite _ hw
    · exact sendMapRead_tight h _ _ hroom
  · next hw _ => exact hwrite _ hw
  · exact sendMapRead_tight h _ _ hroom
  · exact h

theorem repairSearch_tight (h : s.tight n k) : leadsTo (State.tight n k) (execRepairSearchStep s) := by
  refine leadsTo_whenOperating h fun _ => ?_
  split
  · next r rest _ hrepairs =>
    have hload := Tight.load h
    rw [hrepairs] at hload
    split
    · split
      · exact finishSearch_tight h hrepairs _
      · split
        · exact State.setMapUnit_tight h (Tight.writes h) (Tight.waiting h) hload
        · exact finishSearch_tight h hrepairs _
    all_goals exact h
  · exact h
  · exact h

theorem resetNAssert_tight (h : s.tight n 0) (pins : BitVec 3) : leadsTo (State.tight n 0) (execResetNAssert pins s) := by
  refine leadsTo_next ?_
  split
  · exact resetBlocks_tight _ _ _ (Nat.zero_le _)
  · exact h

theorem resetNRelease_tight (h : s.tight n 0) : leadsTo (State.tight n 0) (execResetNRelease s) := by
  refine leadsTo_next ?_
  dsimp only
  split
  · split
    · exact State.setMapUnit_tight (by exact h) (Nat.zero_le _) (.inl rfl) (Nat.zero_le _)
    · exact h
  · exact h

theorem supplyFail_tight (h : s.tight n k) : leadsTo (State.tight n k) (execSupplyFail s) := by
  refine leadsTo_next ?_
  have t : Tight .. := h
  refine { t with notices := fun p => ?_ }
  match p with
  | 0 => exact t.notices 0
  | 1 => exact t.notices 1
  | 2 => exact t.notices 2
  | 3 => exact t.notices 3

theorem exec_tight (c : Instr) (h : s.tight Config.recallTableSize 0) (hframes : s.framesInOrder) (hwalks : s.walksInOrder)
    (hrequests : s.requestsInOrder) : leadsTo (State.tight Config.recallTableSize 0) (exec c s) := by
  have hone := hframes.oneHolder
  cases c
  case powerOn pins => exact leadsTo_next (resetBlocks_tight _ _ _ (Nat.zero_le _))
  case resetNAssert pins => exact resetNAssert_tight h pins
  case resetNRelease => exact resetNRelease_tight h
  case supplyFail => exact supplyFail_tight h
  case farEndDetected p =>
    refine leadsTo_whenOperating h fun _ => ?_
    split
    · exact State.setLink_tight h (Tight.notices h p)
    · exact h
  case trainingCompletes p =>
    refine leadsTo_whenOperating h fun _ => ?_
    dsimp only
    split
    · exact State.setLink_tight h (Tight.notices h p)
    · exact h
  case trainingFails p =>
    refine leadsTo_whenOperating h fun _ => ?_
    split
    · exact State.setLink_tight h (Tight.notices h p)
    · exact h
  case linkDown p =>
    have hdown : (s.setLink p { s.link p with link := .down }).tight Config.recallTableSize 0 :=
      State.setLink_tight h (Tight.notices h p)
    refine leadsTo_whenOperating h fun _ => ?_
    dsimp only
    split
    · split
      · exact State.setLink_tight h (Tight.notices h p)
      · exact beginTeardown_tight (by exact hdown) _ _
      all_goals exact hdown
    · exact h
  case attach p => exact tight_onArrival h p (takeAttach_tight h p)
  case credit p a b => exact tight_onArrival h p (takeCredit_tight h p a b _)
  case recallAck p rid => exact tight_onArrival h p (takeRecallAck_tight h p rid _)
  case resetPort p => exact tight_onArrival h p (takeResetPort_tight h p)
  case malformedMessage p bytes =>
    refine tight_onArrival h p ?_
    split
    · exact takeMalformed_tight h p
    · exact takeMessage_tight h hrequests p _
  case read | write | cswap | fence | flush | detach => exact tight_onArrival h _ (takeRequest_tight h hrequests _ _ _ _)
  case commandArrival p tag cmd => exact tight_onArrival h p (takePoolCommand_tight h p tag cmd _)
  case claim p =>
    refine leadsTo_whenOperating h fun _ => ?_
    split
    · exact serveCommand_tight (examineClaim_tight (by exact h) _ _ _ _)
    · exact h
  case release p =>
    refine leadsTo_whenOperating h fun _ => ?_
    split
    · exact serveCommand_tight (examineRelease_tight (by exact h) (by exact hone) _ _ _)
    · exact h
  case drop p =>
    refine leadsTo_whenOperating h fun _ => ?_
    split
    · exact serveCommand_tight (examineDrop_tight (by exact h) _ _ _)
    · exact h
  case grant p =>
    refine leadsTo_whenOperating h fun _ => ?_
    split
    · exact serveCommand_tight (examineGrant_tight (by exact h) _ _ _ _ _)
    · exact h
  case accept p =>
    refine leadsTo_whenOperating h fun _ => ?_
    split
    · exact serveCommand_tight (examineAccept_tight (by exact h) _ _ _ _)
    · exact h
  case decline p =>
    refine leadsTo_whenOperating h fun _ => ?_
    split
    · exact serveCommand_tight (examineDecline_tight (by exact h) _ _ _)
    · exact h
  case revoke p =>
    refine leadsTo_whenOperating h fun _ => ?_
    split
    · exact serveCommand_tight (examineRevoke_tight (by exact h) _ _ _ _)
    · exact h
  case engineTakesTeardown p =>
    refine tight_onEngine h ?_
    split
    · exact takeTeardown_tight h p
    · exact h
  case teardownScan p =>
    refine leadsTo_whenOperating h fun _ => ?_
    split
    · split
      · exact scanTurn_tight (by exact h) (by exact hone) p _
      all_goals exact h
    · exact h
  case claimDeadline p tag =>
    refine tight_onEngine h ?_
    split
    · split
      · exact removeClaims_tight (handOver_tight h _ _) _
      · exact h
    · exact h
  case offerDeadline gid =>
    refine tight_onEngine h ?_
    split
    · split
      · exact informTarget_tight (resolveOffer_tight h _ _) _ _ _
      · exact h
    · exact h
  case recallDeadline rid =>
    refine leadsTo_whenOperating h fun _ => ?_
    split
    · split
      · split
        · exact forceRecall_tight h _
        · exact h
      · exact h
    · exact h
  case recallCompletionReport rid =>
    refine tight_onEngine h ?_
    split
    · split
      · exact takeCompletion_tight h _
      · exact h
    · exact h
  case scrubEndReport =>
    refine tight_onEngine h ?_
    split
    · split
      · exact takeScrubEnd_tight h _
      · exact h
    · exact h
  case correctableReport f line =>
    refine tight_onEngine h ?_
    split
    · exact countCorrectable_tight (by exact h) f
    · exact h
  case uncorrectableReport f line =>
    refine tight_onEngine h ?_
    split
    · dsimp only
      split
      · exact h
      · exact markDamaged_tight (by exact h) f
    · exact h
  case repairSearchStep => exact repairSearch_tight h
  case mapAccessGrant =>
    refine leadsTo_whenOperating h fun _ => ?_
    split
    · next hgranted _ => exact settleAll_tight (sendMapAccess_tight h hwalks hgranted) s
    all_goals exact h
  case mapClearWrite =>
    refine leadsTo_whenOperating h fun _ => ?_
    split
    · next hgranted _ =>
      have hsent := enqueue_tight h (State.granted_room hgranted)
      dsimp only
      split
      · exact hsent _ _
      · exact endMapClear_tight (hsent _ _)
    all_goals exact h
  case portAccessGrant c p =>
    refine leadsTo_whenOperating h fun _ => ?_
    split
    · next hgranted => exact sendLine_tight h hgranted
    · exact h
  case scrubAccessGrant c =>
    refine leadsTo_whenOperating h fun _ => ?_
    split
    · next hgranted _ => exact sendScrub_tight h hgranted _
    all_goals exact h
  case channelRead c i e =>
    change leadsTo _ (execChannelRead c i e s)
    unfold execChannelRead
    split
    · split
      · split
        · exact tight_carried h fun u hu => readAccess_tight hu _ _ _ _
        · exact leadsTo_next h
      · exact leadsTo_next h
    · exact leadsTo_next h
  case channelFullWrite c i =>
    change leadsTo _ (execChannelFullWrite c i s)
    unfold execChannelFullWrite
    split
    · split
      · split
        · exact tight_carried h fun u hu => handResult_tight (by exact hu) _ _
        · exact tight_carried h fun u hu => handResult_tight (by exact hu) _ _
        · exact leadsTo_next h
      · exact leadsTo_next h
    · exact leadsTo_next h
  case channelPartialWrite c i e =>
    change leadsTo _ (execChannelPartialWrite c i e s)
    unfold execChannelPartialWrite
    split
    · split
      · split
        · exact tight_carried h fun u hu => readAccess_tight hu _ _ _ _
        · exact leadsTo_next h
      · exact leadsTo_next h
    · exact leadsTo_next h
  case channelCswap c i e =>
    change leadsTo _ (execChannelCswap c i e s)
    unfold execChannelCswap
    split
    · split
      · split
        · exact tight_carried h fun u hu => readAccess_tight hu _ _ _ _
        · exact leadsTo_next h
      · exact leadsTo_next h
    · exact leadsTo_next h
  case mapReadResult p hpn =>
    refine leadsTo_whenOperating h fun _ => ?_
    split
    · exact h
    · next r hr => exact settleAll_tight (takeMapRead_tight h hwalks hr) s
  case lineResult p tag line =>
    refine leadsTo_whenOperating h fun _ => ?_
    split
    · exact h
    · exact takeLineResult_tight (by exact h) p _
  case scrubResult i =>
    refine leadsTo_whenOperating h fun _ => ?_
    split
    · refine State.setScrub_tight (by exact h) ?_
      rw [takeScrubResult_outstanding]
      exact Nat.le_trans (Nat.sub_le _ _) (Tight.outstanding h)
    · exact h
  case completionSend p =>
    refine leadsTo_whenOperating h fun _ => ?_
    dsimp only
    split
    · split
      · exact sendCompletion_tight h p _ _
      · exact h
    · exact h
  case noticeSend p =>
    refine leadsTo_whenOperating h fun _ => ?_
    dsimp only
    split
    · split
      · next hnotices => exact sendNotice_tight h hnotices
      · exact h
    · exact h
  case faultRecordAppend i =>
    refine leadsTo_whenOperating h fun _ => ?_
    split
    · exact State.setMgmt_tight (by exact h) (appendFault_length _ _ (Tight.log h))
    · exact h
  case mgmtRequestTransaction bytes =>
    refine leadsTo_whenOperating h fun _ => ?_
    split
    · exact h
    · exact h
    · exact takeMgmtRequest_tight (by exact h) _ _
  case resultTransaction i =>
    refine leadsTo_whenOperating h fun _ => ?_
    split <;> exact h
  case setQuota | setWeight | setTimeout | setThreshold | logRead | chipReset =>
    exact leadsTo_whenOperating h fun _ => takeMgmtRequest_tight (by exact h) _ _
  case getPoolStatus | getPortStatus | queryFrame =>
    refine leadsTo_whenOperating h fun _ => ?_
    split
    · exact answerSlot_tight h _ _
    · exact h
  case evict =>
    refine leadsTo_whenOperating h fun _ => ?_
    split
    · exact takeEvict_tight h _
    · exact h
  case quarantine =>
    refine leadsTo_whenOperating h fun _ => ?_
    split
    · exact takeQuarantine_tight h _
    · exact h
  case returnFrame =>
    refine leadsTo_whenOperating h fun _ => ?_
    split
    · exact takeReturn_tight h _
    · exact h
  case portReset =>
    refine leadsTo_whenOperating h fun _ => ?_
    split
    · exact takePortReset_tight h _
    · exact h
  case portDisable =>
    refine leadsTo_whenOperating h fun _ => ?_
    split
    · exact takePortDisable_tight h _
    · exact h
  case portEnable =>
    refine leadsTo_whenOperating h fun _ => ?_
    split
    · exact takePortEnable_tight h _
    · exact h

end

/-- Settles O54, by the command that the step carries out. -/
theorem stepKeepsCapacities : Obligations.StepKeepsCapacities := by
  unfold Obligations.StepKeepsCapacities
  intro s t hstep hframes hwalks hsessions hrequests h
  have htight := h.tight hwalks
  refine State.tight.withinCapacity ?_ (stepKeepsSessionsInOrder s t hstep hsessions)
  rcases step_cases hstep with rfl | ⟨c, rest, -, hexec⟩
  · exact htight
  · exact exec_tight c (s := { s with pending := rest }) htight hframes hwalks hrequests t hexec

end Sys2Proof.Machine
end
